-- ==== Sys2Proof/Word.lean ====
section
/-! DEFINITION. The word types of the PW-6408 and the index types of its numbered parts
(spec/00_scope.md, Conventions: byte order, numbering, running time). -/

namespace Sys2Proof

/-- One byte of a frame body, of a record or of a pad line character. -/
abbrev Byte := BitVec 8

/-- One character of a pad line: its eleven bits in the order they are sent, bit 0 the start bit, bits 1 to 8
the data bits, bit 9 the ninth bit and bit 10 the stop bit (R128). A bit of 1 stands at the mark level, 0 at
the space level (log entry 28). -/
abbrev LineChar := BitVec 11

/-- One byte as it stands on the fleet line: its ten bits in the order they are sent, bit 0 the start bit, bits 1
to 8 the data bits, least significant first, and bit 9 the stop bit; there is no parity bit (R148). A bit of 1
stands at the mark level, where the line rests, 0 at the space level (log entry 28). -/
abbrev FleetChar := BitVec 10

/-- The CRC register and the checks carried in frames (R199). -/
abbrev Word16 := BitVec 16

/-- A running time value: a count of 100 ms ticks modulo 2^32 (R1). -/
abbrev Ticks := BitVec 32

/-- A pad, 0 to 63. -/
abbrev PadId := Fin 64

/-- A feeder group, 0 to 7. -/
abbrev GroupId := Fin 8

/-- A pad line: A, B, C, D as 0 to 3, the numbering of R203. -/
abbrev LineId := Fin 4

/-- An input line, IN0 to IN7. -/
abbrev InputId := Fin 8

/-- An output line, OUT0 to OUT7. -/
abbrev OutputId := Fin 8

end Sys2Proof
end

