-- ==== Sys2Proof/Syntax.lean ====
section
/-! DEFINITION. The commands of the block: one constructor per row of spec/opcode_table.json, each with
the operands the outside world supplies. What the part itself decides is in no operand. -/

namespace Sys2Proof

/-- One character as it stands on a pad line when a Pad Line Controller receives it: three samples of each
of its eleven bits (R128, R129). What the part takes from them is in Machine/Operands.lean. -/
structure RxChar where
  first  : LineChar
  second : LineChar
  third  : LineChar
  deriving DecidableEq, Repr

/-- One byte as the receiver takes it from the fleet line: its ten bits (R148). Its data bits and its framing
error are read from them in Machine/Operands.lean. -/
structure RxByte where
  bits : FleetChar
  deriving DecidableEq, Repr

/-- The commands. A request row carries the tag and the body bytes of its fleet frame, whatever their
length (the owning rule judges it); a reply row carries every character the line received; a row of the
fleet line's receiver carries the bytes that arrive up to the event it is named after. -/
inductive Instr where
  /-- POWER_ON (R180): power is applied. -/
  | powerOn
  /-- RESET_INPUT (R180): the reset input is asserted. -/
  | resetInput
  /-- TICK (R1): 100 ms have passed. -/
  | tick
  /-- ROUND_TIMER_EXPIRY (R57): the expiry of the round timer is taken. -/
  | roundTimerExpiry
  /-- HEADROOM_TURNS_STALE (R95): a FRESH group whose age has passed its limit turns STALE. -/
  | headroomTurnsStale (group : GroupId)
  /-- ISSUE_STAGE (R73): the sweep in progress issues and completes. -/
  | issueStage
  /-- FAST_SHED_PASS_END (R84): the running fast-shed pass ends. -/
  | fastShedPassEnd
  /-- DISPATCH (R39), a request. -/
  | dispatch (tag : Byte) (body : List Byte)
  /-- RELEASE (R43), a request. -/
  | release (tag : Byte) (body : List Byte)
  /-- PAD_LIMIT (R47), a request. -/
  | padLimit (tag : Byte) (body : List Byte)
  /-- CLEAR_PAD (R54), a request. -/
  | clearPad (tag : Byte) (body : List Byte)
  /-- HEADROOM (R94), a request. -/
  | headroom (tag : Byte) (body : List Byte)
  /-- CLEAR_INPUT (R195), a request. -/
  | clearInput (tag : Byte) (body : List Byte)
  /-- OPEN_WINDOW (R8), a request. -/
  | openWindow (tag : Byte) (body : List Byte)
  /-- WRITE_RECORDS (R9), a request. -/
  | writeRecords (tag : Byte) (body : List Byte)
  /-- READ_RECORDS (R10), a request. -/
  | readRecords (tag : Byte) (body : List Byte)
  /-- COMMIT (R11), a request. -/
  | commit (tag : Byte) (body : List Byte)
  /-- COMMIT_CHECK_END (R15): the commit check ends. -/
  | commitCheckEnd
  /-- DISCARD (R16), a request. -/
  | discard (tag : Byte) (body : List Byte)
  /-- SET_MODE_HALT (R171), a SET_MODE request. -/
  | setModeHalt (tag : Byte) (body : List Byte)
  /-- SET_MODE_RESUME (R172), a SET_MODE request. -/
  | setModeResume (tag : Byte) (body : List Byte)
  /-- SET_MODE_FINE (R175), a SET_MODE request. -/
  | setModeFine (tag : Byte) (body : List Byte)
  /-- SET_MODE_STEPPED (R175), a SET_MODE request. -/
  | setModeStepped (tag : Byte) (body : List Byte)
  /-- SET_MODE_FULL (R176), a SET_MODE request. -/
  | setModeFull (tag : Byte) (body : List Byte)
  /-- SET_MODE_PARTIAL (R176), a SET_MODE request. -/
  | setModePartial (tag : Byte) (body : List Byte)
  /-- RESTART (R179), a request. -/
  | restart (tag : Byte) (body : List Byte)
  /-- READ_CAPTURE (R183), a request. -/
  | readCapture (tag : Byte) (body : List Byte)
  /-- ACK_NOTICES (R187), a request. -/
  | ackNotices (tag : Byte) (body : List Byte)
  /-- SET_NOTICE_MASK (R188), a request. -/
  | setNoticeMask (tag : Byte) (body : List Byte)
  /-- READ_STATUS (R162), a request. -/
  | readStatus (tag : Byte) (body : List Byte)
  /-- READ_PAD (R164), a request. -/
  | readPad (tag : Byte) (body : List Byte)
  /-- READ_FEEDER (R166), a request. -/
  | readFeeder (tag : Byte) (body : List Byte)
  /-- READ_LINE (R167), a request. -/
  | readLine (tag : Byte) (body : List Byte)
  /-- BAD_KIND_REQUEST (R154): a taken frame whose kind is no request kind. -/
  | badKindRequest (kind tag : Byte) (body : List Byte)
  /-- FLEET_FRAME_RECEIVED (R149, R150): a frame arrives on the fleet line, as its sender lays it out: what
  comes before it with its start byte; its length, kind and tag; its body; its check; and what has come after
  it. The receiver takes the bytes one by one and finds the frame's start and end itself; a part that has
  arrived earlier is empty here. -/
  | fleetFrameReceived (before head body check after : List RxByte)
  /-- FLEET_LENGTH_ABOVE_240 (R149, R150): bytes arrive on the fleet line, the last of them a length byte
  above 240. -/
  | fleetLengthAbove240 (bytes : List RxByte)
  /-- FLEET_FRAME_ABORT (R151): a gap of more than 5 ms within a frame. -/
  | fleetFrameAbort
  /-- FRAME_TRANSMIT_START (R157): the transmitter starts the head frame. -/
  | frameTransmitStart
  /-- FRAME_TRANSMIT_END (R157): the last byte of the frame in transmission is sent. -/
  | frameTransmitEnd
  /-- TRANSACTION_START (R130): an idle line picks its turn and sends a request. -/
  | transactionStart (line : LineId)
  /-- REPLY_TIMEOUT (R130): no reply address character within the reply timeout. -/
  | replyTimeout (line : LineId)
  /-- REPORT (R26): a reply of kind REPORT ends. -/
  | report (line : LineId) (reply : List RxChar)
  /-- FAULT_REPORT (R51): a reply of kind FAULT_REPORT ends. -/
  | faultReport (line : LineId) (reply : List RxChar)
  /-- CAPS (R35): a reply of kind CAPS ends. -/
  | caps (line : LineId) (reply : List RxChar)
  /-- REPLY_FAILED (R132): a reply ends as CORRUPT or WRONG_REPLY. -/
  | replyFailed (line : LineId) (reply : List RxChar)
  /-- LINE_BREAK_END (R142): the break on a line ends. -/
  | lineBreakEnd (line : LineId)
  /-- INPUT_LINE_CHANGE (R191): the electrical level of an input line changes. -/
  | inputLineChange (input : InputId) (high : Bool)
  /-- INPUT_EDGE_TAKEN (R191): an input has stood at its new level for 2 ms. -/
  | inputEdgeTaken (input : InputId)
  deriving DecidableEq, Repr

end Sys2Proof
end

