-- ==== Sys2Proof/Decode.lean ====
section
/-! DEFINITION. The command that a word of the opcode table's bits spells. The part has no instruction
words: no row of spec/opcode_table.json gives bits ("fields" is empty in each), so no word spells a
command. -/

namespace Sys2Proof

/-- The command that the `nbits` bits of `w` spell by the table's bits: none, as no row gives bits. A
request of the fleet line is a command with its frame's tag and body, not a word. -/
def decodeTableWord (_nbits _w : Nat) : Option Instr := none

end Sys2Proof
end

