-- ==== Sys2Proof/Config.lean ====
section
/-! DEFINITION. What the spec fixes once for every part (depths and limits), and the free values: what
the spec leaves open and no proof may look into. -/

namespace Sys2Proof.Config

/-- The receive queue holds at most 4 frames (R152). -/
def rxDepth : Nat := 4

/-- At most 4 RESPONSE frames are queued or in transmission (R157). -/
def responseLimit : Nat := 4

/-- The attention capture queue holds at most 8 entries (R181). -/
def captureDepth : Nat := 8

/-- A reply ends at 300 characters (R131). -/
def replyLimit : Nat := 300

/-- A fleet frame body holds at most 240 bytes (R148). -/
def bodyLimit : Nat := 240

/-- A WRITE_RECORDS holds at most 16 records (R9). -/
def writeLimit : Nat := 16

/-- FREE VALUE. A byte that the spec gives no value: the first and last pad bytes of a scope that is
FULL (R201 gives a scope three bytes and gives those two a meaning for PARTIAL alone). The argument is
the state's free-value counter, so that two uses need not agree. Log entry 3. -/
opaque freeByte : Nat → Byte

/-- FREE VALUE. The order in which several pads of one event join an urgent list, or several drops a
final poll list, where the spec gives none (R74, R177, R20): the sort key of the pad or drop `k` in the
event numbered `n` by the free-value counter. Log entry 4. -/
opaque freeOrder : Nat → Nat → Nat

end Sys2Proof.Config
end

