-- ==== Sys2Proof/Machine/State.lean ====
section
/-! DEFINITION. The state of the part, block by block as spec/00_scope.md names its blocks, as plain
data; the reasons a step can stop; and the state after power-on. -/

namespace Sys2Proof.Machine

/-! ## Table Store (chapter 1) -/

/-- One bank: the four tables, every record byte for byte as it was written (R2, R203). -/
structure Bank where
  site   : Vector Byte 32
  feeder : Vector (Vector Byte 16) 8
  pad    : Vector (Vector Byte 12) 64
  line   : Vector (Vector Byte 4) 16
  deriving DecidableEq, Repr

/-- The four tables, in the order of their ids 0 to 3 (R2). -/
inductive TableId
  | site | feeder | pad | line
  deriving DecidableEq, Repr

/-- The bank a load window reads from (R8); its codes are 0 and 1 in this order. -/
inductive ReadBank
  | shadow | active
  deriving DecidableEq, Repr

/-- The load window (R8): a table, a range of its records, the cursor and the read bank. -/
structure Window where
  table  : TableId
  first  : Nat
  last   : Nat
  cursor : Nat
  bank   : ReadBank
  deriving DecidableEq, Repr

/-- The commit state (R11). While CHECKING, the CRC that the COMMIT carried and the tag its response
will carry (R12, R155). -/
inductive CommitState
  | idle
  | checking (crc : Word16) (tag : Byte)
  | pending
  deriving DecidableEq, Repr

/-- The Table Store (R2, R8, R11). `loaded` holds the marks of SITE, FEEDER, PAD and LINE. -/
structure Tables where
  shadow : Bank
  active : Bank
  loaded : Vector Bool 4
  commit : CommitState
  window : Option Window
  deriving DecidableEq, Repr

/-! ## Sessions with the figures the other blocks keep with them (chapters 2, 3, 5) -/

/-- The nine session states, in the order of R31. -/
inductive SessionState
  | disabled | empty | probing | waiting | charging | complete | releasing | silent | faulted
  deriving DecidableEq, Repr

/-- The fields of a REPORT (R26, R202). -/
structure Report where
  present : Bool
  closed  : Bool
  ready   : Bool
  docking : Byte
  applied : Nat
  metered : Nat
  voltage : Nat
  energy  : Nat
  accept  : Nat
  charge  : Byte
  deriving DecidableEq, Repr

/-- Where a capability record comes from (R27); codes 0 and 1 in this order. -/
inductive CapSource
  | vehicle | default
  deriving DecidableEq, Repr

/-- A capability record (R27). -/
structure Capability where
  vmax         : Nat
  vmin         : Nat
  vehicleId    : Option (BitVec 32)
  battery      : Option Nat
  tiers        : List Nat
  source       : CapSource
  tiersIgnored : Bool
  deriving DecidableEq, Repr

/-- A dispatch record (R28): target, energy at dispatch, deadline and missed mark. -/
structure Dispatch where
  target   : Nat
  base     : Nat
  deadline : Ticks
  missed   : Bool
  deriving DecidableEq, Repr

/-- One pad: its session record (R25), the Allocation Engine's figures (R56), the Compliance Monitor's
figures (R112), its line's consecutive-failure count (R127) and its voltage sample (R98). `stayed` is
the model's own: since the sweep in progress started, the session has been in no state other than
WAITING and CHARGING (R73). -/
structure Pad where
  state       : SessionState
  inScope     : Bool
  docking     : Byte
  inDocking   : Bool
  report      : Option Report
  caps        : Option Capability
  attempts    : Nat
  dispatch    : Option Dispatch
  limit       : Option Nat
  fault       : Option Byte
  need        : Nat
  urgency     : Nat
  grant       : Nat
  sent        : Nat
  prior       : Nat
  decPending  : Bool
  reservation : Nat
  roundsLeft  : Nat
  delivered   : Nat
  remaining   : Nat
  overdraw    : Nat
  failures    : Nat
  sample      : Option Nat
  stayed      : Bool
  deriving DecidableEq, Repr

/-! ## Allocation Engine (chapter 3) -/

/-- The resolution (R168); codes 0 and 1 in this order. -/
inductive Resolution
  | fine | stepped
  deriving DecidableEq, Repr

/-- What the snapshot holds for one pad (R59). `deadline` is present when a dispatch record is held. -/
structure PadSnap where
  state       : SessionState
  inScope     : Bool
  caps        : Option Capability
  deadline    : Option Ticks
  remaining   : Nat
  accept      : Option Nat
  limit       : Option Nat
  sent        : Nat
  reservation : Nat
  deriving DecidableEq, Repr

/-- The snapshot a sweep works from (R59). -/
structure Snapshot where
  pads       : Vector PadSnap 64
  capacity   : Vector Nat 8
  bank       : Bank
  resolution : Resolution
  now        : Ticks
  deriving DecidableEq, Repr

/-- The fast-shed state (R56). -/
inductive FastShed
  | none | pending | running
  deriving DecidableEq, Repr

/-- The Allocation Engine (R56). The sweep state is SWEEPING exactly while `sweep` holds a snapshot;
`sweepWaiting` is a sweep start that waits for a fast-shed pass (R57). -/
structure Alloc where
  sweep        : Option Snapshot
  fastShed     : FastShed
  sweepWaiting : Bool
  rotation     : Nat
  rounds       : BitVec 32
  kept         : List PadId
  deriving DecidableEq, Repr

/-! ## Capacity Monitor (chapter 4) -/

/-- The headroom state of a group (R90). -/
inductive HeadroomState
  | none | fresh | stale
  deriving DecidableEq, Repr

/-- The voltage state of a group (R90). -/
inductive VoltageState
  | normal | warn | shed
  deriving DecidableEq, Repr

/-- The Capacity Monitor's state for one feeder group (R90). The sample set is kept sample by sample
in the pads; the minimum and `shed active` are read from what is stored here. -/
structure Group where
  headroom  : Nat
  age       : Nat
  hstate    : HeadroomState
  vstate    : VoltageState
  shedInput : Bool
  capacity  : Nat
  deriving DecidableEq, Repr

/-! ## Pad Line Controllers (chapter 6) -/

/-- The two requests on a pad line (R133). -/
inductive LineRequest
  | poll | probe
  deriving DecidableEq, Repr

/-- The slot a turn comes from, in the order of R136. -/
inductive Slot
  | final | urgent | normal
  deriving DecidableEq, Repr

/-- A transaction in flight (R127). `pad` is absent under the final-poll mark. `inDiscovery` is the
model's own: the transaction was started while the line's discovery mark stood, after the entry to
DISCOVERING that set it (R144). -/
structure Transaction where
  drop        : Nat
  pad         : Option PadId
  request     : LineRequest
  slot        : Slot
  timeout     : Nat
  inDiscovery : Bool
  deriving DecidableEq, Repr

/-- One Pad Line Controller (R127). The cycle members are read from the active bank. `breaking`: the
line is being held at the space level (R142). `busy`: a reply ended at its 300th character and the line
has not been seen idle since (R131). `wire`: the characters of the last request it sent, bit for bit
(R128, R202), the line's output. -/
structure LineCtl where
  position      : Option Nat
  urgent        : List PadId
  final         : List Nat
  inFlight      : Option Transaction
  abandon       : Bool
  breakPending  : Bool
  breaking      : Bool
  busy          : Bool
  discovery     : Bool
  finalOffered  : Bool
  urgentOffered : Bool
  good          : Nat
  noisy         : Nat
  corrupt       : Nat
  wrong         : Nat
  noReply       : Nat
  wire          : List LineChar
  deriving DecidableEq, Repr

/-! ## Fleet Line Port (chapter 7) -/

/-- A good frame waiting in the receive queue (R152). -/
structure RxFrame where
  kind : Byte
  tag  : Byte
  body : List Byte
  deriving DecidableEq, Repr

/-- An outgoing frame: a RESPONSE or a NOTICE (R155, R158). -/
structure TxFrame where
  kind : Byte
  tag  : Byte
  body : List Byte
  deriving DecidableEq, Repr

/-- An entry of the transmit queue: a RESPONSE, formed when its request was taken, or the waiting
NOTICE, whose contents are formed only when its transmission starts (R157, R158). -/
inductive TxItem
  | response (f : TxFrame)
  | notice
  deriving DecidableEq, Repr

/-- The receiver of the fleet line (R149): hunting for a start byte, or within a frame, with the bytes
received after its start byte. -/
inductive Receiver
  | hunt
  | frame (got : List RxByte)
  deriving DecidableEq, Repr

/-- The Fleet Line Port (R149, R152, R157, R159). `restartWaiting`: a RESTART has been taken and has not
taken effect. -/
structure Fleet where
  receiver       : Receiver
  rx             : List RxFrame
  tx             : List TxItem
  sending        : Option TxFrame
  corrupt        : Nat
  dropped        : Nat
  restartWaiting : Bool
  deriving DecidableEq, Repr

/-! ## Mode Control (chapter 8) -/

/-- The engine mode (R168). -/
inductive EngineMode
  | halted | discovering | running
  deriving DecidableEq, Repr

/-- The scope (R168). -/
inductive Scope
  | full
  | range (first last : PadId)
  deriving DecidableEq, Repr

/-- Mode Control (R168). -/
structure ModeControl where
  engine     : EngineMode
  resolution : Resolution
  scope      : Scope
  held       : Option Scope
  stopLatch  : Bool
  deriving DecidableEq, Repr

/-! ## Notice Unit (chapter 9) -/

/-- The eleven notice kinds, in the order of their numbers 0 to 10 (R200). -/
inductive Notice
  | padFault | padSilent | padComplete | deadlineMissed | feederWarn | feederShed
  | headroomStale | commitDone | inputEvent | captureOverflow | requestDropped
  deriving DecidableEq, Repr

/-- The source of a capture entry (R181); codes 0 and 1 in this order. -/
inductive CaptureSource
  | charger | coordinator
  deriving DecidableEq, Repr

/-- A capture entry (R181). -/
structure CaptureEntry where
  seq    : Byte
  pad    : PadId
  source : CaptureSource
  code   : Byte
  power  : Nat
  time   : Ticks
  deriving DecidableEq, Repr

/-- The Notice Unit (R181, R185). A set of notice kinds is the figure of R200: bit k for kind k. -/
structure NoticeUnit where
  captures      : List CaptureEntry
  nextSeq       : Byte
  overflow      : Bool
  overflowCount : Nat
  pendingSet    : BitVec 11
  mask          : BitVec 11
  deriving DecidableEq, Repr

/-! ## Signal Line Unit (chapter 10) and Time Base -/

/-- The Signal Line Unit (R191, R197). `level` is the electrical level on each input pin, which the
outside world sets; the 2 ms stability count runs while it differs from `taken`. True is HIGH. -/
structure Signals where
  level   : Vector Bool 8
  taken   : Vector Bool 8
  latch   : Vector Bool 8
  outputs : Vector Bool 8
  deriving DecidableEq, Repr

/-- The Time Base (R1). `timer` is absent while the round timer is stopped; `some 0` is an expiry not
yet taken (R57). -/
structure TimeBase where
  running : Ticks
  timer   : Option Nat
  deriving DecidableEq, Repr

/-- The whole part. `freeCount` is the model's own: it numbers the uses of the free values of Config.
`pending` is the queue of commands that wait, first in, first out. -/
structure State where
  time      : TimeBase
  tables    : Tables
  pads      : Vector Pad 64
  alloc     : Alloc
  groups    : Vector Group 8
  lines     : Vector LineCtl 4
  fleet     : Fleet
  mode      : ModeControl
  notices   : NoticeUnit
  signals   : Signals
  freeCount : Nat
  pending   : List Instr
  deriving DecidableEq, Repr

/-- Reasons for a fault. There are none: the spec describes no event at which the part stops, so no
meaning of this model faults. -/
inductive Fault
  deriving DecidableEq, Repr

/-- Reasons for a refusal. -/
inductive Refusal
  /-- A command whose meaning is not written yet; raised by exec's arms alone. Safe: no next state. No
  arm of this model raises it. -/
  | notModelled (mnemonic : String)
  deriving DecidableEq, Repr

/-! ## The state after power-on -/

/-- An all-zero bank (R24). -/
def Bank.zero : Bank where
  site   := Vector.replicate 32 0
  feeder := Vector.replicate 8 (Vector.replicate 16 0)
  pad    := Vector.replicate 64 (Vector.replicate 12 0)
  line   := Vector.replicate 16 (Vector.replicate 4 0)

/-- A pad after power-on (R55, R89, R112, R147). -/
def Pad.initial : Pad where
  state       := .disabled
  inScope     := true
  docking     := 0
  inDocking   := false
  report      := none
  caps        := none
  attempts    := 0
  dispatch    := none
  limit       := none
  fault       := none
  need        := 0
  urgency     := 0
  grant       := 0
  sent        := 0
  prior       := 0
  decPending  := false
  reservation := 0
  roundsLeft  := 0
  delivered   := 0
  remaining   := 0
  overdraw    := 0
  failures    := 0
  sample      := none
  stayed      := false

/-- A group after power-on (R111): disabled, so its effective capacity is 0. -/
def Group.initial : Group where
  headroom  := 0
  age       := 0
  hstate    := .none
  vstate    := .normal
  shedInput := false
  capacity  := 0

/-- A line after power-on (R147): the break that the entry to HALTED asked for has started, because no
transaction is in flight (R142). -/
def LineCtl.initial : LineCtl where
  position      := none
  urgent        := []
  final         := []
  inFlight      := none
  abandon       := false
  breakPending  := false
  breaking      := true
  busy          := false
  discovery     := false
  finalOffered  := false
  urgentOffered := false
  good          := 0
  noisy         := 0
  corrupt       := 0
  wrong         := 0
  noReply       := 0
  wire          := []

/-- The state that power-on leaves (R24, R55, R89, R111, R147, R160, R180, R190, R198), given the
levels that stand on the input pins, the free-value counter and the waiting commands. -/
def State.afterPowerOn (level : Vector Bool 8) (freeCount : Nat) (pending : List Instr) : State where
  time      := { running := 0, timer := none }
  tables    := { shadow := Bank.zero, active := Bank.zero, loaded := Vector.replicate 4 false,
                 commit := .idle, window := none }
  pads      := Vector.replicate 64 Pad.initial
  alloc     := { sweep := none, fastShed := .none, sweepWaiting := false, rotation := 0, rounds := 0,
                 kept := [] }
  groups    := Vector.replicate 8 Group.initial
  lines     := Vector.replicate 4 LineCtl.initial
  fleet     := { receiver := .hunt, rx := [], tx := [], sending := none, corrupt := 0
                 dropped := 0, restartWaiting := false }
  mode      := { engine := .halted, resolution := .fine, scope := .full, held := none,
                 stopLatch := false }
  notices   := { captures := [], nextSeq := 0, overflow := false, overflowCount := 0,
                 pendingSet := 0, mask := 0 }
  signals   := { level := level, taken := level, latch := Vector.replicate 8 false,
                 outputs := Vector.replicate 8 false }
  freeCount := freeCount
  pending   := pending

/-- The part right after reset. The levels on the input pins are the outside world's; LOW is taken for
each (DESIGN CHOICE, log entry 1). -/
def State.reset : State := State.afterPowerOn (Vector.replicate 8 false) 0 []

end Sys2Proof.Machine
end

