-- ==== Sys2Proof/Machine/Data.lean ====
section
/-! DEFINITION. Helpers with no meaning of their own: vectors from functions, sums over the pads, byte
order, a stable insertion sort, and the CRC of R199. -/

namespace Sys2Proof.Machine

/-- The vector whose entry `i` is `f i`. -/
def tabulate {α : Type} (n : Nat) (f : Fin n → α) : Vector α n :=
  ⟨⟨List.ofFn f⟩, by simp⟩

/-- Every pad, in ascending number. -/
def allPads : List PadId := List.finRange 64

/-- Every feeder group, in ascending number. -/
def allGroups : List GroupId := List.finRange 8

/-- Every pad line, A to D. -/
def allLines : List LineId := List.finRange 4

/-- Every input line, IN0 to IN7. -/
def allInputs : List InputId := List.finRange 8

/-- The sum of a figure over the 64 pads. -/
def padSum (f : PadId → Nat) : Nat := (allPads.map f).sum

/-- Insertion into a list kept in the order `le`, after the entries it does not precede strictly. -/
def insertBy {α : Type} (le : α → α → Bool) (x : α) : List α → List α
  | [] => [x]
  | y :: ys => if le x y then x :: y :: ys else y :: insertBy le x ys

/-- Insertion sort by `le`. -/
def sortBy {α : Type} (le : α → α → Bool) : List α → List α
  | [] => []
  | x :: xs => insertBy le x (sortBy le xs)

/-! ## Byte order: most significant byte first (spec/00_scope.md, Conventions) -/

/-- The figure of two bytes. -/
def be16 (hi lo : Byte) : Nat := hi.toNat * 256 + lo.toNat

/-- Byte `i` of a body; 0 where the body is shorter (no rule reads past a body's checked length). -/
def byteAt (b : List Byte) (i : Nat) : Byte := b.getD i 0

/-- The two-byte field at offset `i` of a body. -/
def wordAt (b : List Byte) (i : Nat) : Nat := be16 (byteAt b i) (byteAt b (i + 1))

/-- A figure as one byte. -/
def byte1 (n : Nat) : Byte := BitVec.ofNat 8 n

/-- A figure as two bytes. -/
def bytes2 (n : Nat) : List Byte := [BitVec.ofNat 8 (n / 256), BitVec.ofNat 8 n]

/-- A 32-bit value as four bytes. -/
def bytes4 (t : BitVec 32) : List Byte :=
  [t.extractLsb' 24 8, t.extractLsb' 16 8, t.extractLsb' 8 8, t.extractLsb' 0 8]

/-- A two-valued state as its byte: 01h for set, yes, LOADED, HIGH or ACTIVE (R201). -/
def flagByte (b : Bool) : Byte := if b then 1 else 0

/-- An optional item (R201): a presence byte, then the item's bytes, sent as 0 when it is absent. -/
def optBytes {α : Type} (size : Nat) (enc : α → List Byte) : Option α → List Byte
  | none => 0 :: List.replicate size 0
  | some a => 1 :: enc a

/-- A list as a count byte and `places` fixed places of one byte, the unused ones 0 (R201). -/
def listBytes (places : Nat) (l : List Byte) : List Byte :=
  byte1 l.length :: (l ++ List.replicate (places - l.length) 0)

/-- One more on a counter that stops at `top`. -/
def satInc (top n : Nat) : Nat := if n < top then n + 1 else top

/-! ## The frame and table CRC (R199) -/

/-- One shift of the CRC register. -/
def crcShift (r : Word16) : Word16 :=
  if r.msb then (r <<< 1) ^^^ 0x1021#16 else r <<< 1

/-- One byte through the CRC register. -/
def crcByte (r : Word16) (b : Byte) : Word16 :=
  let x := r ^^^ (b.setWidth 16 <<< 8)
  crcShift (crcShift (crcShift (crcShift (crcShift (crcShift (crcShift (crcShift x)))))))

/-- The frame and table CRC of a run of bytes (R199). -/
def crc (bs : List Byte) : Word16 := bs.foldl crcByte 0xFFFF#16

/-- The two check bytes of a CRC, most significant first (R199). -/
def crcBytes (w : Word16) : List Byte := [w.extractLsb' 8 8, w.extractLsb' 0 8]

end Sys2Proof.Machine
end

