-- ==== Sys2Proof/Machine/Operands.lean ====
section
/-! DEFINITION. What the bytes mean: the fields of the four table records (R3 to R7, R203), the result
codes and the codes of the enumerations (R200, R201), the bodies of the pad line frames (R202), and the
characters of a pad line and the judgement of a reply from them (R128 to R133). -/

namespace Sys2Proof.Machine

/-! ## Table records (R203) -/

/-- The fields of the site record (R3). -/
structure SiteRec where
  limit         : Nat
  period        : Nat
  holdRounds    : Nat
  missLimit     : Nat
  probeAttempts : Nat
  replyTimeout  : Nat
  head          : Nat
  tail          : Nat
  step          : Nat
  defMax        : Nat
  defMin        : Nat
  holdTime      : Nat
  deriving DecidableEq, Repr

/-- The site record's fields at their offsets (R203). -/
def siteView (r : Vector Byte 32) : SiteRec where
  limit         := be16 r[0] r[1]
  period        := be16 r[2] r[3]
  holdRounds    := r[4].toNat
  missLimit     := r[5].toNat
  probeAttempts := r[6].toNat
  replyTimeout  := r[7].toNat
  head          := r[8].toNat
  tail          := r[9].toNat
  step          := r[10].toNat
  defMax        := be16 r[11] r[12]
  defMin        := be16 r[13] r[14]
  holdTime      := be16 r[15] r[16]

/-- The monitor mode of a group (R4), in the order of its codes 0 to 3 (R203). -/
inductive MonitorMode
  | off | notify | shedOnly | notifyAndShed
  deriving DecidableEq, Repr

/-- The fields of a feeder group record (R4). -/
structure FeederRec where
  enabled       : Bool
  rated         : Nat
  fallback      : Nat
  shed          : Nat
  ramp          : Nat
  tolerance     : Nat
  overdrawLimit : Nat
  monitor       : MonitorMode
  warnLevel     : Nat
  warnRelease   : Nat
  shedLevel     : Nat
  shedRelease   : Nat
  deriving DecidableEq, Repr

/-- The monitor mode of bits 1 to 0 (R203). -/
def monitorOf (b : Byte) : MonitorMode :=
  match b.getLsbD 1, b.getLsbD 0 with
  | false, false => .off
  | false, true  => .notify
  | true,  false => .shedOnly
  | true,  true  => .notifyAndShed

/-- A voltage threshold: 256 times its two high bits, at bit `sh` of the last byte, plus its low byte
(R203). -/
def threshold (low high : Byte) (sh : Nat) : Nat :=
  256 * (high.extractLsb' sh 2).toNat + low.toNat

/-- A feeder group record's fields at their offsets (R203). -/
def feederView (r : Vector Byte 16) : FeederRec where
  enabled       := r[0] == 1
  rated         := be16 r[3] r[4]
  fallback      := be16 r[5] r[6]
  shed          := be16 r[7] r[8]
  ramp          := be16 r[9] r[10]
  tolerance     := r[2].toNat
  overdrawLimit := (r[1].extractLsb' 4 3).toNat
  monitor       := monitorOf r[1]
  warnLevel     := threshold r[11] r[15] 6
  warnRelease   := threshold r[12] r[15] 4
  shedLevel     := threshold r[13] r[15] 2
  shedRelease   := threshold r[14] r[15] 0

/-- The fields of a pad record (R5). -/
structure PadRec where
  enabled       : Bool
  opportunity   : Bool
  assumeDefault : Bool
  line          : LineId
  drop          : Nat
  group         : GroupId
  cls           : Nat
  ceiling       : Nat
  deriving DecidableEq, Repr

/-- A pad record's fields at their offsets (R203). Validation keeps the line to 0 to 3 and the group to
0 to 7; the low bits are read (log entry 5). -/
def padView (r : Vector Byte 12) : PadRec where
  enabled       := r[0] == 1
  opportunity   := r[1].getLsbD 0
  assumeDefault := r[1].getLsbD 1
  line          := Fin.ofNat 4 r[2].toNat
  drop          := r[3].toNat
  group         := Fin.ofNat 8 r[4].toNat
  cls           := r[5].toNat
  ceiling       := be16 r[6] r[7]

/-- The function of an input (R6), in the order of its codes (R203). -/
inductive InputFunction
  | none | shed | stop | notify
  deriving DecidableEq, Repr

/-- The sense of an input (R6), in the order of its codes (R203). -/
inductive Sense
  | rising | falling | both | levelHigh | levelLow
  deriving DecidableEq, Repr

/-- The fields of an input record (R6). -/
structure InputRec where
  function : InputFunction
  group    : GroupId
  sense    : Sense
  deriving DecidableEq, Repr

/-- The code of an input's function (R203); a code that validation refuses reads as NONE (log entry 5). -/
def functionOf (b : Byte) : InputFunction :=
  match b.toNat with
  | 1 => .shed
  | 2 => .stop
  | 3 => .notify
  | _ => .none

/-- The code of an input's sense (R203); a code that validation refuses reads as RISING (log entry 5). -/
def senseOf (b : Byte) : Sense :=
  match b.toNat with
  | 1 => .falling
  | 2 => .both
  | 3 => .levelHigh
  | 4 => .levelLow
  | _ => .rising

/-- An input record's fields at their offsets (R203). -/
def inputView (r : Vector Byte 4) : InputRec where
  function := functionOf r[0]
  group    := Fin.ofNat 8 r[1].toNat
  sense    := senseOf r[2]

/-- The source of an output (R7), in the order of its codes (R203). -/
inductive OutputSource
  | off | roundActive | halted | feederWarn | feederShed | anyFaulted | noticePending
  | captureNonempty | headroomStaleAny | inputLatch
  deriving DecidableEq, Repr

/-- The fields of an output record (R7). -/
structure OutputRec where
  source : OutputSource
  arg    : Fin 8
  invert : Bool
  deriving DecidableEq, Repr

/-- The code of an output's source (R203); a code that validation refuses reads as OFF (log entry 5). -/
def sourceOf (b : Byte) : OutputSource :=
  match b.toNat with
  | 1 => .roundActive
  | 2 => .halted
  | 3 => .feederWarn
  | 4 => .feederShed
  | 5 => .anyFaulted
  | 6 => .noticePending
  | 7 => .captureNonempty
  | 8 => .headroomStaleAny
  | 9 => .inputLatch
  | _ => .off

/-- An output record's fields at their offsets (R203). -/
def outputView (r : Vector Byte 4) : OutputRec where
  source := sourceOf r[0]
  arg    := Fin.ofNat 8 r[1].toNat
  invert := r[2] == 1

/-! ## The active bank, as every block reads it (R2) -/

/-- The active site record. -/
def State.site (s : State) : SiteRec := siteView s.tables.active.site

/-- The feeder group record `g` of a bank. -/
def Bank.feederRec (b : Bank) (g : GroupId) : FeederRec := feederView b.feeder[g]

/-- The pad record `p` of a bank. -/
def Bank.padRec (b : Bank) (p : PadId) : PadRec := padView b.pad[p]

/-- The record of input `i` of a bank: line record `i` (R6). -/
def Bank.inputRec (b : Bank) (i : InputId) : InputRec := inputView (b.line[i.val]'(by omega))

/-- The record of output `o` of a bank: line record `8 + o` (R7). -/
def Bank.outputRec (b : Bank) (o : OutputId) : OutputRec :=
  outputView (b.line[8 + o.val]'(by omega))

/-- The active record of a feeder group. -/
def State.feederRec (s : State) (g : GroupId) : FeederRec := s.tables.active.feederRec g

/-- The active record of a pad. -/
def State.padRec (s : State) (p : PadId) : PadRec := s.tables.active.padRec p

/-- The active record of an input. -/
def State.inputRec (s : State) (i : InputId) : InputRec := s.tables.active.inputRec i

/-- The active record of an output. -/
def State.outputRec (s : State) (o : OutputId) : OutputRec := s.tables.active.outputRec o

/-! ## Codes (R200, R201) -/

/-- The result codes (R156). -/
inductive ResultCode
  | ok | okClamped | badKind | badLength | range | state | busy | noWindow | crcMismatch
  | invalidTable | noTables
  deriving DecidableEq, Repr

/-- The value of a result code (R200). -/
def ResultCode.byte : ResultCode → Byte
  | .ok           => 0x00
  | .okClamped    => 0x01
  | .badKind      => 0x10
  | .badLength    => 0x11
  | .range        => 0x12
  | .state        => 0x13
  | .busy         => 0x14
  | .noWindow     => 0x15
  | .crcMismatch  => 0x16
  | .invalidTable => 0x17
  | .noTables     => 0x18

/-- The twenty request kinds by code (R200). -/
def requestKinds : List Byte :=
  [0x01, 0x02, 0x03, 0x04, 0x08, 0x0C, 0x10, 0x11, 0x12, 0x13,
   0x14, 0x18, 0x19, 0x20, 0x21, 0x22, 0x28, 0x29, 0x2A, 0x2B]

/-- The code of RESPONSE (R200). -/
def kindResponse : Byte := 0x80

/-- The code of NOTICE (R200). -/
def kindNotice : Byte := 0x81

/-- The code of RESTART (R200). -/
def kindRestart : Byte := 0x19

/-- The code of COMMIT (R200). -/
def kindCommit : Byte := 0x13

/-- A session state in the order of R31 (R201). -/
def SessionState.code : SessionState → Byte
  | .disabled  => 0
  | .empty     => 1
  | .probing   => 2
  | .waiting   => 3
  | .charging  => 4
  | .complete  => 5
  | .releasing => 6
  | .silent    => 7
  | .faulted   => 8

/-- The number of a notice kind (R200). -/
def Notice.number : Notice → Nat
  | .padFault        => 0
  | .padSilent       => 1
  | .padComplete     => 2
  | .deadlineMissed  => 3
  | .feederWarn      => 4
  | .feederShed      => 5
  | .headroomStale   => 6
  | .commitDone      => 7
  | .inputEvent      => 8
  | .captureOverflow => 9
  | .requestDropped  => 10

/-- The set that holds one kind alone (R200). -/
def Notice.bit (k : Notice) : BitVec 11 := 1#11 <<< k.number

/-- Whether a set holds a kind. -/
def noticeIn (k : Notice) (set : BitVec 11) : Bool := set.getLsbD k.number

/-- A notice set as its two bytes, bits 11 to 15 sent as 0 (R200). -/
def noticeBytes (set : BitVec 11) : List Byte := bytes2 set.toNat

/-- The fault codes the part itself gives (R30). -/
def codeOverdraw : Byte := 128

/-- The fault code NO_CAPS (R30). -/
def codeNoCaps : Byte := 129

/-- The bytes a fleet frame puts on the line (R148, R200): start byte, length, kind, tag, body, check. -/
def TxFrame.bytes (f : TxFrame) : List Byte :=
  let covered := byte1 f.body.length :: f.kind :: f.tag :: f.body
  0xA5 :: (covered ++ crcBytes (crc covered))

/-- A byte as it is sent on the fleet line (R148): a start bit at the space level, eight data bits least
significant first, and a stop bit at the mark level. -/
def fleetChar (b : Byte) : FleetChar := 1#1 ++ b ++ 0#1

/-- A frame as it is sent on the fleet line, one unbroken run of bytes (R148). -/
def TxFrame.chars (f : TxFrame) : List FleetChar := f.bytes.map fleetChar

/-- What the part puts on the fleet line: the bytes of the frame in transmission. With none the line rests at
the mark level (R148). -/
def Fleet.line (x : Fleet) : List FleetChar :=
  match x.sending with
  | none => []
  | some f => f.chars

/-! ## Pad line frames (R202) -/

/-- The kind codes of the pad line frames (R202). -/
def linePoll : Byte := 0x01

/-- PROBE (R202). -/
def lineProbe : Byte := 0x02

/-- REPORT (R202). -/
def lineReport : Byte := 0x11

/-- FAULT_REPORT (R202). -/
def lineFault : Byte := 0x12

/-- CAPS (R202). -/
def lineCaps : Byte := 0x13

/-- The data bits of a pad line frame's characters: address, kind, body, check (R202, R199). -/
def lineFrame (addr kind : Byte) (body : List Byte) : List Byte :=
  let covered := addr :: kind :: body
  covered ++ crcBytes (crc covered)

/-- A POLL to a drop: setpoint, validity, round period (R136, R202). -/
def pollFrame (drop setpoint validity period : Nat) : List Byte :=
  lineFrame (byte1 drop) linePoll (bytes2 setpoint ++ [byte1 validity] ++ bytes2 period)

/-- A PROBE to a drop (R202). -/
def probeFrame (drop : Nat) : List Byte := lineFrame (byte1 drop) lineProbe []

/-- The REPORT that a body of 13 bytes carries (R202); status bits 3 to 7 are ignored. -/
def reportOf (b : List Byte) : Report where
  present := (byteAt b 0).getLsbD 0
  closed  := (byteAt b 0).getLsbD 1
  ready   := (byteAt b 0).getLsbD 2
  docking := byteAt b 1
  applied := wordAt b 2
  metered := wordAt b 4
  voltage := wordAt b 6
  energy  := wordAt b 8
  accept  := wordAt b 10
  charge  := byteAt b 12

/-- The REPORT body of a report, undefined bits 0 (R202). -/
def reportBody (r : Report) : List Byte :=
  byte1 ((if r.present then 1 else 0) + (if r.closed then 2 else 0) + (if r.ready then 4 else 0))
    :: r.docking
    :: (bytes2 r.applied ++ bytes2 r.metered ++ bytes2 r.voltage ++ bytes2 r.energy
        ++ bytes2 r.accept ++ [r.charge])

/-- What a CAPS carries (R202): the figures as received. -/
structure CapsFields where
  vmax    : Nat
  vmin    : Nat
  id      : Option (BitVec 32)
  battery : Option Nat
  tiers   : List Nat
  deriving DecidableEq, Repr

/-- The 32-bit value of the four bytes at offset `i`. -/
def longAt (b : List Byte) (i : Nat) : BitVec 32 :=
  BitVec.ofNat 32 (wordAt b i * 65536 + wordAt b (i + 2))

/-- The CAPS that a body carries (R202); presence bits 2 to 7 are ignored. A battery capacity marked
present with a value of 0 is taken as absent (R35). -/
def capsOf (b : List Byte) : CapsFields where
  vmax    := wordAt b 0
  vmin    := wordAt b 2
  id      := if (byteAt b 4).getLsbD 0 then some (longAt b 5) else none
  battery := if (byteAt b 4).getLsbD 1 ∧ wordAt b 9 ≠ 0 then some (wordAt b 9) else none
  tiers   := (List.range (byteAt b 11).toNat).map fun k => wordAt b (12 + 2 * k)

/-- A capability record in the CAPS body layout with six tier places, followed by the source and the
tiers-ignored mark (R201). -/
def capabilityBytes (c : Capability) : List Byte :=
  bytes2 c.vmax ++ bytes2 c.vmin
    ++ [byte1 ((if c.vehicleId.isSome then 1 else 0) + (if c.battery.isSome then 2 else 0))]
    ++ bytes4 (c.vehicleId.getD 0) ++ bytes2 (c.battery.getD 0)
    ++ [byte1 c.tiers.length]
    ++ (c.tiers.take 6).flatMap bytes2 ++ List.replicate (2 * (6 - c.tiers.length)) 0
    ++ [match c.source with | .vehicle => 0 | .default => 1, flagByte c.tiersIgnored]

/-- A manual pad limit as an optional item (R47, R164, R201). -/
def limitBytes (l : Option Nat) : List Byte := optBytes 2 bytes2 l

/-! ## Characters on a pad line (R128, R129) -/

/-- A character as the part sends it (R128): a start bit at the space level, eight data bits least
significant first, the ninth bit, and a stop bit at the mark level. -/
def sentChar (ninth : Bool) (b : Byte) : LineChar := 1#1 ++ BitVec.ofBool ninth ++ b ++ 0#1

/-- The characters of a frame as they are sent (R128): the ninth bit is 1 in the address character that
opens it and 0 in every other. -/
def sentChars : List Byte → List LineChar
  | [] => []
  | a :: rest => sentChar true a :: rest.map (sentChar false)

end Sys2Proof.Machine

namespace Sys2Proof

/-- What the part takes of a received character: of each bit the value that two or three of its samples
agree on (R129). -/
def RxChar.bits (c : RxChar) : LineChar :=
  (c.first &&& c.second) ||| (c.first &&& c.third) ||| (c.second &&& c.third)

/-- The eight data bits (R128). -/
def RxChar.data (c : RxChar) : Byte := c.bits.extractLsb' 1 8

/-- The ninth bit, 1 in an address character (R128). -/
def RxChar.ninth (c : RxChar) : Bool := c.bits.getLsbD 9

/-- A framing error: the stop bit is taken as space (R129). -/
def RxChar.framing (c : RxChar) : Bool := !c.bits.getLsbD 10

/-- The noise mark: the three samples of some bit disagree (R129). -/
def RxChar.noise (c : RxChar) : Bool := !(c.first == c.second && c.second == c.third)

/-- The eight data bits of a byte of the fleet line (R148). -/
def RxByte.data (b : RxByte) : Byte := b.bits.extractLsb' 1 8

/-- A framing error: the stop bit is taken as space (R149, R150). -/
def RxByte.framing (b : RxByte) : Bool := !b.bits.getLsbD 9

/-- A byte begins with a start bit at the space level (R148). -/
def RxByte.starts (b : RxByte) : Bool := !b.bits.getLsbD 0

end Sys2Proof

namespace Sys2Proof.Machine

/-! ## The judgement of a reply (R130 to R133) -/

/-- The outcome of a transaction (R132). -/
inductive LineOutcome
  | good | noisy | corrupt | wrongReply | noReply
  deriving DecidableEq, Repr

/-- The characters of the reply: from the first address character on, at most 300 (R130, R131). -/
def replyChars (rx : List RxChar) : List RxChar :=
  (rx.dropWhile fun c => !c.ninth).take Config.replyLimit

/-- The corrupt mark: a character before any address character of the reply (R130). -/
def strayBefore (rx : List RxChar) : Bool :=
  match rx with
  | [] => false
  | c :: _ => !c.ninth

/-- The data bits of a reply's characters. -/
def replyData (rx : List RxChar) : List Byte := (replyChars rx).map RxChar.data

/-- The kind character of a reply. -/
def replyKind (rx : List RxChar) : Byte := byteAt (replyData rx) 1

/-- The body of a reply: what stands between the kind and the two check characters. -/
def replyBody (rx : List RxChar) : List Byte :=
  let d := replyData rx
  (d.drop 2).take (d.length - 4)

/-- The number of characters that a frame's kind and, for CAPS, its tier count give (R202); none for a
kind that is not one of the five. -/
def frameLength (d : List Byte) : Option Nat :=
  let k := byteAt d 1
  if k = linePoll then some 9
  else if k = lineProbe then some 4
  else if k = lineReport then some 17
  else if k = lineFault then some 8
  else if k = lineCaps then some (16 + 2 * (byteAt d 13).toNat)
  else none

/-- Whether a frame's check agrees with the characters it covers (R199). -/
def checkAgrees (d : List Byte) : Bool :=
  crcBytes (crc (d.take (d.length - 2))) == d.drop (d.length - 2)

/-- The CORRUPT row of R132, with the 300-character case of R131. A second address character makes the
reply's length disagree with its kind (R131; log entry 12). -/
def replyCorrupt (rx : List RxChar) : Bool :=
  let cs := replyChars rx
  let d := replyData rx
  strayBefore rx || cs.any RxChar.framing || decide (Config.replyLimit ≤ cs.length)
    || (cs.drop 1).any RxChar.ninth || !checkAgrees d || frameLength d != some d.length

/-- The replies allowed for a request (R133). -/
def allowed (q : LineRequest) (kind : Byte) : Bool :=
  match q with
  | .poll  => kind == lineReport || kind == lineFault
  | .probe => kind == lineCaps || kind == lineReport

/-- The outcome of a transaction that ended with a reply: the first row of R132 that applies. -/
def classify (tx : Transaction) (rx : List RxChar) : LineOutcome :=
  let addr := byteAt (replyData rx) 0
  if replyChars rx = [] then .noReply
  else if replyCorrupt rx then .corrupt
  else if allowed tx.request (replyKind rx) ∧ addr.msb ∧ (addr.setWidth 7).toNat = tx.drop then
    if (replyChars rx).any RxChar.noise then .noisy else .good
  else .wrongReply

/-- A character received without damage: every sample is the bit that was sent. -/
def cleanChar (ninth : Bool) (b : Byte) : RxChar :=
  { first := sentChar ninth b, second := sentChar ninth b, third := sentChar ninth b }

/-- A byte of the fleet line received without damage. -/
def cleanByte (b : Byte) : RxByte := { bits := fleetChar b }

/-- The undamaged reply of the charger at a drop: reply mark and drop, kind, body, check (R128, R202). -/
def goodReply (drop : Nat) (kind : Byte) (body : List Byte) : List RxChar :=
  match lineFrame (byte1 (128 + drop)) kind body with
  | [] => []
  | a :: rest => cleanChar true a :: rest.map (cleanChar false)

end Sys2Proof.Machine
end

