-- ==== Sys2Proof/Machine/Flags.lean ====
section
/-! DEFINITION. The flags and sums the part forms from what it holds: whether an input is active, shed
active, a group's minimum voltage, the sums of the fast-shed check, what the marks amount to, and the
value each output drives. Nothing here changes a state. -/

namespace Sys2Proof.Machine

/-! ## Sessions -/

/-- WAITING or CHARGING: the states a sweep may grant power in (R31). -/
def SessionState.served : SessionState → Bool
  | .waiting | .charging => true
  | _ => false

/-- A held increase: a grant above the sent setpoint (R56). -/
def Pad.holdsIncrease (q : Pad) : Bool := decide (q.sent < q.grant)

/-- Whether any pad has a decrease pending (R79). -/
def State.anyPending (s : State) : Bool := allPads.any fun p => s.pads[p].decPending

/-- The remaining time of a deadline: T of R64. -/
def timeLeft (deadline now : Ticks) : Nat :=
  if (deadline - now).toNat < 2 ^ 31 then (deadline - now).toNat else 0

/-! ## Pad lines -/

/-- Whether the pad's active record is enabled and names the line. -/
def State.onLine (s : State) (l : LineId) (p : PadId) : Bool :=
  (s.padRec p).enabled && (s.padRec p).line == l

/-- The cycle members of a line: the drops of the enabled pads that name it (R137). -/
def State.members (s : State) (l : LineId) : List Nat :=
  (allPads.filter (s.onLine l)).map fun p => (s.padRec p).drop

/-- The pad at a drop of a line (R5: no two enabled pads share an address). -/
def State.padAt (s : State) (l : LineId) (drop : Nat) : Option PadId :=
  allPads.find? fun p => s.onLine l p && (s.padRec p).drop == drop

/-- The drop that the next normal poll goes to (R137). -/
def nextMember (members : List Nat) (position : Option Nat) : Option Nat :=
  match position with
  | none => members.min?
  | some d =>
    match (members.filter fun x => decide (d < x)).min? with
    | some x => some x
    | none => members.min?

/-- Whether no member has a drop above `d` (R144). -/
def noneAbove (members : List Nat) (d : Nat) : Bool := members.all fun x => decide (x ≤ d)

/-- Whether every discovery mark is clear (R173). -/
def State.marksClear (s : State) : Bool := allLines.all fun l => !s.lines[l].discovery

/-! ## Groups and sums (R90) -/

/-- Whether the pad's active record is enabled and names the group. -/
def State.inGroup (s : State) (g : GroupId) (p : PadId) : Bool :=
  (s.padRec p).enabled && (s.padRec p).group == g

/-- The grant sum of a group. -/
def State.groupGrants (s : State) (g : GroupId) : Nat :=
  padSum fun p => if s.inGroup g p then s.pads[p].grant else 0

/-- The reserved sum of a group. -/
def State.groupReserved (s : State) (g : GroupId) : Nat :=
  padSum fun p => if s.inGroup g p then s.pads[p].reservation else 0

/-- The group's total of grants and reservations (R81). -/
def State.groupTotal (s : State) (g : GroupId) : Nat := s.groupGrants g + s.groupReserved g

/-- The grant sum of the site. -/
def State.siteGrants (s : State) : Nat := padSum fun p => s.pads[p].grant

/-- The reserved sum of the site. -/
def State.siteReserved (s : State) : Nat := padSum fun p => s.pads[p].reservation

/-- The site's total of grants and reservations (R81). -/
def State.siteTotal (s : State) : Nat := s.siteGrants + s.siteReserved

/-- The limit a group's total is compared with: its live effective capacity (R81). -/
def State.groupLimit (s : State) (g : GroupId) : Nat := s.groups[g].capacity

/-- The site limit (R93). -/
def State.siteLimit (s : State) : Nat := s.site.limit

/-- A group needs shedding (R81). -/
def State.groupNeedsShed (s : State) (g : GroupId) : Bool :=
  (s.feederRec g).enabled && decide (s.groupLimit g < s.groupTotal g)
    && allPads.any fun p => s.inGroup g p && decide (0 < s.pads[p].grant)

/-- The site needs shedding (R81). -/
def State.siteNeedsShed (s : State) : Bool :=
  decide (s.siteLimit < s.siteTotal) && allPads.any fun p => decide (0 < s.pads[p].grant)

/-- Some enabled group or the site needs shedding (R81). -/
def State.needsShed (s : State) : Bool := allGroups.any s.groupNeedsShed || s.siteNeedsShed

/-- The voltage sample set of a group (R98). -/
def State.samples (s : State) (g : GroupId) : List Nat :=
  (allPads.filter (s.inGroup g)).filterMap fun p => s.pads[p].sample

/-- The group minimum voltage, absent while the sample set is empty (R100). -/
def State.minVoltage (s : State) (g : GroupId) : Option Nat := (s.samples g).min?

/-! ## Inputs (R191) -/

/-- The level a level sense is active at; none for an edge sense. -/
def Sense.activeLevel : Sense → Option Bool
  | .levelHigh => some true
  | .levelLow  => some false
  | _          => none

/-- Whether the sense is RISING, FALLING or BOTH. -/
def Sense.isEdge (x : Sense) : Bool := x.activeLevel.isNone

/-- Whether an edge to a level matches an edge sense (R192). -/
def Sense.matches (x : Sense) (high : Bool) : Bool :=
  match x with
  | .rising  => high
  | .falling => !high
  | .both    => true
  | _        => false

/-- Whether an input with this record, taken level and latch is active (R191). -/
def inputActive (r : InputRec) (taken latch : Bool) : Bool :=
  if r.function = .none then false
  else match r.sense.activeLevel with
    | some lvl => taken == lvl
    | none     => latch

/-- Whether an input is active. -/
def State.active (s : State) (i : InputId) : Bool :=
  inputActive (s.inputRec i) s.signals.taken[i] s.signals.latch[i]

/-- The shed-input state of a group as the inputs stand (R106). -/
def State.shedInputNow (s : State) (g : GroupId) : Bool :=
  allInputs.any fun i =>
    (s.inputRec i).function == .shed && (s.inputRec i).group == g && s.active i

/-- The stop latch as the input latches stand (R168). -/
def State.stopLatchNow (s : State) : Bool :=
  allInputs.any fun i =>
    (s.inputRec i).function == .stop && (s.inputRec i).sense.isEdge && s.signals.latch[i]

/-- Whether a level-sensed STOP input stands at its active level (R172). -/
def State.stopLevel (s : State) : Bool :=
  allInputs.any fun i =>
    (s.inputRec i).function == .stop && !(s.inputRec i).sense.isEdge && s.active i

/-! ## Effective capacity (R91) -/

/-- Shed active (R107). -/
def Group.shedActive (x : Group) : Bool := x.vstate == .shed || x.shedInput

/-- The effective capacity of a group from its record and its state (R91). -/
def capacityOf (r : FeederRec) (x : Group) : Nat :=
  if r.enabled then
    (if x.hstate = .fresh then x.headroom else r.rated - r.fallback)
      - (if x.shedActive then r.shed else 0)
  else 0

/-! ## Outputs (R7, R197) -/

/-- The pending kinds outside the mask. -/
def NoticeUnit.unmasked (u : NoticeUnit) : BitVec 11 := u.pendingSet &&& ~~~u.mask

/-- The value of an output's source (R7). -/
def State.source (s : State) (r : OutputRec) : Bool :=
  match r.source with
  | .off              => false
  | .roundActive      => s.alloc.sweep.isSome
  | .halted           => s.mode.engine == .halted
  | .feederWarn       => s.groups[r.arg].vstate == .warn
  | .feederShed       => s.groups[r.arg].vstate == .shed
  | .anyFaulted       => allPads.any fun p => s.pads[p].state == .faulted
  | .noticePending    => s.notices.unmasked != 0
  | .captureNonempty  => !s.notices.captures.isEmpty
  | .headroomStaleAny => allGroups.any fun g => (s.feederRec g).enabled && s.groups[g].hstate == .stale
  | .inputLatch       => s.signals.latch[r.arg]

/-- The value an output line drives: its source, inverted when its record says so (R197). -/
def State.driven (s : State) (o : OutputId) : Bool :=
  (s.source (s.outputRec o)) ^^ (s.outputRec o).invert

/-! ## The fleet line -/

/-- Whether an entry of the transmit queue is the waiting NOTICE. -/
def TxItem.isNotice : TxItem → Bool
  | .notice => true
  | _       => false

/-- Whether a NOTICE frame waits (R158). -/
def Fleet.noticeWaiting (f : Fleet) : Bool := f.tx.any TxItem.isNotice

/-- The responses queued or in transmission (R157). -/
def Fleet.responses (f : Fleet) : Nat :=
  (f.tx.filter fun x => !x.isNotice).length
    + (match f.sending with
       | some x => if x.kind = kindResponse then 1 else 0
       | none => 0)

/-- Whether a commit is CHECKING (R11). -/
def CommitState.isChecking : CommitState → Bool
  | .checking _ _ => true
  | _             => false

/-- Whether the port may take a request (R153), its queue apart. -/
def State.portReady (s : State) : Bool :=
  !s.tables.commit.isChecking && !s.fleet.restartWaiting
    && decide (s.fleet.responses < Config.responseLimit)

/-- Whether every table is LOADED (R2). -/
def Tables.allLoaded (t : Tables) : Bool := t.loaded.toList.all id

/-- The response that a RESTART taken with OK receives; its last byte brings the effect (R159). -/
def TxFrame.isRestart (f : TxFrame) : Bool :=
  f.kind == kindResponse && f.body == [kindRestart, ResultCode.byte .ok]

end Sys2Proof.Machine
end

