-- ==== Sys2Proof/Machine/Ops.lean ====
section
/-! DEFINITION. The shared operations of the part, in the order in which they call one another: access
to one pad, group or line; notices and captures; the decrease path and the increase release; rounding
and the fast-shed pass; effective capacity and the voltage monitor; the sweep's start; the entries to
HALTED and DISCOVERING; and forming a response. -/

namespace Sys2Proof.Machine

/-! ## One pad, one group, one line -/

/-- The state with the pads `v`. -/
def State.withPads (s : State) (v : Vector Pad 64) : State := { s with pads := v }

/-- The state with the groups `v`. -/
def State.withGroups (s : State) (v : Vector Group 8) : State := { s with groups := v }

/-- The state with the lines `v`. -/
def State.withLines (s : State) (v : Vector LineCtl 4) : State := { s with lines := v }

/-- The state with the Allocation Engine at `a`. -/
def State.withAlloc (s : State) (a : Alloc) : State := { s with alloc := a }

/-- The state with the Table Store at `t`. -/
def State.withTables (s : State) (t : Tables) : State := { s with tables := t }

/-- The state with the Fleet Line Port at `f`. -/
def State.withFleet (s : State) (f : Fleet) : State := { s with fleet := f }

/-- The state with Mode Control at `m`. -/
def State.withMode (s : State) (m : ModeControl) : State := { s with mode := m }

/-- The state with the Notice Unit at `u`. -/
def State.withNotices (s : State) (u : NoticeUnit) : State := { s with notices := u }

/-- The state with the Signal Line Unit at `x`. -/
def State.withSignals (s : State) (x : Signals) : State := { s with signals := x }

/-- The state with the Time Base at `t`. -/
def State.withTime (s : State) (t : TimeBase) : State := { s with time := t }

/-- The state with the free-value counter `n` uses further on. -/
def State.spend (s : State) (n : Nat) : State := { s with freeCount := s.freeCount + n }

/-- One pad changed by `f`. -/
def State.updPad (s : State) (p : PadId) (f : Pad → Pad) : State :=
  s.withPads (s.pads.set p (f s.pads[p]))

/-- Every pad changed by `f`. -/
def State.mapPads (s : State) (f : PadId → Pad → Pad) : State :=
  s.withPads (tabulate 64 fun p => f p s.pads[p])

/-- One group changed by `f`. -/
def State.updGroup (s : State) (g : GroupId) (f : Group → Group) : State :=
  s.withGroups (s.groups.set g (f s.groups[g]))

/-- Every group changed by `f`. -/
def State.mapGroups (s : State) (f : GroupId → Group → Group) : State :=
  s.withGroups (tabulate 8 fun g => f g s.groups[g])

/-- One line changed by `f`. -/
def State.updLine (s : State) (l : LineId) (f : LineCtl → LineCtl) : State :=
  s.withLines (s.lines.set l (f s.lines[l]))

/-- Every line changed by `f`. -/
def State.mapLines (s : State) (f : LineId → LineCtl → LineCtl) : State :=
  s.withLines (tabulate 4 fun l => f l s.lines[l])

/-! ## Notices (R158, R185, R186) -/

/-- A NOTICE frame is called for: one is queued unless one waits already (R158, R186). -/
def callNotice (s : State) : State :=
  if s.fleet.noticeWaiting then s
  else s.withFleet { s.fleet with tx := s.fleet.tx ++ [.notice] }

/-- A waiting NOTICE frame whose set has become empty is withdrawn (R187, R188; log entry 11). -/
def withdrawNotice (s : State) : State :=
  if s.notices.unmasked = 0 then
    s.withFleet { s.fleet with tx := s.fleet.tx.filter fun x => !x.isNotice }
  else s

/-- A notice kind is raised (R185). -/
def raise (k : Notice) (s : State) : State :=
  if noticeIn k s.notices.pendingSet then s
  else
    let s1 := s.withNotices { s.notices with pendingSet := s.notices.pendingSet ||| k.bit }
    if noticeIn k s.notices.mask then s1 else callNotice s1

/-- Several kinds are raised, in order. -/
def raiseAll (ks : List Notice) (s : State) : State := ks.foldl (fun t k => raise k t) s

/-- A kind is raised when a condition holds. -/
def raiseIf (b : Bool) (k : Notice) (s : State) : State := if b then raise k s else s

/-- A capture event (R182): it takes the next sequence number, and its entry is stored, or discarded
with the overflow counted when the queue is full. -/
def captureEvent (p : PadId) (source : CaptureSource) (code : Byte) (power : Nat) (s : State) : State :=
  let u := s.notices
  if u.captures.length < Config.captureDepth then
    s.withNotices
      { u with
        nextSeq := u.nextSeq + 1
        captures := u.captures ++
          [{ seq := u.nextSeq, pad := p, source := source, code := code, power := power,
             time := s.time.running }] }
  else
    raise .captureOverflow
      (s.withNotices
        { u with
          nextSeq := u.nextSeq + 1, overflow := true, overflowCount := satInc 255 u.overflowCount })

/-! ## What entries to states do to one pad -/

/-- The session takes a state; leaving WAITING and CHARGING ends its stay in the issue set (R73). -/
def Pad.setState (q : Pad) (x : SessionState) : Pad :=
  { q with state := x, stayed := q.stayed && x.served }

/-- The dispatch record is dropped, and delivered and remaining energy read 0 (R28, R115). -/
def Pad.dropDispatch (q : Pad) : Pad :=
  { q with dispatch := none, delivered := 0, remaining := 0 }

/-- Entry to EMPTY (R33). -/
def Pad.enterEmpty (q : Pad) : Pad :=
  ({ q.dropDispatch with
      caps := none, fault := none, inDocking := false, attempts := 0, overdraw := 0 }).setState .empty

/-- Entry to PROBING (R33). -/
def Pad.enterProbing (q : Pad) : Pad :=
  ({ q with caps := none, fault := none, attempts := 0 }).setState .probing

/-- The allocation figures are cleared at once (R77). -/
def Pad.clearFigures (q : Pad) : Pad :=
  { q with grant := 0, sent := 0, prior := 0, decPending := false }

/-- The reservation ends (R80). -/
def Pad.clearReservation (q : Pad) : Pad := { q with reservation := 0, roundsLeft := 0 }

/-! ## The decrease path and the increase release (R76, R79) -/

/-- The figures of the decrease path to `v` (R76). -/
def Pad.lower (v : Nat) (q : Pad) : Pad :=
  let q1 : Pad :=
    if v < q.sent then
      { q with
        grant := v, sent := v, decPending := true
        prior := if q.decPending then max q.prior q.sent else q.sent }
    else { q with grant := v }
  if v = 0 ∧ q.state.served then q1.setState .waiting else q1

/-- A pad joins the urgent list of its line at the tail, unless it is on it (R139). -/
def joinUrgent (p : PadId) (s : State) : State :=
  s.updLine (s.padRec p).line fun c =>
    if p ∈ c.urgent then c else { c with urgent := c.urgent ++ [p] }

/-- The decrease path (R76): the grant of pad `p` is lowered to `v`. -/
def decrease (p : PadId) (v : Nat) (s : State) : State :=
  let s1 := s.updPad p (Pad.lower v)
  if v < s.pads[p].sent then joinUrgent p s1 else s1

/-- A list in the order of the free sort key of the event numbered `n`; the spec gives no order (log
entry 4). A list of one stands as it is. -/
def freelyOrdered {α : Type} (n : Nat) (f : α → Nat) (l : List α) : List α :=
  sortBy (fun a b => decide (Config.freeOrder n (f a) ≤ Config.freeOrder n (f b))) l

/-- The decrease path for several pads in one event: pad `p` is lowered to `v` where `target p` is
`some v`. The order in which they join an urgent list is free. -/
def decreaseMany (target : PadId → Option Nat) (s : State) : State :=
  let joins : PadId → Bool := fun p =>
    match target p with
    | some v => decide (v < s.pads[p].sent)
    | none   => false
  let s1 := s.mapPads fun p q =>
    match target p with
    | some v => q.lower v
    | none   => q
  let s2 := s1.mapLines fun l c =>
    { c with
      urgent := c.urgent ++ freelyOrdered s.freeCount Fin.val
        (allPads.filter fun p => joins p && (s.padRec p).line == l && !c.urgent.contains p) }
  s2.spend 1

/-- The increase release (R79), made when no pad has a decrease pending and the fast-shed state is
NONE: the sent setpoint of every pad that holds an increase becomes its grant. -/
def increaseRelease (s : State) : State :=
  if s.anyPending ∨ s.alloc.fastShed ≠ .none then s
  else s.mapPads fun _ q => if q.holdsIncrease then { q with sent := q.grant } else q

/-! ## Rounding (R71, R72) -/

/-- The effective minimum: the vehicle minimum raised to the smallest tier (R62). -/
def Capability.effMin (c : Capability) : Nat :=
  match c.tiers.min? with
  | none   => c.vmin
  | some t => max c.vmin t

/-- Rounding to the grant step in STEPPED resolution (R71). -/
def roundStep (res : Resolution) (step vmin v : Nat) : Nat :=
  match res with
  | .fine => v
  | .stepped => if v / step * step < vmin then 0 else v / step * step

/-- Rounding to the tiers (R72). -/
def roundTier (res : Resolution) (step : Nat) (tiers : List Nat) (v : Nat) : Nat :=
  if tiers = [] then v
  else ((tiers.filter fun t => decide (t ≤ v) && (res == .fine || t % step == 0)).max?).getD 0

/-- Rounding of a grant (R71, then R72). -/
def roundGrant (res : Resolution) (step : Nat) (c : Capability) (v : Nat) : Nat :=
  roundTier res step c.tiers (roundStep res step c.vmin v)

/-! ## The fast-shed check and pass (R81 to R83) -/

/-- The grant a pass gives a pad whose total is `excess` too high (R82). A pad that holds a grant holds
a capability record. DEDUCED (log entry 30): R82 rounds under R71 and R72 and names no ceiling, so a grant that
stood above a demand fallen since its sweep may be lowered to a value above that demand, although R72 says of a
nonzero grant that it is at most d. -/
def shedTo (s : State) (p : PadId) (excess : Nat) : Nat :=
  match s.pads[p].caps with
  | none => 0
  | some c =>
    let v := roundGrant s.mode.resolution s.site.step c (s.pads[p].grant - excess)
    if v < c.effMin then 0 else v

/-- One pad of a walk (R82): the total and the limit are read afresh. -/
def shedPad (total limit : State → Nat) (mine : State → PadId → Bool) (s : State) (p : PadId) : State :=
  if limit s < total s ∧ mine s p ∧ 0 < s.pads[p].grant then
    decrease p (shedTo s p (total s - limit s)) s
  else s

/-- A walk along the kept list from its last entry toward its first (R82). -/
def walk (total limit : State → Nat) (mine : State → PadId → Bool) (s : State) : State :=
  s.alloc.kept.reverse.foldl (shedPad total limit mine) s

/-- The walk of a group that needs shedding (R82). -/
def groupWalk (s : State) (g : GroupId) : State :=
  if s.groupNeedsShed g then
    walk (fun t => t.groupTotal g) (fun t => t.groupLimit g) (fun t p => t.inGroup g p) s
  else s

/-- The site walk, if the site still needs shedding (R83). -/
def siteWalk (s : State) : State :=
  if s.siteNeedsShed then walk State.siteTotal State.siteLimit (fun _ _ => true) s else s

/-- The fast-shed state becomes `x`. -/
def State.setFastShed (s : State) (x : FastShed) : State := s.withAlloc { s.alloc with fastShed := x }

/-- A pass starts: the fast-shed state is RUNNING, and the pass walks the groups in ascending number
and then the site (R82, R83). -/
def startPass (s : State) : State := siteWalk (allGroups.foldl groupWalk (s.setFastShed .running))

/-- The fast-shed check (R81). -/
def fastShedCheck (s : State) : State :=
  if s.alloc.fastShed = .running then s
  else if s.needsShed then
    if s.alloc.sweep.isSome then s.setFastShed .pending else startPass s
  else if s.alloc.fastShed = .pending then increaseRelease (s.setFastShed .none)
  else s

/-- The fast-shed check at a pass's end (R84, step 2). -/
def checkAtPassEnd (s : State) : State :=
  if s.needsShed then startPass s else increaseRelease (s.setFastShed .none)

/-! ## Effective capacity and the voltage monitor (R92, R98 to R104) -/

/-- The effective capacity of a group is recomputed and stored. -/
def storeCapacity (g : GroupId) (s : State) : State :=
  s.updGroup g fun x => { x with capacity := capacityOf (s.feederRec g) x }

/-- The effective capacity is recomputed; a fall makes the fast-shed check (R92). -/
def recompute (g : GroupId) (s : State) : State :=
  if capacityOf (s.feederRec g) s.groups[g] < s.groups[g].capacity then
    fastShedCheck (storeCapacity g s)
  else storeCapacity g s

/-- Every effective capacity is recomputed, without a check (R23, R111). -/
def storeAllCapacities (s : State) : State :=
  s.mapGroups fun g x => { x with capacity := capacityOf (s.feederRec g) x }

/-- One evaluation of the voltage monitor: the new state and the kinds raised (R102, R103). -/
def voltageMove (r : FeederRec) (x : VoltageState) (v : Nat) : VoltageState × List Notice :=
  match r.monitor, x with
  | .off, _ => (x, [])
  | .notify, .normal => if v < r.warnLevel then (.warn, [.feederWarn]) else (x, [])
  | .notify, .warn => if r.warnRelease ≤ v then (.normal, []) else (x, [])
  | .notify, .shed => (x, [])
  | .shedOnly, .normal => if v < r.shedLevel then (.shed, [.feederShed]) else (x, [])
  | .shedOnly, .warn => (x, [])
  | .shedOnly, .shed => if r.shedRelease ≤ v then (.normal, []) else (x, [])
  | .notifyAndShed, .normal =>
    if v < r.shedLevel then (.shed, [.feederWarn, .feederShed])
    else if v < r.warnLevel then (.warn, [.feederWarn])
    else (.normal, [])
  | .notifyAndShed, .warn =>
    if v < r.shedLevel then (.shed, [.feederShed])
    else if r.warnRelease ≤ v then (.normal, [])
    else (.warn, [])
  | .notifyAndShed, .shed =>
    if r.shedRelease ≤ v then
      if v < r.warnLevel then (.warn, [.feederWarn]) else (.normal, [])
    else (.shed, [])

/-- A group is evaluated on its minimum voltage; an absent minimum changes nothing (R100). The
effective capacity is left to the caller. -/
def moveVoltage (g : GroupId) (s : State) : State :=
  match s.minVoltage g with
  | none => s
  | some v =>
    let m := voltageMove (s.feederRec g) s.groups[g].vstate v
    raiseAll m.2 (s.updGroup g fun x => { x with vstate := m.1 })

/-- A group is evaluated, and its effective capacity recomputed when the evaluation enters or leaves
SHED (R92, R100, R104). -/
def evaluateVoltage (g : GroupId) (s : State) : State :=
  let s1 := moveVoltage g s
  if (s1.groups[g].vstate == .shed) == (s.groups[g].vstate == .shed) then s1 else recompute g s1

/-- The shed-input state of a group is re-formed, and its effective capacity recomputed when it changed
(R106). -/
def reformShed (g : GroupId) (s : State) : State :=
  if s.groups[g].shedInput = s.shedInputNow g then s
  else recompute g (s.updGroup g fun x => { x with shedInput := s.shedInputNow g })

/-- Every shed-input state is re-formed, the effective capacities left to the caller (R111, R196). -/
def reformAllSheds (s : State) : State :=
  s.mapGroups fun g x => { x with shedInput := s.shedInputNow g }

/-- The stop latch is re-formed (R168). -/
def reformStop (s : State) : State := s.withMode { s.mode with stopLatch := s.stopLatchNow }

/-! ## The start of a sweep (R59, R60, R121) -/

/-- The reservation countdown of one pad (R60). -/
def Pad.countdown (q : Pad) : Pad :=
  if q.roundsLeft = 0 then q
  else if q.roundsLeft = 1 then { q with roundsLeft := 0, reservation := 0 }
  else { q with roundsLeft := q.roundsLeft - 1 }

/-- Whether the deadline watch marks a pad (R121). -/
def Pad.misses (now : Ticks) (q : Pad) : Bool :=
  match q.dispatch with
  | none => false
  | some d => !d.missed && timeLeft d.deadline now == 0 && decide (0 < q.remaining)

/-- The missed mark is set (R121). -/
def Pad.markMissed (q : Pad) : Pad :=
  { q with dispatch := q.dispatch.map fun d => { d with missed := true } }

/-- The deadline watch (R121). -/
def deadlineWatch (s : State) : State :=
  raiseIf (allPads.any fun p => s.pads[p].misses s.time.running) .deadlineMissed
    (s.mapPads fun _ q => if q.misses s.time.running then q.markMissed else q)

/-- What the snapshot takes of a pad (R59). -/
def Pad.snap (q : Pad) : PadSnap where
  state       := q.state
  inScope     := q.inScope
  caps        := q.caps
  deadline    := q.dispatch.map Dispatch.deadline
  remaining   := q.remaining
  accept      := q.report.map Report.accept
  limit       := q.limit
  sent        := q.sent
  reservation := q.reservation

/-- The snapshot (R59). -/
def takeSnapshot (s : State) : Snapshot where
  pads       := tabulate 64 fun p => s.pads[p].snap
  capacity   := tabulate 8 fun g => s.groups[g].capacity
  bank       := s.tables.active
  resolution := s.mode.resolution
  now        := s.time.running

/-- A sweep starts (R59): the reservation countdown, the deadline watch, the snapshot. -/
def startSweep (s : State) : State :=
  let s1 := deadlineWatch (s.mapPads fun _ q => q.countdown)
  let s2 := s1.mapPads fun _ q => { q with stayed := q.state.served }
  s2.withAlloc { s2.alloc with sweep := some (takeSnapshot s2), sweepWaiting := false }

/-! ## Entries to HALTED and DISCOVERING (R88, R142, R144, R170, R173) -/

/-- A break that is pending starts when no transaction is in flight, no break is being sent and the line is
not held busy; its mark is cleared as it starts (R131, R142). DEDUCED (log entry 31): a line is held busy in the
300-character case of R131 alone; late or stray characters on a line with no transaction in flight delay no
break. -/
def LineCtl.startBreak (c : LineCtl) : LineCtl :=
  if c.breakPending ∧ c.inFlight = none ∧ c.breaking = false ∧ c.busy = false then
    { c with breakPending := false, breaking := true }
  else c

/-- A break is asked for (R142). -/
def LineCtl.askBreak (c : LineCtl) : LineCtl := ({ c with breakPending := true }).startBreak

/-- What the entry to HALTED does to one pad (R88). -/
def Pad.halt (q : Pad) : Pad :=
  let q1 := q.clearFigures.clearReservation
  if q.state = .charging then q1.setState .waiting else q1

/-- The effects of an entry to HALTED on every block (R88, R142, R144, R170): a sweep and a fast-shed
pass are abandoned, a waiting sweep start is cancelled, every figure is 0, the round timer is stopped,
and every line is asked for a break and loses its discovery mark. -/
def haltEffects (s : State) : State :=
  let s1 := s.mapPads fun _ q => q.halt
  let s2 := s1.mapLines fun _ c => ({ c with discovery := false }).askBreak
  let s3 := s2.withAlloc { s2.alloc with sweep := none, fastShed := .none, sweepWaiting := false }
  let s4 := s3.withTime { s3.time with timer := none }
  s4.withMode { s4.mode with engine := .halted }

/-- The round timer is started with the round period of the active site record (R57). -/
def startTimer (s : State) : State := s.withTime { s.time with timer := some s.site.period }

/-- DISCOVERING ends: the engine becomes RUNNING, the first sweep starts and the round timer is
started, in the same event (R173, R57). -/
def discoveryEnd (s : State) : State :=
  startTimer (startSweep (s.withMode { s.mode with engine := .running }))

/-- DISCOVERING ends when every line's discovery mark is clear (R173). -/
def endDiscoveryIfDone (s : State) : State :=
  if s.mode.engine = .discovering ∧ s.marksClear then discoveryEnd s else s

/-- Entry to DISCOVERING (R144, R173): every line sets its discovery mark, a line with no members
clearing it at once, and its normal position to none. -/
def enterDiscovering (s : State) : State :=
  let s1 := s.withMode { s.mode with engine := .discovering }
  endDiscoveryIfDone (s1.mapLines fun l c =>
    { c with
      discovery := !(s.members l).isEmpty, position := none
      inFlight := c.inFlight.map fun tx => { tx with inDiscovery := false } })

/-! ## Scope (R86, R176, R177) -/

/-- Whether a pad lies in a scope (R176). -/
def Scope.holds (x : Scope) (p : PadId) : Bool :=
  match x with
  | .full => true
  | .range a b => decide (a ≤ p) && decide (p ≤ b)

/-- A scope is applied (R177): the marks are set and cleared, and each pad that loses its mark and holds
a grant is lowered to 0 by the decrease path. The check that follows is the caller's. -/
def applyScope (x : Scope) (s : State) : State :=
  let s1 := s.withMode { s.mode with scope := x }
  let s2 := s1.mapPads fun p q => { q with inScope := x.holds p }
  decreaseMany (fun p =>
    if s.pads[p].inScope ∧ x.holds p = false ∧ 0 < s.pads[p].grant then some 0 else none) s2

/-- A held scope change is applied at the end of a sweep (R86, step 1). -/
def applyHeld (s : State) : State :=
  match s.mode.held with
  | none => s
  | some x => applyScope x (s.withMode { s.mode with held := none })

/-! ## Responses (R155, R157) -/

/-- A RESPONSE is formed and joins the transmit queue: the request's kind, the result code, the data. -/
def respond (kind tag : Byte) (code : ResultCode) (data : List Byte) (s : State) : State :=
  s.withFleet
    { s.fleet with
      tx := s.fleet.tx ++ [.response { kind := kindResponse, tag := tag, body := kind :: code.byte :: data }] }

/-- What an owner makes of a request: the state it leaves, and the response, absent for an accepted
COMMIT alone, whose response is formed at the end of its check (R155). -/
structure Answer where
  state    : State
  response : Option (ResultCode × List Byte)
  deriving DecidableEq, Repr

/-- A request refused with a code: no state is changed and no data are returned (R155, R156). -/
def refuse (code : ResultCode) (s : State) : Answer := { state := s, response := some (code, []) }

/-- A request taken. -/
def accept (s : State) (data : List Byte) : Answer := { state := s, response := some (.ok, data) }

/-- A request taken with OK, or with OK_CLAMPED when a carried figure was lowered (R156). -/
def acceptClamped (clamped : Bool) (s : State) (data : List Byte) : Answer :=
  { state := s, response := some (if clamped then .okClamped else .ok, data) }

/-- The receive queue after the take of a frame (R152, R153): the frame leaves the head. A command
carries its frame with it, so an empty queue stands for the arrival and the take in one step (log entry
6). None when another frame stands at the head. -/
def takeFrame (f : RxFrame) (rx : List RxFrame) : Option (List RxFrame) :=
  match rx with
  | [] => some []
  | g :: rest => if g = f then some rest else none

/-- The take of a request (R153): its frame leaves the receive queue, its owner acts, and the response
is formed and queued, all in one event. Where the port may not take it, nothing happens. -/
def takeRequest (kind tag : Byte) (body : List Byte) (owner : State → Answer) (s : State) : State :=
  match takeFrame { kind := kind, tag := tag, body := body } s.fleet.rx with
  | none => s
  | some rest =>
    if s.portReady then
      let a := owner (s.withFleet { s.fleet with rx := rest })
      match a.response with
      | none => a.state
      | some (code, data) => respond kind tag code data a.state
    else s

/-! ## The end of every event -/

/-- Every output line takes the value its source holds at the end of the event (R197). -/
def driveOutputs (s : State) : State :=
  s.withSignals { s.signals with outputs := tabulate 8 s.driven }

/-- A command's event ends: the outputs follow, and there is a next state. -/
def finish (s : State) : Host.Outcome State Fault Refusal := .next (driveOutputs s)

end Sys2Proof.Machine
end

