-- ==== Sys2Proof/Machine/Activation.lean ====
section
/-! DEFINITION. Activation (R17 to R23, R137, R144, R196), the entry to HALTED with the steps that
follow an abandoned sweep (R86, R87, R170), and the steps at a sweep's end (R86). -/

namespace Sys2Proof.Machine

/-- The class of a pad at an activation (R19). -/
inductive PadClass
  | absent | disabled | moved | enabled | kept
  deriving DecidableEq, Repr

/-- The class of a pad, from its old and its new record (R19). -/
def padClass (old new : PadRec) : PadClass :=
  match old.enabled, new.enabled with
  | false, false => .absent
  | true,  false => .disabled
  | false, true  => .enabled
  | true,  true  => if old.line = new.line ∧ old.drop = new.drop then .kept else .moved

/-- Whether a pad of this class leaves its old address (R20). -/
def PadClass.leaves : PadClass → Bool
  | .disabled | .moved => true
  | _ => false

/-- What an activation does to a newly disabled pad (R19, R33). -/
def Pad.activateDisabled (q : Pad) : Pad :=
  ({ q.dropDispatch.clearFigures.clearReservation with
      caps := none, fault := none, inDocking := false, overdraw := 0, failures := 0
      sample := none }).setState .disabled

/-- What an activation does to a moved pad (R19, R29, R33). -/
def Pad.activateMoved (q : Pad) : Pad :=
  { q.enterEmpty.clearFigures.clearReservation with
    limit := none, report := none, failures := 0, sample := none }

/-- What an activation does to a newly enabled pad (R19, R33). -/
def Pad.activateEnabled (q : Pad) : Pad :=
  { q.enterEmpty with report := none, failures := 0, sample := none }

/-- What an activation does to a pad of a class; `keepSample` when its voltage sample stays in its
group's set (R19, R21, R99). -/
def Pad.activated (x : PadClass) (keepSample : Bool) (q : Pad) : Pad :=
  match x with
  | .absent   => q
  | .disabled => q.activateDisabled
  | .moved    => q.activateMoved
  | .enabled  => q.activateEnabled
  | .kept     => if keepSample then q else { q with sample := none }

/-- The class of pad `p` when bank `old` gives way to bank `new`. -/
def classOf (old new : Bank) (p : PadId) : PadClass := padClass (old.padRec p) (new.padRec p)

/-- Whether the feeder group record `g` changes, byte for byte (R18, R21). -/
def feederChanged (old new : Bank) (g : GroupId) : Bool := old.feeder[g] != new.feeder[g]

/-- Whether a kept pad's sample stays: its group and its group's record are unchanged (R21, R99). -/
def keepsSample (old new : Bank) (p : PadId) : Bool :=
  (old.padRec p).group == (new.padRec p).group && !feederChanged old new (old.padRec p).group

/-- A drop joins a final poll list, unless it is on it (R20, R141). -/
def joinFinal (l : List Nat) (drop : Nat) : List Nat := if drop ∈ l then l else l ++ [drop]

/-- The lines at an activation (R20): each pad that leaves its old address leaves the line's urgent
list, and its old drop joins the final poll list, several in a free order. -/
def activateLines (old new : Bank) (s : State) : State :=
  let gone : LineId → List PadId := fun l =>
    allPads.filter fun p => (classOf old new p).leaves && (old.padRec p).line == l
  (s.mapLines fun l c =>
    { c with
      urgent := c.urgent.filter fun p => !(gone l).contains p
      final := (freelyOrdered s.freeCount id ((gone l).map fun p => (old.padRec p).drop)).foldl
        joinFinal c.final }).spend 1

/-- The groups at an activation (R21, R97, R105): a changed record returns the headroom state to NONE
and the voltage state to NORMAL. -/
def activateGroups (old new : Bank) (s : State) : State :=
  s.mapGroups fun g x =>
    if feederChanged old new g then
      { x with headroom := 0, age := 0, hstate := .none, vstate := .normal }
    else x

/-- Whether a sample left the set of a group whose record is unchanged, so that the group is evaluated
(R99, R100). -/
def lostSample (old new : Bank) (before : Vector Pad 64) (g : GroupId) : Bool :=
  !feederChanged old new g &&
    allPads.any fun p =>
      (old.padRec p).enabled && (old.padRec p).group == g && before[p].sample.isSome &&
        !(classOf old new p == .kept && keepsSample old new p)

/-- A change of the headroom hold time against ages already running (R22). -/
def activateHold (old new : Bank) (s : State) : State :=
  if (siteView old.site).holdTime = (siteView new.site).holdTime then s
  else
    let late : Group → Bool := fun x =>
      x.hstate == .fresh && decide (10 * (siteView new.site).holdTime < x.age)
    raiseIf (allGroups.any fun g => late s.groups[g]) .headroomStale
      (s.mapGroups fun _ x => if late x then { x with hstate := .stale } else x)

/-- The rotation offset returns to 0 when H or T changes (R22). -/
def activateRotation (old new : Bank) (s : State) : State :=
  if (siteView old.site).head = (siteView new.site).head
      ∧ (siteView old.site).tail = (siteView new.site).tail then s
  else s.withAlloc { s.alloc with rotation := 0 }

/-- Whether the record of input `i` changes, byte for byte (R196). -/
def inputChanged (old new : Bank) (i : InputId) : Bool :=
  (old.line[i.val]'(by omega)) != (new.line[i.val]'(by omega))

/-- Whether input `i` is treated as entering its active level: a changed record whose level sense finds
the taken level at the active level (R196). -/
def State.entersLevel (s : State) (i : InputId) : Bool :=
  !(s.inputRec i).sense.isEdge && s.active i

/-- The inputs at an activation (R196): the latch of a changed input is cleared, and INPUT_EVENT is
raised for one that enters its active level. -/
def activateInputs (old new : Bank) (s : State) : State :=
  let s1 := s.withSignals
    { s.signals with
      latch := tabulate 8 fun i => s.signals.latch[i] && !inputChanged old new i }
  raiseIf (allInputs.any fun i => inputChanged old new i && s1.entersLevel i) .inputEvent s1

/-- Whether an activation makes a STOP input active (R178, R196). -/
def stopActivated (old new : Bank) (s : State) : Bool :=
  allInputs.any fun i =>
    inputChanged old new i && (s.inputRec i).function == .stop && s.entersLevel i

/-- A line's discovery mark at an activation (R144): it is cleared when the line has no members, or
when no normal poll is in flight, the position is a drop, and no member lies above it. -/
def LineCtl.activateMark (members : List Nat) (c : LineCtl) : LineCtl :=
  let noNormal : Bool :=
    match c.inFlight with
    | some tx => tx.slot != .normal
    | none => true
  let past : Bool :=
    match c.position with
    | some d => noneAbove members d
    | none => false
  if c.discovery ∧ (members.isEmpty ∨ (noNormal ∧ past)) then { c with discovery := false } else c

/-- The discovery marks at an activation, and the end of DISCOVERING when the last is cleared (R144,
R174). -/
def activateMarks (s : State) : State :=
  if s.mode.engine = .discovering ∧ s.marksClear = false then
    endDiscoveryIfDone (s.mapLines fun l c => c.activateMark (s.members l))
  else s

/-- The copy itself (R18): the active bank becomes the shadow bank, every table is LOADED, the commit
state returns to IDLE, and COMMIT_DONE is raised. -/
def activateCopy (s : State) : State :=
  raise .commitDone
    (s.withTables
      { s.tables with
        active := s.tables.shadow, loaded := Vector.replicate 4 true, commit := .idle })

/-- Whether an activation disables or moves a pad, so that a pad's decrease-pending is cleared (R19, R77). -/
def clearsPads (old new : Bank) : Bool := allPads.any fun p => (classOf old new p).leaves

/-- The effects on pads and lines (R19, R20). The increase release follows a clearing of R19 alone (R79): with
no pad disabled or moved none is made, so that a bank without a changed pad record moves no figure (R15). The
clearing of a decrease-pending that was clear already is a clearing too (log entry 18). -/
def activatePads (old new : Bank) (s : State) : State :=
  let s1 := activateLines old new
    (s.mapPads fun p q => q.activated (classOf old new p) (keepsSample old new p))
  if clearsPads old new then increaseRelease s1 else s1

/-- The effects on groups, on the site's figures and on the signal lines (R21, R22, R23, R99, R196),
up to the forming of the effective capacities. -/
def activateRest (old new : Bank) (before : Vector Pad 64) (s : State) : State :=
  let s1 := activateRotation old new (activateGroups old new s)
  let s2 := (allGroups.filter (lostSample old new before)).foldl (fun t g => moveVoltage g t) s1
  let s3 := activateInputs old new (activateHold old new s2)
  storeAllCapacities (reformStop (reformAllSheds s3))

/-- Activation (R17 to R23): one event. `passEnd` when it is taken at the end of a fast-shed pass, where
the check that ends it is the check at the pass's end (R84). A STOP input that it makes active enters
HALTED after the effects of R18 to R23, and only then are the discovery marks looked at (R174, R178). -/
def activate (passEnd : Bool) (s : State) : State :=
  let old := s.tables.active
  let new := s.tables.shadow
  let s1 := activateRest old new s.pads (activatePads old new (activateCopy s))
  let s2 := if passEnd then checkAtPassEnd s1 else fastShedCheck s1
  let s3 := if stopActivated old new s2 ∧ s2.mode.engine ≠ .halted then haltEffects s2 else s2
  activateMarks s3

/-- A PENDING commit is activated where R17 lets it be. -/
def activatePending (s : State) : State :=
  if s.tables.commit = .pending then activate false s else s

/-- Entry to HALTED by HALT or a STOP input (R170, R86, R87): the effects of R88, then, when a sweep was
abandoned, the held scope change is applied, and a PENDING commit is activated. -/
def enterHalted (s : State) : State :=
  let s1 := haltEffects s
  activatePending (if s.alloc.sweep.isSome then applyHeld s1 else s1)

/-- The steps at the end of a completed sweep (R86). -/
def sweepEnd (s : State) : State := fastShedCheck (activatePending (applyHeld s))

end Sys2Proof.Machine
end

