-- ==== Sys2Proof/Machine/Modes.lean ====
section
/-! DEFINITION. Mode Control (chapter 8): SET_MODE in its six settings, RESTART, and the effect of a
RESTART on every block (R24, R55, R89, R111, R147, R159, R179, R190, R198). -/

namespace Sys2Proof.Machine

/-! ## SET_MODE (R171 to R177) -/

/-- The code of the engine mode (R168, R201). -/
def EngineMode.code : EngineMode → Byte
  | .halted      => 0
  | .discovering => 1
  | .running     => 2

/-- The code of the resolution (R168, R201). -/
def Resolution.code : Resolution → Byte
  | .fine    => 0
  | .stepped => 1

/-- A scope as three bytes: the setting, the first pad and the last pad (R201). For FULL the spec gives
the two pad bytes no value: they are free (log entry 3). -/
def scopeBytes (n : Nat) : Scope → List Byte
  | .full => [4, Config.freeByte n, Config.freeByte (n + 1)]
  | .range a b => [5, byte1 a.val, byte1 b.val]

/-- The held scope change as an optional item (R162, R201). -/
def heldBytes (n : Nat) (x : Option Scope) : List Byte := optBytes 3 (scopeBytes n) x

/-- The response data of a taken SET_MODE (R171): the engine mode, the resolution, the scope in force
and the held scope change, as they stand after the request has acted. -/
def modeAnswer (s : State) : Answer :=
  accept (s.spend 4)
    (s.mode.engine.code :: s.mode.resolution.code
      :: (scopeBytes s.freeCount s.mode.scope ++ heldBytes (s.freeCount + 2) s.mode.held))

/-- SET_MODE HALT (R171): in RUNNING or DISCOVERING the engine enters HALTED. -/
def setHalt (s : State) : Answer :=
  modeAnswer (if s.mode.engine = .halted then s else enterHalted s)

/-- SET_MODE RESUME (R172). -/
def setResume (s : State) : Answer :=
  if s.tables.allLoaded = false then refuse .noTables s
  else if s.mode.stopLatch ∨ s.stopLevel then refuse .state s
  else modeAnswer (if s.mode.engine = .halted then enterDiscovering s else s)

/-- SET_MODE FINE or STEPPED (R175). -/
def setResolution (x : Resolution) (s : State) : Answer :=
  modeAnswer (s.withMode { s.mode with resolution := x })

/-- SET_MODE FULL or PARTIAL (R176, R177): held while a sweep is in progress, applied at once otherwise,
with the fast-shed check; the scope in force leaves the marks as they are. -/
def setScope (x : Scope) (s : State) : Answer :=
  modeAnswer
    (if s.alloc.sweep.isSome then s.withMode { s.mode with held := some x }
     else if s.mode.scope = x then s
     else fastShedCheck (applyScope x s))

/-- SET_MODE PARTIAL with its first and last pad (R171, R176). -/
def setPartial (first last : Nat) (s : State) : Answer :=
  if h : first < 64 ∧ last < 64 then
    if first ≤ last then setScope (.range ⟨first, h.1⟩ ⟨last, h.2⟩) s else refuse .range s
  else refuse .range s

/-- SET_MODE (R171): the length, the setting, then the setting's own rule. -/
def setModeRequest (body : List Byte) (s : State) : Answer :=
  if body.length ≠ 3 then refuse .badLength s
  else
    match (byteAt body 0).toNat with
    | 0 => setHalt s
    | 1 => setResume s
    | 2 => setResolution .fine s
    | 3 => setResolution .stepped s
    | 4 => setScope .full s
    | 5 => setPartial (byteAt body 1).toNat (byteAt body 2).toNat s
    | _ => refuse .range s

/-! ## RESTART (R159, R179) -/

/-- RESTART (R179): answered OK; it takes effect when the last byte of its response has been sent. -/
def restartRequest (body : List Byte) (s : State) : Answer :=
  if body ≠ [] then refuse .badLength s
  else accept (s.withFleet { s.fleet with restartWaiting := true }) []

/-- A pad after RESTART (R55, R89, R112, R147, R179), by whether its active record is enabled. -/
def Pad.restarted (enabled : Bool) : Pad :=
  { Pad.initial with state := if enabled then .empty else .disabled }

/-- A line at RESTART (R143, R147): the abandon mark when a transaction is in flight, the counters and
the normal position; the break has been asked for by the entry to HALTED. -/
def LineCtl.restarted (c : LineCtl) : LineCtl :=
  { c with
    abandon := c.abandon || c.inFlight.isSome, position := none
    good := 0, noisy := 0, corrupt := 0, wrong := 0, noReply := 0 }

/-- The effect of a RESTART on the Table Store (R24): a PENDING commit is cancelled. -/
def restartTables (s : State) : State :=
  s.withTables { s.tables with shadow := s.tables.active, commit := .idle, window := none }

/-- The effect of a RESTART on pads, groups, lines and the Allocation Engine, after the entry to HALTED
(R55, R89, R97, R105, R147, R179). -/
def restartBlocks (s : State) : State :=
  let s1 := s.mapPads fun p _ => Pad.restarted (s.padRec p).enabled
  let s2 := s1.mapGroups fun _ x => { x with headroom := 0, age := 0, hstate := .none, vstate := .normal }
  let s3 := s2.mapLines fun _ c => c.restarted
  let s4 := s3.withAlloc { s3.alloc with rotation := 0, rounds := 0, kept := [] }
  s4.withMode { s4.mode with resolution := .fine, scope := .full, held := none }

/-- The effect of a RESTART on the Notice Unit and the Fleet Line Port (R159, R190). -/
def restartPorts (s : State) : State :=
  let s1 := s.withNotices
    { captures := [], nextSeq := 0, overflow := false, overflowCount := 0, pendingSet := 0, mask := 0 }
  s1.withFleet
    { s1.fleet with
      tx := s1.fleet.tx.filter fun x => !x.isNotice
      corrupt := 0, dropped := 0, restartWaiting := false }

/-- The effect of a RESTART on the Signal Line Unit (R198), with the shed-input states, the stop latch
and the effective capacities that follow from it (R111). -/
def restartSignals (s : State) : State :=
  let s1 := s.withSignals { s.signals with latch := tabulate 8 fun _ => false }
  let s2 := raiseIf (allInputs.any s1.entersLevel) .inputEvent s1
  fastShedCheck (storeAllCapacities (reformStop (reformAllSheds s2)))

/-- A RESTART takes effect (R159, R179): the entry to HALTED and the restart of every block, in one
event. -/
def restartEffect (s : State) : State :=
  restartSignals (restartPorts (restartBlocks (haltEffects (restartTables s))))

/-! ## The meanings -/

/-- SET_MODE with setting HALT (R171). -/
def execSetModeHalt (tag : Byte) (body : List Byte) (s : State) : Host.Outcome State Fault Refusal :=
  finish (takeRequest 0x18 tag body (setModeRequest body) s)

/-- SET_MODE with setting RESUME (R172). -/
def execSetModeResume (tag : Byte) (body : List Byte) (s : State) : Host.Outcome State Fault Refusal :=
  finish (takeRequest 0x18 tag body (setModeRequest body) s)

/-- SET_MODE with setting FINE (R175). -/
def execSetModeFine (tag : Byte) (body : List Byte) (s : State) : Host.Outcome State Fault Refusal :=
  finish (takeRequest 0x18 tag body (setModeRequest body) s)

/-- SET_MODE with setting STEPPED (R175). -/
def execSetModeStepped (tag : Byte) (body : List Byte) (s : State) :
    Host.Outcome State Fault Refusal :=
  finish (takeRequest 0x18 tag body (setModeRequest body) s)

/-- SET_MODE with setting FULL (R176). -/
def execSetModeFull (tag : Byte) (body : List Byte) (s : State) : Host.Outcome State Fault Refusal :=
  finish (takeRequest 0x18 tag body (setModeRequest body) s)

/-- SET_MODE with setting PARTIAL (R176). -/
def execSetModePartial (tag : Byte) (body : List Byte) (s : State) :
    Host.Outcome State Fault Refusal :=
  finish (takeRequest 0x18 tag body (setModeRequest body) s)

/-- RESTART (R179). -/
def execRestart (tag : Byte) (body : List Byte) (s : State) : Host.Outcome State Fault Refusal :=
  finish (takeRequest kindRestart tag body (restartRequest body) s)

end Sys2Proof.Machine
end

