-- ==== Sys2Proof/Machine/FleetLine.lean ====
section
/-! DEFINITION. The Fleet Line Port (chapter 7): the receiver byte by byte, the transmitter, and a request of
an unknown kind. -/

namespace Sys2Proof.Machine

/-! ## The receiver (R149 to R152) -/

/-- The receiver's state becomes `r`. -/
def State.setReceiver (s : State) (r : Receiver) : State :=
  s.withFleet { s.fleet with receiver := r }

/-- A frame is discarded (R150, R151): the fleet CORRUPT counter advances, and the receiver hunts. -/
def discardFrame (s : State) : State :=
  s.withFleet { s.fleet with receiver := .hunt, corrupt := satInc 65535 s.fleet.corrupt }

/-- A good frame joins the receive queue, or is dropped at a full one (R152). -/
def joinQueue (f : RxFrame) (s : State) : State :=
  if s.fleet.rx.length < Config.rxDepth then s.withFleet { s.fleet with rx := s.fleet.rx ++ [f] }
  else
    raise .requestDropped (s.withFleet { s.fleet with dropped := satInc 65535 s.fleet.dropped })

/-- Whether a frame that has ended is good (R150), given the bytes after its start byte: no byte had its
stop bit taken as space, and the check agrees with the length, the kind, the tag and the body. -/
def frameGood (got : List RxByte) : Bool :=
  let d := got.map RxByte.data
  !(got.any RxByte.framing) && crcBytes (crc (d.take (d.length - 2))) == d.drop (d.length - 2)

/-- The frame that its bytes after the start byte carry: kind, tag and body (R148, R200). -/
def frameOf (got : List RxByte) : RxFrame :=
  let d := got.map RxByte.data
  { kind := byteAt d 1, tag := byteAt d 2, body := (d.drop 3).take (d.length - 5) }

/-- A frame ends (R150, R152): the receiver hunts again, and the frame is judged. -/
def frameEnds (got : List RxByte) (s : State) : State :=
  if frameGood got then joinQueue (frameOf got) (s.setReceiver .hunt) else discardFrame s

/-- A byte within a frame, with the bytes after the start byte up to it (R149, R150): a length above 240
discards the frame at once, and the frame ends with the byte that its length gives. -/
def frameByte (got : List RxByte) (s : State) : State :=
  let n := (byteAt (got.map RxByte.data) 0).toNat
  if Config.bodyLimit < n then discardFrame s
  else if got.length = n + 5 then frameEnds got s
  else s.setReceiver (.frame got)

/-- A byte arrives (R149): the hunt ignores every byte but a start byte A5h without a framing error. -/
def receiveByte (s : State) (b : RxByte) : State :=
  match s.fleet.receiver with
  | .hunt => if b.data = 0xA5 ∧ b.framing = false then s.setReceiver (.frame []) else s
  | .frame got => frameByte (got ++ [b]) s

/-- Bytes arrive one after another (R149 to R152). -/
def receiveBytes (bytes : List RxByte) (s : State) : State := bytes.foldl receiveByte s

/-- A gap of more than 5 ms passes (R151): a frame being received is discarded and counted; in the hunt
nothing happens. -/
def abortFrame (s : State) : State := if s.fleet.receiver = .hunt then s else discardFrame s

/-! ## The transmitter (R157 to R159) -/

/-- The transmitter starts the head frame (R157, R158): a RESPONSE as it was formed; the waiting NOTICE
with the pending unmasked set as it then stands, or, when that set is empty, not at all: the frame is
withdrawn. Nothing happens while a frame is in transmission or the queue is empty. -/
def transmitStart (s : State) : State :=
  if s.fleet.sending.isSome then s
  else match s.fleet.tx with
    | [] => s
    | .response f :: rest => s.withFleet { s.fleet with tx := rest, sending := some f }
    | .notice :: rest =>
      if s.notices.unmasked = 0 then s.withFleet { s.fleet with tx := rest }
      else
        s.withFleet
          { s.fleet with
            tx := rest
            sending := some { kind := kindNotice, tag := 0, body := noticeBytes s.notices.unmasked } }

/-- The last byte of the frame in transmission is sent (R157); the end of a RESTART's response is the
event in which the RESTART takes effect (R159). -/
def transmitEnd (s : State) : State :=
  match s.fleet.sending with
  | none => s
  | some f =>
    let s1 := s.withFleet { s.fleet with sending := none }
    if f.isRestart then restartEffect s1 else s1

/-- A request whose kind is no request kind is answered BAD_KIND; no block sees it (R154). -/
def badKindAnswer (s : State) : Answer := refuse .badKind s

/-! ## The meanings -/

/-- BAD_KIND_REQUEST (R154); nothing happens for a kind that is a request kind. -/
def execBadKindRequest (kind tag : Byte) (body : List Byte) (s : State) :
    Host.Outcome State Fault Refusal :=
  finish (if kind ∈ requestKinds then s else takeRequest kind tag body badKindAnswer s)

/-- FLEET_FRAME_RECEIVED (R149, R150). -/
def execFleetFrameReceived (before head body check after : List RxByte) (s : State) :
    Host.Outcome State Fault Refusal :=
  finish (receiveBytes (before ++ head ++ body ++ check ++ after) s)

/-- FLEET_LENGTH_ABOVE_240 (R149, R150). -/
def execFleetLengthAbove240 (bytes : List RxByte) (s : State) : Host.Outcome State Fault Refusal :=
  finish (receiveBytes bytes s)

/-- FLEET_FRAME_ABORT (R151). -/
def execFleetFrameAbort (s : State) : Host.Outcome State Fault Refusal := finish (abortFrame s)

/-- FRAME_TRANSMIT_START (R157). -/
def execFrameTransmitStart (s : State) : Host.Outcome State Fault Refusal := finish (transmitStart s)

/-- FRAME_TRANSMIT_END (R157). -/
def execFrameTransmitEnd (s : State) : Host.Outcome State Fault Refusal := finish (transmitEnd s)

end Sys2Proof.Machine
end

