-- ==== Sys2Proof/Machine/Sessions.lean ====
section
/-! DEFINITION. The Session Manager and the Compliance Monitor (chapters 2 and 5): entries to COMPLETE,
FAULTED and SILENT, the handling of reports, fault reports, capabilities and failed transactions, and
the requests DISPATCH, RELEASE, PAD_LIMIT, CLEAR_PAD and HEADROOM. -/

namespace Sys2Proof.Machine

/-! ## Entries to states that lower power -/

/-- A session becomes COMPLETE (R41): the grant is lowered to 0 by the decrease path and PAD_COMPLETE is
raised. -/
def complete (p : PadId) (s : State) : State :=
  raise .padComplete ((decrease p 0 s).updPad p fun q => q.setState .complete)

/-- The completion check (R41). -/
def completionCheck (p : PadId) (s : State) : State :=
  if s.pads[p].state.served ∧ s.pads[p].dispatch.isSome ∧ s.pads[p].remaining = 0 then complete p s
  else s

/-- The common entry to FAULTED (R52, R77): the decrease path to 0, decrease-pending cleared at once,
the fault code, the capture entry, PAD_FAULT, and the increase release. -/
def enterFaulted (p : PadId) (source : CaptureSource) (code : Byte) (power : Nat) (s : State) : State :=
  let s1 := (decrease p 0 s).updPad p fun q =>
    ({ q with fault := some code, decPending := false, prior := 0 }).setState .faulted
  increaseRelease (raise .padFault (captureEvent p source code power s1))

/-- What entry to SILENT does to the pad (R48, R80, R120). -/
def Pad.enterSilent (holdRounds : Nat) (q : Pad) : Pad :=
  ({ q.clearFigures with
      reservation := max q.sent (if q.decPending then q.prior else 0)
      roundsLeft := holdRounds
      overdraw := 0
      sample := none }).setState .silent

/-- Entry to SILENT (R48, R80, R99): the reservation, the increase release, PAD_SILENT, the sample that
leaves its group's set, and the fast-shed check. -/
def enterSilent (p : PadId) (s : State) : State :=
  let s1 := increaseRelease (s.updPad p (Pad.enterSilent s.site.holdRounds))
  let s2 := raise .padSilent s1
  let s3 := if s.pads[p].sample.isSome then evaluateVoltage (s.padRec p).group s2 else s2
  fastShedCheck s3

/-! ## Probing (R35 to R38) -/

/-- The capability record formed from the site's default figures (R37). -/
def defaultCapability (site : SiteRec) : Capability where
  vmax         := site.defMax
  vmin         := site.defMin
  vehicleId    := none
  battery      := none
  tiers        := []
  source       := .default
  tiersIgnored := false

/-- Probing ends with its attempts used up (R37, step 2). -/
def endProbing (p : PadId) (s : State) : State :=
  if (s.padRec p).assumeDefault then
    completionCheck p
      (s.updPad p fun q => ({ q with caps := some (defaultCapability s.site) }).setState .waiting)
  else
    enterFaulted p .coordinator codeNoCaps ((s.pads[p].report.map Report.metered).getD 0) s

/-- A probe attempt has failed otherwise than by a failed transaction (R37). -/
def probeFailed (p : PadId) (s : State) : State :=
  let s1 := s.updPad p fun q => { q with attempts := q.attempts + 1 }
  if s.site.probeAttempts ≤ s1.pads[p].attempts then endProbing p s1 else s1

/-- Whether the power figures of a CAPS pass (R36). -/
def CapsFields.passes (c : CapsFields) : Bool :=
  decide (1 ≤ c.vmax) && decide (c.vmax ≤ 400) && decide (1 ≤ c.vmin) && decide (c.vmin ≤ c.vmax)

/-- Whether a list is strictly ascending. -/
def ascending : List Nat → Bool
  | a :: b :: l => decide (a < b) && ascending (b :: l)
  | _ => true

/-- Whether the tier list of a CAPS is used as received (R36). -/
def CapsFields.tiersUsed (c : CapsFields) : Bool :=
  decide (c.tiers.length ≤ 6) && ascending c.tiers
    && c.tiers.all fun t => decide (c.vmin ≤ t) && decide (t ≤ c.vmax)

/-- The capability record formed from a CAPS (R35, R36). -/
def CapsFields.capability (c : CapsFields) : Capability where
  vmax         := c.vmax
  vmin         := c.vmin
  vehicleId    := c.id
  battery      := c.battery
  tiers        := if c.tiersUsed then c.tiers else []
  source       := .vehicle
  tiersIgnored := !c.tiersUsed

/-- A target is lowered to a battery capacity that is known (R35, R115). -/
def Pad.clampTarget (battery : Option Nat) (q : Pad) : Pad :=
  match battery, q.dispatch with
  | some b, some d =>
    if b < d.target then
      { q with dispatch := some { d with target := b }, remaining := b - q.delivered }
    else q
  | _, _ => q

/-- A good CAPS (R32, R35, R36): it ends probing or is a failed probe attempt; in any other state it is
discarded. -/
def handleCaps (p : PadId) (c : CapsFields) (s : State) : State :=
  if s.pads[p].state ≠ .probing then s
  else if c.passes then
    completionCheck p
      (s.updPad p fun q =>
        (Pad.clampTarget c.battery { q with caps := some c.capability }).setState .waiting)
  else probeFailed p s

/-! ## Failed transactions (R37, R48) -/

/-- Whether a session can fall silent (R48). -/
def SessionState.maySilence : SessionState → Bool
  | .empty | .probing | .waiting | .charging | .complete | .releasing => true
  | _ => false

/-- A failed transaction, after it has been counted (R37, R48, R135). In PROBING, in answer to a PROBE,
it is a failed probe attempt as well; silence is looked at first. -/
def handleFailed (p : PadId) (request : LineRequest) (s : State) : State :=
  let probe : Bool := s.pads[p].state == .probing && request == .probe
  let s1 := if probe then s.updPad p fun q => { q with attempts := q.attempts + 1 } else s
  if s1.pads[p].state.maySilence ∧ s.site.missLimit ≤ s1.pads[p].failures then enterSilent p s1
  else if probe ∧ s.site.probeAttempts ≤ s1.pads[p].attempts then endProbing p s1
  else s1

/-! ## A good REPORT (R26, R34, R38, R44 to R46, R50, R53) -/

/-- The report is stored, and marks its docking when the vehicle is present (R26). -/
def Pad.storeReport (r : Report) (q : Pad) : Pad :=
  { q with report := some r, inDocking := q.inDocking || r.present }

/-- Departure without release (R45). -/
def depart (p : PadId) (s : State) : State :=
  increaseRelease (s.updPad p fun q => q.clearFigures.enterEmpty)

/-- A vehicle swap (R46). -/
def swap (p : PadId) (docking : Byte) (s : State) : State :=
  increaseRelease
    (s.updPad p fun q =>
      { q.dropDispatch.clearFigures.enterProbing with docking := docking, overdraw := 0 })

/-- A REPORT that ends a silence (R50). -/
def endSilence (p : PadId) (r : Report) (s : State) : State :=
  let s1 := s.updPad p Pad.clearReservation
  if r.present = false then s1.updPad p Pad.enterEmpty
  else if r.docking = s.pads[p].docking ∧ s.pads[p].caps.isSome then
    completionCheck p (s1.updPad p fun q => q.setState .waiting)
  else s1.updPad p fun q => { q.dropDispatch.enterProbing with docking := r.docking }

/-- Step 1 of a good REPORT: the transition it causes in the session's present state (R26). -/
def reportTransition (p : PadId) (request : LineRequest) (r : Report) (s : State) : State :=
  let q := s.pads[p]
  match q.state with
  | .disabled | .faulted => s
  | .empty =>
    if r.present then s.updPad p fun q => { q.enterProbing with docking := r.docking } else s
  | .probing =>
    if r.present = false then s.updPad p Pad.enterEmpty
    else if r.docking ≠ q.docking then
      s.updPad p fun q => { q.dropDispatch with docking := r.docking, attempts := 0 }
    else if request = .probe then probeFailed p s
    else s
  | .waiting | .charging | .complete =>
    if r.present = false then depart p s
    else if r.docking ≠ q.docking then swap p r.docking s
    else s
  | .releasing =>
    if r.present = false then s.updPad p Pad.enterEmpty
    else if r.docking ≠ q.docking then swap p r.docking s
    else s
  | .silent => endSilence p r s

/-- Energy accounting (R114). -/
def Pad.account (r : Report) (q : Pad) : Pad :=
  match q.dispatch with
  | none => q
  | some d =>
    if r.present ∧ r.docking = q.docking then
      { q with
        delivered := (r.energy + 65536 - d.base) % 65536
        remaining := d.target - (r.energy + 65536 - d.base) % 65536 }
    else q

/-- The reference setpoint of the overdraw check (R117). -/
def Pad.reference (q : Pad) : Nat := if q.decPending then q.prior else q.sent

/-- Whether the overdraw check is made in a state (R117). -/
def SessionState.overdrawChecked : SessionState → Bool
  | .waiting | .charging | .releasing => true
  | _ => false

/-- The overdraw check (R117, R118). -/
def overdrawCheck (p : PadId) (r : Report) (s : State) : State :=
  let q := s.pads[p]
  let f := s.feederRec (s.padRec p).group
  if q.state.overdrawChecked = false then s
  else if q.reference + f.tolerance < r.metered then
    let s1 := s.updPad p fun q => { q with overdraw := q.overdraw + 1 }
    if f.overdrawLimit ≤ q.overdraw + 1 then enterFaulted p .coordinator codeOverdraw r.metered s1
    else s1
  else s.updPad p fun q => { q with overdraw := 0 }

/-- The confirmation of a decrease (R78). -/
def confirmDecrease (p : PadId) (r : Report) (s : State) : State :=
  if s.pads[p].decPending ∧ r.applied ≤ s.pads[p].sent then
    increaseRelease (s.updPad p fun q => { q with decPending := false, prior := 0 })
  else s

/-- Whether a session in a state contributes a voltage sample (R98). -/
def SessionState.contributes : SessionState → Bool
  | .disabled | .silent => false
  | _ => true

/-- Step 4 of a good REPORT: the supply voltage (R98). -/
def takeVoltage (p : PadId) (r : Report) (s : State) : State :=
  if s.pads[p].state.contributes then
    evaluateVoltage (s.padRec p).group (s.updPad p fun q => { q with sample := some r.voltage })
  else s

/-- A good REPORT (R26, R125): stored, then the transition, energy accounting, the overdraw check, the
confirmation of a decrease, the completion check, and the voltage. -/
def handleReport (p : PadId) (request : LineRequest) (r : Report) (s : State) : State :=
  let s1 := s.updPad p (Pad.storeReport r)
  let s2 := reportTransition p request r s1
  let s3 := s2.updPad p (Pad.account r)
  let s4 := overdrawCheck p r s3
  let s5 := confirmDecrease p r s4
  let s6 := completionCheck p s5
  takeVoltage p r s6

/-! ## A good FAULT_REPORT (R26, R51) -/

/-- A FAULT_REPORT's docking count replaces that of the latest report, when one is held (R26). -/
def Pad.storeFaultDocking (docking : Byte) (q : Pad) : Pad :=
  { q with report := q.report.map fun r => { r with docking := docking } }

/-- A good FAULT_REPORT (R50, R51). -/
def handleFault (p : PadId) (code docking : Byte) (metered : Nat) (s : State) : State :=
  let s1 := s.updPad p (Pad.storeFaultDocking docking)
  match s.pads[p].state with
  | .disabled => s
  | .faulted =>
    raise .padFault (captureEvent p .charger code metered
      (s1.updPad p fun q => { q with fault := some code }))
  | .silent => enterFaulted p .charger code metered (s1.updPad p Pad.clearReservation)
  | .empty | .probing | .waiting | .charging | .complete | .releasing =>
    enterFaulted p .charger code metered s1

/-! ## Requests -/

/-- The pad a body's first byte names (R201); none above 63. -/
def padOf (body : List Byte) : Option PadId :=
  if h : (byteAt body 0).toNat < 64 then some ⟨(byteAt body 0).toNat, h⟩ else none

/-- The group a body's first byte names (R201); none above 7. -/
def groupOf (body : List Byte) : Option GroupId :=
  if h : (byteAt body 0).toNat < 8 then some ⟨(byteAt body 0).toNat, h⟩ else none

/-- Whether a DISPATCH is accepted in a state (R39). -/
def SessionState.mayDispatch : SessionState → Bool
  | .probing | .waiting | .charging | .complete => true
  | _ => false

/-- The stored target of a DISPATCH: the target carried, lowered to a known battery capacity (R39). -/
def storedTarget (q : Pad) (carried : Nat) : Nat :=
  match q.caps.bind Capability.battery with
  | some b => min carried b
  | none   => carried

/-- The dispatch record that an accepted DISPATCH forms (R39). -/
def newDispatch (q : Pad) (now : Ticks) (target seconds : Nat) : Dispatch where
  target   := target
  base     := if q.inDocking then (q.report.map Report.energy).getD 0 else 0
  deadline := now + BitVec.ofNat 32 (10 * seconds)
  missed   := false

/-- What follows a new dispatch record in the session's state (R39, R42). -/
def afterDispatch (p : PadId) (target : Nat) (s : State) : State :=
  match s.pads[p].state with
  | .waiting | .charging => completionCheck p s
  | .complete =>
    if 0 < target then s.updPad p fun q => q.setState .waiting else raise .padComplete s
  | _ => s

/-- DISPATCH (R39). -/
def dispatchRequest (body : List Byte) (s : State) : Answer :=
  if body.length ≠ 5 then refuse .badLength s
  else match padOf body with
    | none => refuse .range s
    | some p =>
      if s.pads[p].state.mayDispatch = false then refuse .state s
      else
        let t := storedTarget s.pads[p] (wordAt body 1)
        let s1 := s.updPad p fun q =>
          { q with
            dispatch := some (newDispatch q s.time.running t (wordAt body 3))
            delivered := 0, remaining := t }
        acceptClamped (decide (t < wordAt body 1)) (afterDispatch p t s1) (bytes2 t)

/-- RELEASE (R43). From PROBING the figures that an unconfirmed decrease has left are cleared at once
(R38, R119); R79 makes no increase release there (log entry 18). -/
def releaseRequest (body : List Byte) (s : State) : Answer :=
  if body.length ≠ 1 then refuse .badLength s
  else match padOf body with
    | none => refuse .range s
    | some p =>
      match s.pads[p].state with
      | .waiting | .charging | .complete =>
        accept ((decrease p 0 s).updPad p fun q => q.dropDispatch.setState .releasing) []
      | .probing =>
        accept (s.updPad p fun q => q.dropDispatch.clearFigures.setState .releasing) []
      | .empty => accept s []
      | .disabled | .releasing | .silent | .faulted => refuse .state s

/-- PAD_LIMIT (R47). -/
def padLimitRequest (body : List Byte) (s : State) : Answer :=
  if body.length ≠ 4 then refuse .badLength s
  else match padOf body with
    | none => refuse .range s
    | some p =>
      let x := wordAt body 2
      if (byteAt body 1).toNat = 0 then
        accept (s.updPad p fun q => { q with limit := none }) (limitBytes none)
      else if (byteAt body 1).toNat ≠ 1 ∨ 400 < x then refuse .range s
      else
        let clamped : Bool := (s.padRec p).enabled && decide ((s.padRec p).ceiling < x)
        let l := if clamped then (s.padRec p).ceiling else x
        acceptClamped clamped (s.updPad p fun q => { q with limit := some l }) (limitBytes (some l))

/-- What CLEAR_PAD makes of a FAULTED session (R54). -/
def Pad.cleared (q : Pad) : Pad :=
  let q1 : Pad := { q with fault := none, overdraw := 0 }
  match q.report with
  | none => q1.enterEmpty
  | some r =>
    if r.present = false then q1.enterEmpty
    else if r.docking = q.docking then q1.enterProbing
    else { q1.dropDispatch.enterProbing with docking := r.docking }

/-- CLEAR_PAD (R54). -/
def clearPadRequest (body : List Byte) (s : State) : Answer :=
  if body.length ≠ 1 then refuse .badLength s
  else match padOf body with
    | none => refuse .range s
    | some p =>
      if s.pads[p].state ≠ .faulted then refuse .state s
      else accept (s.updPad p Pad.cleared) [s.pads[p].cleared.state.code]

/-- HEADROOM (R94). -/
def headroomRequest (body : List Byte) (s : State) : Answer :=
  if body.length ≠ 3 then refuse .badLength s
  else match groupOf body with
    | none => refuse .range s
    | some g =>
      if s.tables.allLoaded = false then refuse .noTables s
      else if (s.feederRec g).enabled = false then refuse .state s
      else
        let x := min (wordAt body 1) (s.feederRec g).rated
        let s1 := recompute g
          (s.updGroup g fun y => { y with headroom := x, age := 0, hstate := .fresh })
        acceptClamped (decide (x < wordAt body 1)) s1 (bytes2 x ++ bytes2 s1.groups[g].capacity)

/-! ## The meanings -/

/-- DISPATCH (R39). -/
def execDispatch (tag : Byte) (body : List Byte) (s : State) : Host.Outcome State Fault Refusal :=
  finish (takeRequest 0x01 tag body (dispatchRequest body) s)

/-- RELEASE (R43). -/
def execRelease (tag : Byte) (body : List Byte) (s : State) : Host.Outcome State Fault Refusal :=
  finish (takeRequest 0x02 tag body (releaseRequest body) s)

/-- PAD_LIMIT (R47). -/
def execPadLimit (tag : Byte) (body : List Byte) (s : State) : Host.Outcome State Fault Refusal :=
  finish (takeRequest 0x03 tag body (padLimitRequest body) s)

/-- CLEAR_PAD (R54). -/
def execClearPad (tag : Byte) (body : List Byte) (s : State) : Host.Outcome State Fault Refusal :=
  finish (takeRequest 0x04 tag body (clearPadRequest body) s)

/-- HEADROOM (R94). -/
def execHeadroom (tag : Byte) (body : List Byte) (s : State) : Host.Outcome State Fault Refusal :=
  finish (takeRequest 0x08 tag body (headroomRequest body) s)

end Sys2Proof.Machine
end

