-- ==== Sys2Proof/Machine/PadLine.lean ====
section
/-! DEFINITION. The Pad Line Controllers (chapter 6): the start of a transaction, its end with its
outcome, the hand-up, and the end of a break. -/

namespace Sys2Proof.Machine

/-! ## The turn (R136 to R141) -/

/-- What a turn addresses: the drop, the pad it is sent for (none under the final-poll mark), the
request, its slot, and the setpoint a POLL carries (R136). -/
structure Turn where
  drop     : Nat
  pad      : Option PadId
  request  : LineRequest
  slot     : Slot
  setpoint : Nat
  deriving DecidableEq, Repr

/-- The turn of the final poll slot: the oldest drop, a POLL with setpoint 0 (R136, R141). -/
def finalTurn (c : LineCtl) : Option Turn :=
  c.final.head?.map fun d =>
    { drop := d, pad := none, request := .poll, slot := .final, setpoint := 0 }

/-- The turn of the urgent slot: the oldest pad, a POLL with its sent setpoint (R136). -/
def urgentTurn (s : State) (c : LineCtl) : Option Turn :=
  c.urgent.head?.map fun p =>
    { drop := (s.padRec p).drop, pad := some p, request := .poll, slot := .urgent
      setpoint := s.pads[p].sent }

/-- The turn of the normal slot: the next cycle member, a PROBE in PROBING and otherwise a POLL with the
pad's sent setpoint (R136, R137). -/
def normalTurn (s : State) (l : LineId) (c : LineCtl) : Option Turn :=
  match nextMember (s.members l) c.position with
  | none => none
  | some d =>
    (s.padAt l d).map fun p =>
      { drop := d, pad := some p
        request := if s.pads[p].state = .probing then .probe else .poll
        slot := .normal, setpoint := s.pads[p].sent }

/-- Whether a list slot is offered: its mark is clear, or the line has no cycle members (R138). -/
def offered (members : List Nat) (mark : Bool) : Bool := members.isEmpty || !mark

/-- The turn a controller picks, in the order of R138; none when it has no drop to address. -/
def pickTurn (s : State) (l : LineId) : Option Turn :=
  let c := s.lines[l]
  let ms := s.members l
  match (if offered ms c.finalOffered then finalTurn c else none) with
  | some t => some t
  | none =>
    match (if offered ms c.urgentOffered then urgentTurn s c else none) with
    | some t => some t
    | none => normalTurn s l c

/-- What picking a turn does to the lists, the position and the offered marks (R138, R140, R141). -/
def LineCtl.afterTurn (t : Turn) (c : LineCtl) : LineCtl :=
  match t.slot with
  | .final => { c with finalOffered := true, final := c.final.drop 1 }
  | .urgent => { c with finalOffered := true, urgentOffered := true, urgent := c.urgent.drop 1 }
  | .normal =>
    { c with
      finalOffered := false, urgentOffered := false, position := some t.drop
      urgent :=
        if t.request = .poll then c.urgent.filter fun p => some p != t.pad else c.urgent }

/-- The characters a turn sends, bit for bit (R128, R136, R202). -/
def turnFrame (site : SiteRec) (t : Turn) : List LineChar :=
  sentChars (match t.request with
    | .poll  => pollFrame t.drop t.setpoint site.holdRounds site.period
    | .probe => probeFrame t.drop)

/-- Whether a controller may start a transaction (R130): none in flight, no break pending or being
sent. -/
def LineCtl.mayStart (c : LineCtl) : Bool := c.inFlight.isNone && !c.breakPending && !c.breaking

/-- A line that was held busy falls idle (R131): a break that waited for it starts. An event that only an
idle line brings shows that it has (log entry 29). -/
def LineCtl.fallIdle (c : LineCtl) : LineCtl :=
  if c.busy then ({ c with busy := false }).startBreak else c

/-- A transaction starts on an idle line (R130, R136, R138). -/
def pickAndSend (l : LineId) (s : State) : State :=
  if s.lines[l].mayStart = false then s
  else match pickTurn s l with
    | none => s
    | some t =>
      s.updLine l fun c =>
        { c.afterTurn t with
          inFlight := some
            { drop := t.drop, pad := t.pad, request := t.request, slot := t.slot
              timeout := s.site.replyTimeout
              inDiscovery := t.slot == .normal && c.discovery }
          wire := turnFrame s.site t }

/-- TRANSACTION_START's effect: a line that was held busy has fallen idle, and a transaction starts, or the
break that waited (R130, R131). -/
def startTransaction (l : LineId) (s : State) : State := pickAndSend l (s.updLine l LineCtl.fallIdle)

/-! ## The end of a transaction (R132, R134, R135, R143, R144) -/

/-- A good reply: GOOD or NOISY (R132). -/
def LineOutcome.isGood : LineOutcome → Bool
  | .good | .noisy => true
  | _ => false

/-- The line's counter for an outcome advances (R134). -/
def LineCtl.count (o : LineOutcome) (c : LineCtl) : LineCtl :=
  match o with
  | .good       => { c with good := satInc 65535 c.good }
  | .noisy      => { c with noisy := satInc 65535 c.noisy }
  | .corrupt    => { c with corrupt := satInc 65535 c.corrupt }
  | .wrongReply => { c with wrong := satInc 65535 c.wrong }
  | .noReply    => { c with noReply := satInc 65535 c.noReply }

/-- The pad a transaction's result reaches: it still holds the address the request went to, and its
session is not DISABLED (R20, R134). -/
def reaches (s : State) (l : LineId) (tx : Transaction) : Option PadId :=
  match tx.pad with
  | none => none
  | some p =>
    if s.onLine l p ∧ (s.padRec p).drop = tx.drop ∧ s.pads[p].state ≠ .disabled then some p else none

/-- The consecutive-failure count after an outcome (R134). -/
def Pad.countFailure (o : LineOutcome) (q : Pad) : Pad :=
  { q with failures := if o.isGood then 0 else satInc 255 q.failures }

/-- The hand-up of a result to the Session Manager (R32, R135). -/
def handUp (p : PadId) (request : LineRequest) (o : LineOutcome) (rx : List RxChar) (s : State) : State :=
  let b := replyBody rx
  if o.isGood then
    if replyKind rx = lineReport then handleReport p request (reportOf b) s
    else if replyKind rx = lineFault then handleFault p (byteAt b 0) (byteAt b 3) (wordAt b 1) s
    else handleCaps p (capsOf b) s
  else handleFailed p request s

/-- The result of a transaction is counted, and then handed up when it reaches a pad (R134, R135). -/
def deliver (l : LineId) (tx : Transaction) (o : LineOutcome) (rx : List RxChar) (s : State) : State :=
  let s1 := s.updLine l (LineCtl.count o)
  match reaches s l tx with
  | none => s1
  | some p => handUp p tx.request o rx (s1.updPad p (Pad.countFailure o))

/-- The discovery mark at the end of a transaction (R144): a normal poll started after the entry clears
it when no cycle member lies above the drop it addressed; the last mark to clear ends DISCOVERING. -/
def clearMark (l : LineId) (tx : Transaction) (s : State) : State :=
  if s.lines[l].discovery ∧ tx.slot = .normal ∧ tx.inDiscovery ∧ noneAbove (s.members l) tx.drop then
    endDiscoveryIfDone (s.updLine l fun c => { c with discovery := false })
  else s

/-- A transaction ends with an outcome (R132, R134, R143). Under the abandon mark its result is
discarded uncounted. A pending break then starts (R142), unless the reply ended at 300 characters, with the
line still busy (R131). DEDUCED (log entry 31): a transaction that ends at the reply timeout leaves the line
not busy, whatever characters are on it. -/
def endTransaction (l : LineId) (tx : Transaction) (o : LineOutcome) (rx : List RxChar) (s : State) :
    State :=
  let abandoned := s.lines[l].abandon
  let s1 := s.updLine l fun c =>
    { c with
      inFlight := none, abandon := false
      busy := decide (Config.replyLimit ≤ (replyChars rx).length) }
  let s2 := if abandoned then s1 else deliver l tx o rx s1
  (clearMark l tx s2).updLine l LineCtl.startBreak

/-- The reply timeout runs out on a line (R130); nothing happens with no transaction in flight. -/
def replyTimeout (l : LineId) (s : State) : State :=
  match s.lines[l].inFlight with
  | none => s
  | some tx => endTransaction l tx .noReply [] s

/-- A reply ends on a line (R131, R132): the characters decide its outcome and its kind. Characters
received with no transaction in flight are ignored (R129), and characters without an address character
start no reply (R130). -/
def endReply (l : LineId) (rx : List RxChar) (s : State) : State :=
  match s.lines[l].inFlight with
  | none => s
  | some tx => if replyChars rx = [] then s else endTransaction l tx (classify tx rx) rx s

/-- A break ends (R142): the line returns to the mark level and empties its urgent list; a break asked
for meanwhile follows. A break that waited for a busy line has started when it fell idle (R131). -/
def LineCtl.endBreak (c : LineCtl) : LineCtl :=
  if c.fallIdle.breaking then ({ c.fallIdle with breaking := false, urgent := [] }).startBreak else c

/-! ## The meanings -/

/-- TRANSACTION_START (R130). -/
def execTransactionStart (l : LineId) (s : State) : Host.Outcome State Fault Refusal :=
  finish (startTransaction l s)

/-- REPLY_TIMEOUT (R130). -/
def execReplyTimeout (l : LineId) (s : State) : Host.Outcome State Fault Refusal :=
  finish (replyTimeout l s)

/-- REPORT (R26). -/
def execReport (l : LineId) (rx : List RxChar) (s : State) : Host.Outcome State Fault Refusal :=
  finish (endReply l rx s)

/-- FAULT_REPORT (R51). -/
def execFaultReport (l : LineId) (rx : List RxChar) (s : State) : Host.Outcome State Fault Refusal :=
  finish (endReply l rx s)

/-- CAPS (R35). -/
def execCaps (l : LineId) (rx : List RxChar) (s : State) : Host.Outcome State Fault Refusal :=
  finish (endReply l rx s)

/-- REPLY_FAILED (R132). -/
def execReplyFailed (l : LineId) (rx : List RxChar) (s : State) : Host.Outcome State Fault Refusal :=
  finish (endReply l rx s)

/-- LINE_BREAK_END (R142); nothing happens while no break is being sent. -/
def execLineBreakEnd (l : LineId) (s : State) : Host.Outcome State Fault Refusal :=
  finish (s.updLine l LineCtl.endBreak)

end Sys2Proof.Machine
end

