-- ==== Sys2Proof/Machine/Tables.lean ====
section
/-! DEFINITION. The Table Store (chapter 1): OPEN_WINDOW, WRITE_RECORDS, READ_RECORDS, COMMIT with its
check and validation, and DISCARD. -/

namespace Sys2Proof.Machine

/-! ## Banks as records (R2, R199) -/

/-- The table of an id (R2). -/
def tableOf (b : Byte) : Option TableId :=
  match b.toNat with
  | 0 => some .site
  | 1 => some .feeder
  | 2 => some .pad
  | 3 => some .line
  | _ => none

/-- The id of a table (R2). -/
def TableId.code : TableId → Byte
  | .site   => 0
  | .feeder => 1
  | .pad    => 2
  | .line   => 3

/-- The number of records of a table (R2). -/
def TableId.records : TableId → Nat
  | .site   => 1
  | .feeder => 8
  | .pad    => 64
  | .line   => 16

/-- The bytes of one record of a table (R2). -/
def TableId.size : TableId → Nat
  | .site   => 32
  | .feeder => 16
  | .pad    => 12
  | .line   => 4

/-- The largest count of a READ_RECORDS (R10). -/
def TableId.readLimit : TableId → Nat
  | .site   => 7
  | .feeder => 14
  | .pad    => 16
  | .line   => 16

/-- The record of `n` bytes that a run of bytes holds. -/
def recordOf (n : Nat) (bytes : List Byte) : Vector Byte n := tabulate n fun i => byteAt bytes i

/-- The bytes of record `i` of a table; none where the table has no such record. -/
def Bank.record (b : Bank) (t : TableId) (i : Nat) : List Byte :=
  match t with
  | .site   => if i = 0 then b.site.toList else []
  | .feeder => if h : i < 8 then b.feeder[i].toList else []
  | .pad    => if h : i < 64 then b.pad[i].toList else []
  | .line   => if h : i < 16 then b.line[i].toList else []

/-- Record `i` of a table replaced by the bytes of a whole record. -/
def Bank.store (b : Bank) (t : TableId) (i : Nat) (bytes : List Byte) : Bank :=
  match t with
  | .site   => if i = 0 then { b with site := recordOf 32 bytes } else b
  | .feeder => if h : i < 8 then { b with feeder := b.feeder.set i (recordOf 16 bytes) } else b
  | .pad    => if h : i < 64 then { b with pad := b.pad.set i (recordOf 12 bytes) } else b
  | .line   => if h : i < 16 then { b with line := b.line.set i (recordOf 4 bytes) } else b

/-- The 992 bytes of a bank in the order the commit check covers them (R12, R199). -/
def Bank.bytes (b : Bank) : List Byte :=
  b.site.toList ++ b.feeder.toList.flatMap Vector.toList ++ b.pad.toList.flatMap Vector.toList
    ++ b.line.toList.flatMap Vector.toList

/-! ## The load window (R8 to R10) -/

/-- The cursor advances by one record, from the last record of the window to the first (R8). -/
def Window.advance (w : Window) : Window :=
  { w with cursor := if w.cursor = w.last then w.first else w.cursor + 1 }

/-- A body cut into `k` records of a size. -/
def cutRecords (size : Nat) : Nat → List Byte → List (List Byte)
  | 0, _ => []
  | k + 1, l => l.take size :: cutRecords size k (l.drop size)

/-- Records stored at the cursor one after another, the cursor advancing with each (R9). -/
def storeAll : List (List Byte) → Bank × Window → Bank × Window
  | [], x => x
  | r :: rs, (b, w) => storeAll rs (b.store w.table w.cursor r, w.advance)

/-- `k` records read from the cursor onward, the cursor advancing with each (R10). -/
def readAll (b : Bank) : Nat → Window → List Byte × Window
  | 0, w => ([], w)
  | k + 1, w =>
    let x := readAll b k w.advance
    (b.record w.table w.cursor ++ x.1, x.2)

/-- OPEN_WINDOW (R8). -/
def openWindow (body : List Byte) (s : State) : Answer :=
  if body.length ≠ 4 then refuse .badLength s
  else
    let first := (byteAt body 1).toNat
    let last := (byteAt body 2).toNat
    let bank : Option ReadBank :=
      match (byteAt body 3).toNat with
      | 0 => some .shadow
      | 1 => some .active
      | _ => none
    match tableOf (byteAt body 0), bank with
    | some t, some b =>
      if first ≤ last ∧ last < t.records then
        accept (s.withTables
          { s.tables with
            window := some { table := t, first := first, last := last, cursor := first, bank := b } }) []
      else refuse .range s
    | _, _ => refuse .range s

/-- WRITE_RECORDS (R9). -/
def writeRecords (body : List Byte) (s : State) : Answer :=
  match s.tables.window with
  | none => refuse .noWindow s
  | some w =>
    if s.tables.commit = .pending then refuse .busy s
    else if body = [] ∨ body.length % w.table.size ≠ 0
        ∨ Config.writeLimit < body.length / w.table.size then refuse .badLength s
    else
      let k := body.length / w.table.size
      let x := storeAll (cutRecords w.table.size k body) (s.tables.shadow, w)
      accept (s.withTables { s.tables with shadow := x.1, window := some x.2 })
        [byte1 k, byte1 x.2.cursor]

/-- READ_RECORDS (R10). -/
def readRecords (body : List Byte) (s : State) : Answer :=
  match s.tables.window with
  | none => refuse .noWindow s
  | some w =>
    let k := (byteAt body 0).toNat
    if body.length ≠ 1 then refuse .badLength s
    else if k = 0 ∨ w.table.readLimit < k then refuse .range s
    else
      let bank := match w.bank with
        | .shadow => s.tables.shadow
        | .active => s.tables.active
      let x := readAll bank k w
      accept (s.withTables { s.tables with window := some x.2 })
        (byte1 w.cursor :: byte1 k :: x.1)

/-! ## Commit (R11 to R16) -/

/-- COMMIT (R11): the check begins; its response is formed at the end of the check. -/
def commit (tag : Byte) (body : List Byte) (s : State) : Answer :=
  if body.length ≠ 2 then refuse .badLength s
  else if s.tables.commit = .pending then refuse .busy s
  else
    { state := s.withTables
        { s.tables with commit := .checking (byteAt body 0 ++ byteAt body 1) tag }
      response := none }

/-- DISCARD (R16). -/
def discard (body : List Byte) (s : State) : Answer :=
  if body ≠ [] then refuse .badLength s
  else if s.tables.commit = .pending then refuse .busy s
  else accept (s.withTables { s.tables with shadow := s.tables.active }) []

/-- The first reason code whose test fails, in ascending order of the codes (R13). -/
def firstReason (tests : List (Bool × Byte)) : Option Byte :=
  (tests.find? fun x => x.1).map fun x => x.2

/-- A figure outside a range. -/
def outside (lo hi n : Nat) : Bool := decide (n < lo) || decide (hi < n)

/-- The validation of the site record: reasons 1, 4 and 7 (R14). -/
def siteReason (r : Vector Byte 32) : Option Byte :=
  let v := siteView r
  firstReason
    [(outside 0 16000 v.limit || outside 5 600 v.period || outside 1 7 v.holdRounds
        || outside 1 7 v.missLimit || outside 1 5 v.probeAttempts || outside 5 100 v.replyTimeout
        || outside 0 64 v.head || outside 0 64 v.tail || outside 1 100 v.step
        || outside 1 400 v.defMax || outside 1 400 v.defMin || outside 1 600 v.holdTime, 1),
     (decide (64 < v.head + v.tail), 4),
     (decide (v.defMax < v.defMin), 7)]

/-- The thresholds a monitor mode uses are out of order (R14, reason 6). -/
def thresholdsOut (v : FeederRec) : Bool :=
  match v.monitor with
  | .off => false
  | .notify => decide (v.warnRelease ≤ v.warnLevel)
  | .shedOnly => decide (v.shedRelease ≤ v.shedLevel)
  | .notifyAndShed =>
    decide (v.warnRelease ≤ v.warnLevel) || decide (v.shedRelease ≤ v.shedLevel)
      || decide (v.warnLevel ≤ v.shedLevel) || decide (v.warnRelease < v.shedRelease)

/-- The validation of a feeder group record: reasons 1, 5 and 6; a disabled group has its enabled field
examined and nothing else (R13, R14). -/
def feederReason (r : Vector Byte 16) : Option Byte :=
  let v := feederView r
  if r[0] = 0 then none
  else firstReason
    [(decide (r[0] ≠ 1) || outside 0 4000 v.rated || outside 0 4000 v.fallback
        || outside 0 4000 v.shed || outside 1 400 v.ramp || outside 0 50 v.tolerance
        || outside 1 7 v.overdrawLimit || outside 0 1000 v.warnLevel || outside 0 1000 v.warnRelease
        || outside 0 1000 v.shedLevel || outside 0 1000 v.shedRelease, 1),
     (decide (v.rated < v.fallback) || decide (v.rated < v.shed), 5),
     (thresholdsOut v, 6)]

/-- Whether an enabled pad of a lower number has the same line and drop (R14, reason 3). -/
def duplicateDrop (b : Bank) (p : PadId) : Bool :=
  allPads.any fun q =>
    decide (q < p) && (b.padRec q).enabled && (b.padRec q).line == (b.padRec p).line
      && (b.padRec q).drop == (b.padRec p).drop

/-- The validation of a pad record: reasons 1, 2 and 3 (R13, R14). -/
def padReason (b : Bank) (p : PadId) : Option Byte :=
  let r := b.pad[p]
  let v := b.padRec p
  if r[0] = 0 then none
  else firstReason
    [(decide (r[0] ≠ 1) || outside 0 3 r[2].toNat || outside 1 16 v.drop || outside 0 7 r[4].toNat
        || outside 0 3 v.cls || outside 0 400 v.ceiling, 1),
     (!(b.feederRec v.group).enabled, 2),
     (duplicateDrop b p, 3)]

/-- The validation of an input record: reasons 1 and 8 (R13, R14). -/
def inputReason (b : Bank) (i : InputId) : Option Byte :=
  let r := b.line[i.val]'(by omega)
  let v := inputView r
  firstReason
    [(outside 0 3 r[0].toNat || outside 0 4 r[2].toNat
        || (v.function == .shed && outside 0 7 r[1].toNat), 1),
     (v.function == .shed && !(b.feederRec v.group).enabled, 8)]

/-- Whether an output source takes an argument (R7). -/
def OutputSource.takesArgument : OutputSource → Bool
  | .feederWarn | .feederShed | .inputLatch => true
  | _ => false

/-- The validation of an output record: reasons 1 and 9 (R13, R14). -/
def outputReason (b : Bank) (o : OutputId) : Option Byte :=
  let r := b.line[8 + o.val]'(by omega)
  firstReason
    [(outside 0 9 r[0].toNat || outside 0 1 r[2].toNat, 1),
     ((outputView r).source.takesArgument && outside 0 7 r[1].toNat, 9)]

/-- A record that fails validation: its table id, its number, and the reason code (R13, R15). -/
structure Invalid where
  table  : TableId
  record : Nat
  reason : Byte
  deriving DecidableEq, Repr

/-- Validation (R13): the first record that fails, in the order of the CRC, with its first reason. -/
def validate (b : Bank) : Option Invalid :=
  let site := (siteReason b.site).map fun c => (⟨.site, 0, c⟩ : Invalid)
  let feeders := allGroups.map fun g =>
    (feederReason b.feeder[g]).map fun c => (⟨.feeder, g.val, c⟩ : Invalid)
  let pads := allPads.map fun p => (padReason b p).map fun c => (⟨.pad, p.val, c⟩ : Invalid)
  let inputs := allInputs.map fun i => (inputReason b i).map fun c => (⟨.line, i.val, c⟩ : Invalid)
  let outputs := allInputs.map fun o =>
    (outputReason b o).map fun c => (⟨.line, 8 + o.val, c⟩ : Invalid)
  ([site] ++ feeders ++ pads ++ inputs ++ outputs).findSome? id

/-- The commit state becomes `x`. -/
def State.setCommit (s : State) (x : CommitState) : State := s.withTables { s.tables with commit := x }

/-- The end of the commit check (R12, R15, R17). -/
def endCheck (s : State) : State :=
  match s.tables.commit with
  | .checking carried tag =>
    let computed := crc s.tables.shadow.bytes
    if computed ≠ carried then
      respond kindCommit tag .crcMismatch (crcBytes computed) (s.setCommit .idle)
    else
      match validate s.tables.shadow with
      | some bad =>
        respond kindCommit tag .invalidTable [bad.table.code, byte1 bad.record, bad.reason]
          (s.setCommit .idle)
      | none =>
        let s1 := respond kindCommit tag .ok [] (s.setCommit .pending)
        if s1.alloc.sweep.isNone ∧ s1.alloc.fastShed ≠ .running then activate false s1 else s1
  | _ => s

/-! ## The meanings -/

/-- OPEN_WINDOW (R8). -/
def execOpenWindow (tag : Byte) (body : List Byte) (s : State) : Host.Outcome State Fault Refusal :=
  finish (takeRequest 0x10 tag body (openWindow body) s)

/-- WRITE_RECORDS (R9). -/
def execWriteRecords (tag : Byte) (body : List Byte) (s : State) : Host.Outcome State Fault Refusal :=
  finish (takeRequest 0x11 tag body (writeRecords body) s)

/-- READ_RECORDS (R10). -/
def execReadRecords (tag : Byte) (body : List Byte) (s : State) : Host.Outcome State Fault Refusal :=
  finish (takeRequest 0x12 tag body (readRecords body) s)

/-- COMMIT (R11). -/
def execCommit (tag : Byte) (body : List Byte) (s : State) : Host.Outcome State Fault Refusal :=
  finish (takeRequest kindCommit tag body (commit tag body) s)

/-- COMMIT_CHECK_END (R12 to R15); nothing happens while no commit is CHECKING. -/
def execCommitCheckEnd (s : State) : Host.Outcome State Fault Refusal := finish (endCheck s)

/-- DISCARD (R16). -/
def execDiscard (tag : Byte) (body : List Byte) (s : State) : Host.Outcome State Fault Refusal :=
  finish (takeRequest 0x14 tag body (discard body) s)

end Sys2Proof.Machine
end

