-- ==== Sys2Proof/Machine/Reads.lean ====
section
/-! DEFINITION. The four read requests (R161 to R167) and the requests of the Notice Unit: READ_CAPTURE,
ACK_NOTICES and SET_NOTICE_MASK (R183, R187, R188), with the layout of their data (R200, R201). -/

namespace Sys2Proof.Machine

/-! ## Codes of the enumerations, in the order of their defining rules (R201) -/

/-- The commit state, in the order of R11. -/
def CommitState.code : CommitState → Byte
  | .idle         => 0
  | .checking _ _ => 1
  | .pending      => 2

/-- The fast-shed state, in the order of R56. -/
def FastShed.code : FastShed → Byte
  | .none    => 0
  | .pending => 1
  | .running => 2

/-- The headroom state, in the order of R90. -/
def HeadroomState.code : HeadroomState → Byte
  | .none  => 0
  | .fresh => 1
  | .stale => 2

/-- The voltage state, in the order of R90. -/
def VoltageState.code : VoltageState → Byte
  | .normal => 0
  | .warn   => 1
  | .shed   => 2

/-- The read bank, with the codes of OPEN_WINDOW (R201). -/
def ReadBank.code : ReadBank → Byte
  | .shadow => 0
  | .active => 1

/-- The request kind of a transaction, in the order of R167 (log entry 14). -/
def LineRequest.code : LineRequest → Byte
  | .poll  => 0
  | .probe => 1

/-- The slot of a transaction, in the order of R136. -/
def Slot.code : Slot → Byte
  | .final  => 0
  | .urgent => 1
  | .normal => 2

/-- The source of a capture entry (R201). -/
def CaptureSource.code : CaptureSource → Byte
  | .charger     => 0
  | .coordinator => 1

/-! ## READ_STATUS (R162, R163) -/

/-- The load window's bytes (R162). -/
def windowBytes (w : Window) : List Byte :=
  [w.table.code, byte1 w.first, byte1 w.last, byte1 w.cursor, w.bank.code]

/-- The number of pads for which a test holds. -/
def padCount (f : PadId → Bool) : Nat := (allPads.filter f).length

/-- The nine session states in the order of R31. -/
def allStates : List SessionState :=
  [.disabled, .empty, .probing, .waiting, .charging, .complete, .releasing, .silent, .faulted]

/-- The first part of READ_STATUS: modes, tables, allocation and time (R162). -/
def statusFirst (s : State) : List Byte :=
  [s.mode.engine.code, s.mode.resolution.code]
    ++ scopeBytes s.freeCount s.mode.scope
    ++ heldBytes (s.freeCount + 2) s.mode.held
    ++ [flagByte s.mode.stopLatch]
    ++ s.tables.loaded.toList.map flagByte
    ++ [s.tables.commit.code]
    ++ optBytes 5 windowBytes s.tables.window
    ++ [flagByte s.alloc.sweep.isSome, s.alloc.fastShed.code, byte1 s.alloc.rotation]
    ++ bytes4 s.alloc.rounds
    ++ [byte1 s.alloc.kept.length, byte1 (padCount fun p => s.pads[p].decPending),
        byte1 (padCount fun p => s.pads[p].holdsIncrease)]
    ++ bytes2 s.siteGrants ++ bytes2 s.siteReserved
    ++ bytes4 s.time.running
    ++ optBytes 2 bytes2 s.time.timer

/-- The second part of READ_STATUS: sessions, notices, signal lines and the fleet line (R163). -/
def statusSecond (s : State) : List Byte :=
  (allStates.map fun x => byte1 (padCount fun p => s.pads[p].state == x))
    ++ noticeBytes s.notices.pendingSet ++ noticeBytes s.notices.mask
    ++ [flagByte s.fleet.noticeWaiting, byte1 s.notices.captures.length, flagByte s.notices.overflow,
        byte1 s.notices.overflowCount, s.notices.nextSeq]
    ++ s.signals.taken.toList.map flagByte
    ++ s.signals.latch.toList.map flagByte
    ++ s.signals.outputs.toList.map flagByte
    ++ bytes2 s.fleet.corrupt ++ bytes2 s.fleet.dropped
    ++ [byte1 s.fleet.rx.length]

/-- READ_STATUS (R161 to R163). -/
def readStatusRequest (body : List Byte) (s : State) : Answer :=
  if body ≠ [] then refuse .badLength s
  else accept (s.spend 4) (statusFirst s ++ statusSecond s)

/-! ## READ_PAD (R164, R165) -/

/-- The pad record's five bytes; those after the first are 0 for a disabled pad (R164, R201). -/
def padRecordBytes (r : PadRec) : List Byte :=
  if r.enabled then [1, byte1 r.line.val, byte1 r.drop, byte1 r.group.val, byte1 r.cls]
  else [0, 0, 0, 0, 0]

/-- The dispatch record's bytes, with the remaining time T of R64 (R164). -/
def dispatchBytes (now : Ticks) (d : Dispatch) : List Byte :=
  bytes2 d.target ++ bytes2 d.base ++ bytes4 d.deadline ++ [flagByte d.missed]
    ++ bytes4 (BitVec.ofNat 32 (timeLeft d.deadline now))

/-- The place of a pad in a list, the first place 1. -/
def placeIn (p : PadId) (l : List PadId) : Option Nat :=
  (l.findIdx? fun q => q == p).map fun k => k + 1

/-- A place as one byte. -/
def placeBytes (k : Nat) : List Byte := [byte1 k]

/-- The first part of READ_PAD: the session's own state (R164). -/
def padFirst (s : State) (p : PadId) : List Byte :=
  let q := s.pads[p]
  padRecordBytes (s.padRec p)
    ++ [q.state.code, flagByte q.inScope, q.docking, flagByte q.inDocking, byte1 q.attempts]
    ++ optBytes 1 (fun c => [c]) q.fault
    ++ optBytes 13 reportBody q.report
    ++ optBytes 26 capabilityBytes q.caps
    ++ optBytes 13 (dispatchBytes s.time.running) q.dispatch
    ++ limitBytes q.limit

/-- The second part of READ_PAD: the figures the other blocks keep for the pad (R165). -/
def padSecond (s : State) (p : PadId) : List Byte :=
  let q := s.pads[p]
  bytes2 q.need ++ bytes2 q.urgency ++ bytes2 q.grant ++ bytes2 q.sent ++ bytes2 q.prior
    ++ [flagByte q.decPending]
    ++ bytes2 q.reservation ++ [byte1 q.roundsLeft]
    ++ optBytes 1 placeBytes (placeIn p s.alloc.kept)
    ++ bytes2 q.delivered ++ bytes2 q.remaining
    ++ [byte1 q.overdraw, byte1 q.failures]
    ++ optBytes 1 placeBytes (placeIn p s.lines[(s.padRec p).line].urgent)
    ++ optBytes 2 bytes2 q.sample

/-- READ_PAD (R161, R164, R165). -/
def readPadRequest (body : List Byte) (s : State) : Answer :=
  if body.length ≠ 1 then refuse .badLength s
  else if h : (byteAt body 0).toNat < 64 then
    accept s (padFirst s ⟨(byteAt body 0).toNat, h⟩ ++ padSecond s ⟨(byteAt body 0).toNat, h⟩)
  else refuse .range s

/-! ## READ_FEEDER (R166) -/

/-- The data of READ_FEEDER (R166). -/
def feederBytes (s : State) (g : GroupId) : List Byte :=
  let x := s.groups[g]
  [flagByte (s.feederRec g).enabled, x.hstate.code]
    ++ bytes2 x.headroom ++ bytes2 x.age
    ++ [x.vstate.code, byte1 (s.samples g).length]
    ++ optBytes 2 bytes2 (s.minVoltage g)
    ++ [flagByte x.shedInput, flagByte x.shedActive]
    ++ bytes2 x.capacity ++ bytes2 (s.groupGrants g) ++ bytes2 (s.groupReserved g)
    ++ [byte1 (padCount fun p => s.inGroup g p),
        byte1 (padCount fun p => s.inGroup g p && s.pads[p].state == .charging)]

/-- READ_FEEDER (R161, R166). -/
def readFeederRequest (body : List Byte) (s : State) : Answer :=
  if body.length ≠ 1 then refuse .badLength s
  else if h : (byteAt body 0).toNat < 8 then accept s (feederBytes s ⟨(byteAt body 0).toNat, h⟩)
  else refuse .range s

/-! ## READ_LINE (R167) -/

/-- A set of drops as two bytes, bit d − 1 for drop d (R201). -/
def dropSet (ds : List Nat) : List Byte :=
  bytes2 (ds.foldl (fun x d => x ||| (1 <<< (d - 1))) 0)

/-- A transaction in flight: drop, pad or final-poll mark, request kind, slot (R167, R201). -/
def transactionBytes (tx : Transaction) : List Byte :=
  [byte1 tx.drop]
    ++ (match tx.pad with
        | none => [1, 0]
        | some p => [0, byte1 p.val])
    ++ [tx.request.code, tx.slot.code]

/-- The data of READ_LINE (R167). -/
def lineBytes (s : State) (l : LineId) : List Byte :=
  let c := s.lines[l]
  dropSet (s.members l)
    ++ optBytes 1 placeBytes c.position
    ++ listBytes 16 (c.urgent.map fun p => byte1 p.val)
    ++ listBytes 16 (c.final.map byte1)
    ++ optBytes 5 transactionBytes c.inFlight
    ++ [flagByte c.abandon, flagByte c.breakPending, flagByte c.discovery, flagByte c.finalOffered,
        flagByte c.urgentOffered]
    ++ bytes2 c.good ++ bytes2 c.noisy ++ bytes2 c.corrupt ++ bytes2 c.wrong ++ bytes2 c.noReply

/-- READ_LINE (R161, R167). -/
def readLineRequest (body : List Byte) (s : State) : Answer :=
  if body.length ≠ 1 then refuse .badLength s
  else if h : (byteAt body 0).toNat < 4 then accept s (lineBytes s ⟨(byteAt body 0).toNat, h⟩)
  else refuse .range s

/-! ## The Notice Unit's requests (R183, R187, R188) -/

/-- A capture entry's ten bytes (R201). -/
def captureBytes (e : CaptureEntry) : List Byte :=
  [e.seq, byte1 e.pad.val, e.source.code, e.code] ++ bytes2 e.power ++ bytes4 e.time

/-- READ_CAPTURE (R183). -/
def readCaptureRequest (body : List Byte) (s : State) : Answer :=
  if body ≠ [] then refuse .badLength s
  else
    let u := s.notices
    let s1 := s.withNotices
      { u with captures := u.captures.drop 1, overflow := false, overflowCount := 0 }
    let figures := [flagByte u.overflow, byte1 u.overflowCount]
    match u.captures with
    | [] => accept s1 ([0, 0] ++ figures ++ List.replicate 10 0)
    | e :: rest => accept s1 ([1, byte1 rest.length] ++ figures ++ captureBytes e)

/-- The notice set a body of two bytes carries; none when it names anything other than the eleven kinds
(R200). -/
def noticeSetOf (body : List Byte) : Option (BitVec 11) :=
  if wordAt body 0 < 2 ^ 11 then some (BitVec.ofNat 11 (wordAt body 0)) else none

/-- ACK_NOTICES (R187): a waiting NOTICE that no kind is left for is withdrawn. -/
def ackNoticesRequest (body : List Byte) (s : State) : Answer :=
  if body.length ≠ 2 then refuse .badLength s
  else match noticeSetOf body with
    | none => refuse .range s
    | some set =>
      let left := s.notices.pendingSet &&& ~~~set
      accept (withdrawNotice (s.withNotices { s.notices with pendingSet := left }))
        (noticeBytes left ++ noticeBytes s.notices.mask)

/-- SET_NOTICE_MASK (R188): a kind newly unmasked that is pending calls for a NOTICE frame, and a waiting
one that no kind is left for is withdrawn. -/
def setNoticeMaskRequest (body : List Byte) (s : State) : Answer :=
  if body.length ≠ 2 then refuse .badLength s
  else match noticeSetOf body with
    | none => refuse .range s
    | some set =>
      let s1 := s.withNotices { s.notices with mask := set }
      let s2 :=
        if s.notices.mask &&& ~~~set &&& s.notices.pendingSet = 0 then s1 else callNotice s1
      accept (withdrawNotice s2) (noticeBytes set ++ noticeBytes s.notices.pendingSet)

/-! ## The meanings -/

/-- READ_CAPTURE (R183). -/
def execReadCapture (tag : Byte) (body : List Byte) (s : State) : Host.Outcome State Fault Refusal :=
  finish (takeRequest 0x20 tag body (readCaptureRequest body) s)

/-- ACK_NOTICES (R187). -/
def execAckNotices (tag : Byte) (body : List Byte) (s : State) : Host.Outcome State Fault Refusal :=
  finish (takeRequest 0x21 tag body (ackNoticesRequest body) s)

/-- SET_NOTICE_MASK (R188). -/
def execSetNoticeMask (tag : Byte) (body : List Byte) (s : State) : Host.Outcome State Fault Refusal :=
  finish (takeRequest 0x22 tag body (setNoticeMaskRequest body) s)

/-- READ_STATUS (R162). -/
def execReadStatus (tag : Byte) (body : List Byte) (s : State) : Host.Outcome State Fault Refusal :=
  finish (takeRequest 0x28 tag body (readStatusRequest body) s)

/-- READ_PAD (R164). -/
def execReadPad (tag : Byte) (body : List Byte) (s : State) : Host.Outcome State Fault Refusal :=
  finish (takeRequest 0x29 tag body (readPadRequest body) s)

/-- READ_FEEDER (R166). -/
def execReadFeeder (tag : Byte) (body : List Byte) (s : State) : Host.Outcome State Fault Refusal :=
  finish (takeRequest 0x2A tag body (readFeederRequest body) s)

/-- READ_LINE (R167). -/
def execReadLine (tag : Byte) (body : List Byte) (s : State) : Host.Outcome State Fault Refusal :=
  finish (takeRequest 0x2B tag body (readLineRequest body) s)

end Sys2Proof.Machine
end

