-- ==== Sys2Proof/Machine/SignalLine.lean ====
section
/-! DEFINITION. The Signal Line Unit (chapter 10): a change of an input's electrical level, a taken
edge, and CLEAR_INPUT. -/

namespace Sys2Proof.Machine

/-- The level of an input pin changes (R191); its stability count runs while it differs from the taken
level. -/
def inputLineChange (i : InputId) (high : Bool) (s : State) : State :=
  s.withSignals { s.signals with level := s.signals.level.set i high }

/-- An input's activity has changed: its owner re-forms the shed-input state or the stop latch (R192,
step 2; R193). -/
def reformOwner (i : InputId) (s : State) : State :=
  match (s.inputRec i).function with
  | .shed => reformShed (s.inputRec i).group s
  | .stop => reformStop s
  | .none | .notify => s

/-- A STOP input that becomes active halts the engine unless it is HALTED (R170, R178). -/
def stopHalts (i : InputId) (s : State) : State :=
  if (s.inputRec i).function = .stop ∧ s.mode.engine ≠ .halted then enterHalted s else s

/-- An input becomes active (R192 steps 2 and 3, R193). -/
def becomeActive (i : InputId) (s : State) : State :=
  raise .inputEvent (stopHalts i (reformOwner i s))

/-- An edge is taken (R191 to R193): the taken level changes; a matching edge sets a clear latch, and a
level sense is entered or left. Nothing happens while the pin stands at its taken level. -/
def takeEdge (i : InputId) (s : State) : State :=
  let lvl := s.signals.level[i]
  if lvl = s.signals.taken[i] then s
  else
    let r := s.inputRec i
    let s1 := s.withSignals { s.signals with taken := s.signals.taken.set i lvl }
    if r.function = .none then s1
    else match r.sense.activeLevel with
      | some a => if lvl = a then becomeActive i s1 else reformOwner i s1
      | none =>
        if r.sense.matches lvl ∧ s.signals.latch[i] = false then
          becomeActive i (s1.withSignals { s1.signals with latch := s1.signals.latch.set i true })
        else s1

/-- CLEAR_INPUT (R195). -/
def clearInputRequest (body : List Byte) (s : State) : Answer :=
  if body.length ≠ 1 then refuse .badLength s
  else if h : (byteAt body 0).toNat < 8 then
    let i : InputId := ⟨(byteAt body 0).toNat, h⟩
    let r := s.inputRec i
    let s1 :=
      if s.signals.latch[i] ∧ r.function ≠ .none ∧ r.sense.isEdge then
        reformOwner i (s.withSignals { s.signals with latch := s.signals.latch.set i false })
      else s
    accept s1 [flagByte s1.signals.taken[i], flagByte s1.signals.latch[i], flagByte (s1.active i)]
  else refuse .range s

/-! ## The meanings -/

/-- INPUT_LINE_CHANGE (R191). -/
def execInputLineChange (i : InputId) (high : Bool) (s : State) : Host.Outcome State Fault Refusal :=
  finish (inputLineChange i high s)

/-- INPUT_EDGE_TAKEN (R191). -/
def execInputEdgeTaken (i : InputId) (s : State) : Host.Outcome State Fault Refusal :=
  finish (takeEdge i s)

/-- CLEAR_INPUT (R195). -/
def execClearInput (tag : Byte) (body : List Byte) (s : State) : Host.Outcome State Fault Refusal :=
  finish (takeRequest 0x0C tag body (clearInputRequest body) s)

end Sys2Proof.Machine
end

