-- ==== Sys2Proof/Machine/Sweep.lean ====
section
/-! DEFINITION. The sweep's computation on its snapshot (R60 to R72), its issue and completion (R73 to
R75, R58), and the events of the round: TICK, ROUND_TIMER_EXPIRY, ISSUE_STAGE, FAST_SHED_PASS_END and
HEADROOM_TURNS_STALE. -/

namespace Sys2Proof.Machine

/-- One entry of the grant order list: an eligible pad with what the passes read of it. -/
structure Entry where
  pad     : PadId
  group   : GroupId
  cls     : Nat
  rank    : Nat
  caps    : Capability
  ramped  : Nat
  need    : Nat
  urgency : Nat
  deriving DecidableEq, Repr

/-- The demand ceiling d (R62); none where the snapshot holds no capability record or no report. -/
def demand (r : PadRec) (q : PadSnap) : Option Nat :=
  match q.caps, q.accept with
  | some c, some a =>
    let d := min r.ceiling (min c.vmax a)
    some (match q.limit with
      | some x => min d x
      | none => d)
  | _, _ => none

/-- The ramp cap c (R63). -/
def rampCap (d vmin sent ramp : Nat) : Nat :=
  if 0 < sent then min d (sent + ramp) else min d (max vmin ramp)

/-- The least whole number `q` for which `q * t` is at least `x` (R65). -/
def ceilDiv (x t : Nat) : Nat := (x + t - 1) / t

/-- The need n (R65). -/
def needOf (q : PadSnap) (now : Ticks) (d : Nat) : Nat :=
  match q.deadline with
  | none => 0
  | some dl =>
    if q.remaining = 0 then 0
    else if timeLeft dl now = 0 then d
    else min d (ceilDiv (360 * q.remaining) (timeLeft dl now))

/-- The urgency u (R66). -/
def urgencyOf (n d : Nat) : Nat := 256 * n / d

/-- The rank of pad number `i` (R68). -/
def rankOf (head tail offset i : Nat) : Nat :=
  let m := 64 - head - tail
  if i < head then i
  else if i < head + m then head + (i - head + (m - offset % m)) % m
  else i

/-- A pad's entry, when it is eligible (R61). -/
def entryOf (x : Snapshot) (offset : Nat) (p : PadId) : Option Entry :=
  let q := x.pads[p]
  let r := x.bank.padRec p
  let site := siteView x.bank.site
  match q.caps, demand r q with
  | some c, some d =>
    if q.state.served ∧ q.inScope ∧ (x.bank.feederRec r.group).enabled
        ∧ (q.deadline.isSome ∨ r.opportunity) ∧ c.effMin ≤ d then
      let n := needOf q x.now d
      some
        { pad := p, group := r.group, cls := r.cls
          rank := rankOf site.head site.tail offset p.val
          caps := c, ramped := rampCap d c.vmin q.sent (x.bank.feederRec r.group).ramp
          need := n, urgency := urgencyOf n d }
    else none
  | _, _ => none

/-- The order of the list: class ascending, urgency descending, rank ascending (R67). -/
def Entry.precedes (a b : Entry) : Bool :=
  decide (a.cls < b.cls)
    || (a.cls == b.cls
      && (decide (b.urgency < a.urgency) || (a.urgency == b.urgency && decide (a.rank ≤ b.rank))))

/-- The grant order list (R67). -/
def orderList (x : Snapshot) (offset : Nat) : List Entry :=
  sortBy Entry.precedes (allPads.filterMap (entryOf x offset))

/-- The working capacities: what remains of each group and of the site (R60). -/
structure Pool where
  group : Vector Nat 8
  site  : Nat
  deriving DecidableEq, Repr

/-- The working capacities a sweep starts with (R60). -/
def poolOf (x : Snapshot) : Pool where
  group := tabulate 8 fun g =>
    x.capacity[g] - padSum fun p => if (x.bank.padRec p).group = g then x.pads[p].reservation else 0
  site := (siteView x.bank.site).limit - padSum fun p => x.pads[p].reservation

/-- What may be taken for a pad of a group: the least of the group's and the site's remainder. -/
def Pool.avail (w : Pool) (g : GroupId) : Nat := min w.group[g] w.site

/-- An amount is subtracted from the group's and the site's remainder. -/
def Pool.take (w : Pool) (g : GroupId) (n : Nat) : Pool where
  group := w.group.set g (w.group[g] - n)
  site := w.site - n

/-- The working grant pass 1 gives an entry (R69). -/
def firstGrant (round : Capability → Nat → Nat) (w : Pool) (e : Entry) : Nat :=
  let want := if e.need = 0 then 0 else min (max e.need e.caps.vmin) e.ramped
  let avail := w.avail e.group
  let take := if want ≤ avail then want else if e.caps.vmin ≤ avail then avail else 0
  round e.caps take

/-- Pass 1 (R69). -/
def passOne (round : Capability → Nat → Nat) : Pool → List Entry → List (Entry × Nat) × Pool
  | w, [] => ([], w)
  | w, e :: es =>
    let g := firstGrant round w e
    let x := passOne round (w.take e.group g) es
    ((e, g) :: x.1, x.2)

/-- The working grant pass 2 leaves an entry that stood at `g` (R70, R72). -/
def secondGrant (round : Capability → Nat → Nat) (w : Pool) (e : Entry) (g : Nat) : Nat :=
  let extra := min (e.ramped - g) (w.avail e.group)
  if g = 0 ∧ extra < e.caps.vmin then 0 else max g (round e.caps (g + extra))

/-- Pass 2 (R70): the new grants, in list order. -/
def passTwo (round : Capability → Nat → Nat) : Pool → List (Entry × Nat) → List (PadId × Nat)
  | _, [] => []
  | w, (e, g) :: es =>
    let g' := secondGrant round w e g
    (e.pad, g') :: passTwo round (w.take e.group (g' - g)) es

/-- The new grants of a sweep, in list order (R69 to R72). -/
def sweepGrants (x : Snapshot) (offset : Nat) : List (PadId × Nat) :=
  let round := roundGrant x.resolution (siteView x.bank.site).step
  let one := passOne round (poolOf x) (orderList x offset)
  passTwo round one.2 one.1

/-- A pad's new grant: its result from pass 2 when it is on the list, and 0 otherwise (R73). -/
def newGrant (grants : List (PadId × Nat)) (p : PadId) : Nat := (grants.lookup p).getD 0

/-- What issue does to a pad of the issue set whose new grant is not below its sent setpoint (R74), and
to the state of every pad of the issue set (R75). -/
def Pad.issue (g : Nat) (q : Pad) : Pad :=
  ({ q with grant := g }).setState (if 0 < g then .charging else .waiting)

/-- The need and urgency that issue writes (R66, R75). -/
def Pad.writeNeed (list : List Entry) (p : PadId) (q : Pad) : Pad :=
  match list.find? fun e => e.pad == p with
  | some e => { q with need := e.need, urgency := e.urgency }
  | none => { q with need := 0, urgency := 0 }

/-- The issue stage on the pads (R73 to R75), without the increase release. -/
def issuePads (x : Snapshot) (s : State) : State :=
  let list := orderList x s.alloc.rotation
  let grants := sweepGrants x s.alloc.rotation
  let s1 := decreaseMany (fun p =>
    if s.pads[p].stayed ∧ newGrant grants p < s.pads[p].sent then some (newGrant grants p) else none) s
  s1.mapPads fun p q =>
    (if s.pads[p].stayed then q.issue (newGrant grants p) else q).writeNeed list p

/-- The rotation offset after a completed sweep (R58). -/
def nextRotation (site : SiteRec) (offset : Nat) : Nat :=
  if 64 - site.head - site.tail = 0 then 0 else (offset + 1) % (64 - site.head - site.tail)

/-- A sweep completes (R58). -/
def completeSweep (x : Snapshot) (s : State) : State :=
  s.withAlloc
    { s.alloc with
      kept := (orderList x s.alloc.rotation).map Entry.pad
      rotation := nextRotation (siteView x.bank.site) s.alloc.rotation
      rounds := s.alloc.rounds + 1
      sweep := none }

/-- The issue stage, the completion and the steps at the sweep's end (R73 to R75, R79, R58, R86). -/
def issueStage (s : State) : State :=
  match s.alloc.sweep with
  | none => s
  | some x => sweepEnd (completeSweep x (increaseRelease (issuePads x s)))

/-- A sweep start that waited for a fast-shed pass is taken when no further pass has started (R84). -/
def startWaiting (s : State) : State :=
  if s.alloc.sweepWaiting ∧ s.alloc.fastShed ≠ .running then startSweep s else s

/-- The end of a fast-shed pass that was not abandoned (R84). -/
def passEnd (s : State) : State :=
  if s.alloc.fastShed = .running then
    startWaiting (if s.tables.commit = .pending then activate true s else checkAtPassEnd s)
  else s

/-- The expiry of the round timer (R57): it is restarted, and a sweep starts, or its start waits for a
running fast-shed pass. Nothing happens unless the timer has come to 0 in RUNNING with no sweep in
progress. -/
def timerExpiry (s : State) : State :=
  if s.mode.engine = .running ∧ s.time.timer = some 0 ∧ s.alloc.sweep.isNone then
    let s1 := startTimer s
    if s1.alloc.fastShed = .running then s1.withAlloc { s1.alloc with sweepWaiting := true }
    else startSweep s1
  else s

/-- The age of a group at a tick (R95). -/
def Group.tick (x : Group) : Group :=
  if x.hstate = .none then x else { x with age := satInc 65535 x.age }

/-- A tick of 100 ms (R1, R95). -/
def tick (s : State) : State :=
  (s.mapGroups fun _ x => x.tick).withTime
    { running := s.time.running + 1, timer := s.time.timer.map fun n => n - 1 }

/-- A FRESH group whose age is past 10 times the headroom hold time turns STALE (R95). -/
def turnStale (g : GroupId) (s : State) : State :=
  if s.groups[g].hstate = .fresh ∧ 10 * s.site.holdTime < s.groups[g].age then
    recompute g (raise .headroomStale (s.updGroup g fun x => { x with hstate := .stale }))
  else s

/-! ## The meanings -/

/-- TICK (R1). -/
def execTick (s : State) : Host.Outcome State Fault Refusal := finish (tick s)

/-- ROUND_TIMER_EXPIRY (R57). -/
def execRoundTimerExpiry (s : State) : Host.Outcome State Fault Refusal := finish (timerExpiry s)

/-- HEADROOM_TURNS_STALE (R95). -/
def execHeadroomTurnsStale (g : GroupId) (s : State) : Host.Outcome State Fault Refusal :=
  finish (turnStale g s)

/-- ISSUE_STAGE (R73); nothing happens while no sweep is in progress. -/
def execIssueStage (s : State) : Host.Outcome State Fault Refusal := finish (issueStage s)

/-- FAST_SHED_PASS_END (R84); nothing happens while no pass is RUNNING. -/
def execFastShedPassEnd (s : State) : Host.Outcome State Fault Refusal := finish (passEnd s)

/-- POWER_ON (R180): every block returns to its power-on state, and each input's taken level is the
level on its line (R198). -/
def powerOn (s : State) : State := State.afterPowerOn s.signals.level s.freeCount s.pending

/-- POWER_ON (R180). -/
def execPowerOn (s : State) : Host.Outcome State Fault Refusal := finish (powerOn s)

/-- RESET_INPUT (R180): the same state as power-on. -/
def execResetInput (s : State) : Host.Outcome State Fault Refusal := finish (powerOn s)

end Sys2Proof.Machine
end

