-- ==== Sys2Proof/Machine/Dispatch.lean ====
section
/-! DEFINITION. The dispatch of every command to its meaning. -/

namespace Sys2Proof.Machine

/-- What a command does to everything but the queue of commands. -/
def exec (i : Instr) (s : State) : Host.Outcome State Fault Refusal :=
  match i with
  | .powerOn => Sys2Proof.Machine.execPowerOn s
  | .resetInput => Sys2Proof.Machine.execResetInput s
  | .tick => Sys2Proof.Machine.execTick s
  | .roundTimerExpiry => Sys2Proof.Machine.execRoundTimerExpiry s
  | .headroomTurnsStale group => Sys2Proof.Machine.execHeadroomTurnsStale group s
  | .issueStage => Sys2Proof.Machine.execIssueStage s
  | .fastShedPassEnd => Sys2Proof.Machine.execFastShedPassEnd s
  | .dispatch tag body => Sys2Proof.Machine.execDispatch tag body s
  | .release tag body => Sys2Proof.Machine.execRelease tag body s
  | .padLimit tag body => Sys2Proof.Machine.execPadLimit tag body s
  | .clearPad tag body => Sys2Proof.Machine.execClearPad tag body s
  | .headroom tag body => Sys2Proof.Machine.execHeadroom tag body s
  | .clearInput tag body => Sys2Proof.Machine.execClearInput tag body s
  | .openWindow tag body => Sys2Proof.Machine.execOpenWindow tag body s
  | .writeRecords tag body => Sys2Proof.Machine.execWriteRecords tag body s
  | .readRecords tag body => Sys2Proof.Machine.execReadRecords tag body s
  | .commit tag body => Sys2Proof.Machine.execCommit tag body s
  | .commitCheckEnd => Sys2Proof.Machine.execCommitCheckEnd s
  | .discard tag body => Sys2Proof.Machine.execDiscard tag body s
  | .setModeHalt tag body => Sys2Proof.Machine.execSetModeHalt tag body s
  | .setModeResume tag body => Sys2Proof.Machine.execSetModeResume tag body s
  | .setModeFine tag body => Sys2Proof.Machine.execSetModeFine tag body s
  | .setModeStepped tag body => Sys2Proof.Machine.execSetModeStepped tag body s
  | .setModeFull tag body => Sys2Proof.Machine.execSetModeFull tag body s
  | .setModePartial tag body => Sys2Proof.Machine.execSetModePartial tag body s
  | .restart tag body => Sys2Proof.Machine.execRestart tag body s
  | .readCapture tag body => Sys2Proof.Machine.execReadCapture tag body s
  | .ackNotices tag body => Sys2Proof.Machine.execAckNotices tag body s
  | .setNoticeMask tag body => Sys2Proof.Machine.execSetNoticeMask tag body s
  | .readStatus tag body => Sys2Proof.Machine.execReadStatus tag body s
  | .readPad tag body => Sys2Proof.Machine.execReadPad tag body s
  | .readFeeder tag body => Sys2Proof.Machine.execReadFeeder tag body s
  | .readLine tag body => Sys2Proof.Machine.execReadLine tag body s
  | .badKindRequest kind tag body => Sys2Proof.Machine.execBadKindRequest kind tag body s
  | .fleetFrameReceived before head body check after => Sys2Proof.Machine.execFleetFrameReceived before head body check after s
  | .fleetLengthAbove240 bytes => Sys2Proof.Machine.execFleetLengthAbove240 bytes s
  | .fleetFrameAbort => Sys2Proof.Machine.execFleetFrameAbort s
  | .frameTransmitStart => Sys2Proof.Machine.execFrameTransmitStart s
  | .frameTransmitEnd => Sys2Proof.Machine.execFrameTransmitEnd s
  | .transactionStart line => Sys2Proof.Machine.execTransactionStart line s
  | .replyTimeout line => Sys2Proof.Machine.execReplyTimeout line s
  | .report line reply => Sys2Proof.Machine.execReport line reply s
  | .faultReport line reply => Sys2Proof.Machine.execFaultReport line reply s
  | .caps line reply => Sys2Proof.Machine.execCaps line reply s
  | .replyFailed line reply => Sys2Proof.Machine.execReplyFailed line reply s
  | .lineBreakEnd line => Sys2Proof.Machine.execLineBreakEnd line s
  | .inputLineChange input high => Sys2Proof.Machine.execInputLineChange input high s
  | .inputEdgeTaken input => Sys2Proof.Machine.execInputEdgeTaken input s

end Sys2Proof.Machine
end

