-- ==== Sys2Proof/Safety.lean ====
section
/-! DEFINITION. What a safe run keeps, in the terms the statements use: invariants of the part, each named
after the rule that promises it; and the terms in which the statements speak of a request. -/

namespace Sys2Proof.Machine

/-! ## Requests -/

/-- The port takes this request next (R153): its frame is the oldest of the receive queue, no commit is
CHECKING, no RESTART waits, and fewer than 4 responses are queued or being sent. `rest` is what the queue
then holds. -/
def State.takesNext (s : State) (kind tag : Byte) (body : List Byte) (rest : List RxFrame) : Prop :=
  s.fleet.rx = { kind := kind, tag := tag, body := body } :: rest
    ∧ s.tables.commit.isChecking = false ∧ s.fleet.restartWaiting = false
    ∧ s.fleet.responses < Config.responseLimit

/-- The state with a request's frame taken and one RESPONSE of this body at the tail of the transmit
queue (R153, R155). -/
def State.replied (s : State) (rest : List RxFrame) (tag : Byte) (body : List Byte) : State :=
  s.withFleet
    { s.fleet with
      rx := rest, tx := s.fleet.tx ++ [.response { kind := kindResponse, tag := tag, body := body }] }

/-- The request that a command carries: its kind, its tag and its body; none for an event that is no
request. -/
def requestOf : Instr → Option RxFrame
  | .dispatch t b => some ⟨0x01, t, b⟩
  | .release t b => some ⟨0x02, t, b⟩
  | .padLimit t b => some ⟨0x03, t, b⟩
  | .clearPad t b => some ⟨0x04, t, b⟩
  | .headroom t b => some ⟨0x08, t, b⟩
  | .clearInput t b => some ⟨0x0C, t, b⟩
  | .openWindow t b => some ⟨0x10, t, b⟩
  | .writeRecords t b => some ⟨0x11, t, b⟩
  | .readRecords t b => some ⟨0x12, t, b⟩
  | .commit t b => some ⟨0x13, t, b⟩
  | .discard t b => some ⟨0x14, t, b⟩
  | .setModeHalt t b | .setModeResume t b | .setModeFine t b | .setModeStepped t b
  | .setModeFull t b | .setModePartial t b => some ⟨0x18, t, b⟩
  | .restart t b => some ⟨0x19, t, b⟩
  | .readCapture t b => some ⟨0x20, t, b⟩
  | .ackNotices t b => some ⟨0x21, t, b⟩
  | .setNoticeMask t b => some ⟨0x22, t, b⟩
  | .readStatus t b => some ⟨0x28, t, b⟩
  | .readPad t b => some ⟨0x29, t, b⟩
  | .readFeeder t b => some ⟨0x2A, t, b⟩
  | .readLine t b => some ⟨0x2B, t, b⟩
  | .badKindRequest k t b => if k ∈ requestKinds then none else some ⟨k, t, b⟩
  | .powerOn | .resetInput | .tick | .roundTimerExpiry | .headroomTurnsStale _ | .issueStage
  | .fastShedPassEnd | .commitCheckEnd | .fleetFrameReceived _ _ _ _ _ | .fleetLengthAbove240 _
  | .fleetFrameAbort | .frameTransmitStart | .frameTransmitEnd | .transactionStart _
  | .replyTimeout _ | .report _ _ | .faultReport _ _ | .caps _ _ | .replyFailed _ _ | .lineBreakEnd _
  | .inputLineChange _ _ | .inputEdgeTaken _ => none

/-- The body lengths a request kind allows (R201, R9, R10), with `w` the load window; any length where
the length is not what the kind's rule looks at first, and for a kind that is no request kind. -/
def lengthAllowed (kind : Byte) (w : Option Window) (n : Nat) : Bool :=
  match kind.toNat with
  | 0x01 => n == 5
  | 0x02 | 0x04 | 0x0C | 0x29 | 0x2A | 0x2B => n == 1
  | 0x12 => w.isNone || n == 1
  | 0x03 | 0x10 => n == 4
  | 0x08 | 0x18 => n == 3
  | 0x11 =>
    match w with
    | some w => n % w.table.size == 0 && decide (0 < n) && decide (n / w.table.size ≤ 16)
    | none => true
  | 0x13 | 0x21 | 0x22 => n == 2
  | 0x14 | 0x19 | 0x20 | 0x28 => n == 0
  | _ => true

/-- One urgent list after the decrease path has lowered pad `p` of line `l` to `v` (R76, R139). -/
def urgentAfter (s : State) (p : PadId) (v : Nat) (l : LineId) : List PadId :=
  if v < s.pads[p].sent ∧ (s.padRec p).line = l ∧ p ∉ s.lines[l].urgent then s.lines[l].urgent ++ [p]
  else s.lines[l].urgent

/-! ## The end of a transaction -/

/-- A clearing of this line's discovery mark at the end of `tx` would not end DISCOVERING (R144, R173). -/
def State.marksRemain (s : State) (l : LineId) (tx : Transaction) : Prop :=
  s.mode.engine ≠ .discovering ∨ s.lines[l].discovery = false ∨ tx.slot ≠ .normal
    ∨ tx.inDiscovery = false ∨ (∃ m : Nat, m ∈ s.members l ∧ tx.drop < m)
    ∨ ∃ k : LineId, k ≠ l ∧ s.lines[k].discovery = true

/-- The event `c` ends a transaction in flight on line `l`: its reply timeout has run out and nothing is
received, or its reply has ended with the characters `rx`, an address character among them (R130, R131). -/
def endsTransaction (c : Instr) (l : LineId) (rx : List RxChar) : Prop :=
  (c = .replyTimeout l ∧ rx = [])
    ∨ (replyChars rx ≠ []
      ∧ (c = .report l rx ∨ c = .faultReport l rx ∨ c = .caps l rx ∨ c = .replyFailed l rx))

/-- The reply whose characters are `cs`, preceded by the characters `before`, none of them an address
character, is CORRUPT (R130 to R132, R199, R202): a character precedes it, one of it has a framing error, it
was ended at 300 characters, its check fails, or its number of characters is not that of a frame of its kind,
with which a further address character leaves it in disagreement (R131, log entry 12). -/
def CorruptReply (before cs : List RxChar) : Prop :=
  let d := cs.map RxChar.data
  let kind := (d.getD 1 0).toNat
  before ≠ [] ∨ (∃ c : RxChar, c ∈ cs ∧ c.framing = true) ∨ 300 ≤ d.length
    ∨ (∃ c : RxChar, c ∈ cs.drop 1 ∧ c.ninth = true)
    ∨ d.drop (d.length - 2) ≠ crcBytes (crc (d.take (d.length - 2)))
    ∨ ¬ ((kind = 0x01 ∧ d.length = 9) ∨ (kind = 0x02 ∧ d.length = 4) ∨ (kind = 0x11 ∧ d.length = 17)
        ∨ (kind = 0x12 ∧ d.length = 8) ∨ (kind = 0x13 ∧ d.length = 16 + 2 * (d.getD 13 0).toNat))

/-- One of a line's five counters after a transaction of it has ended: 1 more, up to 65535, where the
transaction was not abandoned and had the outcome that the counter counts (R134, R143). -/
def counted (counts : Bool) (n : Nat) : Nat := if counts then min 65535 (n + 1) else n

/-- Line `l` at the end of its transaction `tx`, whose reply's characters are in `rx`, its urgent list as it
was: nothing is in flight and the abandon mark is clear; the outcome is counted, unless the transaction was
abandoned (R134, R143); the line is busy where the reply ended at 300 characters (R131), and a break that waits
starts unless it is (R142); the discovery mark goes where a normal poll that counts for it addressed the highest
member (R144); position, lists, offered marks and the last request stay. -/
def State.ended (s : State) (l : LineId) (tx : Transaction) (rx : List RxChar) : LineCtl :=
  let c := s.lines[l]
  let counts : LineOutcome → Bool := fun o => !c.abandon && classify tx rx == o
  let busy := decide (300 ≤ (replyChars rx).length)
  { c with
    inFlight := none, abandon := false, busy := busy
    good := counted (counts .good) c.good, noisy := counted (counts .noisy) c.noisy
    corrupt := counted (counts .corrupt) c.corrupt, wrong := counted (counts .wrongReply) c.wrong
    noReply := counted (counts .noReply) c.noReply
    breaking := c.breaking || (c.breakPending && !busy)
    breakPending := c.breakPending && (c.breaking || busy)
    discovery :=
      c.discovery && !(decide (tx.slot = .normal) && tx.inDiscovery
        && decide (∀ m : Nat, m ∈ s.members l → m ≤ tx.drop)) }

/-- Between `s` and `t` the transaction `tx` of line `l` has ended: the line is as `State.ended` has it, but
that pads may have joined its urgent list at the tail, the pad of `tx` or pads with a decrease pending (R76,
R139). -/
def LineEnded (s t : State) (l : LineId) (tx : Transaction) (rx : List RxChar) : Prop :=
  t.lines[l] = { s.ended l tx rx with urgent := t.lines[l].urgent }
    ∧ s.lines[l].urgent <+: t.lines[l].urgent
    ∧ ∀ q : PadId, q ∈ t.lines[l].urgent →
        q ∈ s.lines[l].urgent ∨ tx.pad = some q ∨ t.pads[q].decPending = true

/-- The result of `tx` reaches no pad: the transaction is abandoned (R143) or was sent for none (R141), or its
pad has left the address or is DISABLED (R20, R134). -/
def State.discards (s : State) (l : LineId) (tx : Transaction) : Prop :=
  s.lines[l].abandon = true ∨ tx.pad = none
    ∨ ∃ p : PadId, tx.pad = some p
      ∧ ((s.padRec p).enabled = false ∨ (s.padRec p).line ≠ l ∨ (s.padRec p).drop ≠ tx.drop
        ∨ s.pads[p].state = .disabled)

/-- A transaction in flight on line `l` for pad `p`, not abandoned, whose pad still holds the address, and
whose end leaves the engine mode alone (R134, R143). -/
def State.awaits (s : State) (l : LineId) (tx : Transaction) (p : PadId) : Prop :=
  s.lines[l].inFlight = some tx ∧ s.lines[l].abandon = false ∧ tx.pad = some p
    ∧ s.onLine l p = true ∧ (s.padRec p).drop = tx.drop ∧ s.pads[p].state ≠ .disabled
    ∧ s.marksRemain l tx

/-- A GOOD or NOISY reply of a kind reaches pad `p` (R132, R134, R135). -/
def State.replyReaches (s : State) (l : LineId) (tx : Transaction) (rx : List RxChar) (p : PadId)
    (kind : Byte) : Prop :=
  s.awaits l tx p ∧ (classify tx rx).isGood = true ∧ replyKind rx = kind

/-- What a transaction's end for pad `p` on line `l` leaves alone wherever it may reach: the tables, the
time, the modes, the sweep and its figures, the inputs, the receive queue, every other pad but for the
figures of a decrease, an increase release or a fast-shed pass, every other line but for its urgent list,
and every group but for its voltage state and effective capacity. -/
def SameElsewhere (s t : State) (l : LineId) (p : Option PadId) : Prop :=
  t.tables = s.tables ∧ t.time = s.time ∧ t.mode = s.mode
    ∧ t.alloc = { s.alloc with fastShed := t.alloc.fastShed }
    ∧ t.signals.level = s.signals.level ∧ t.signals.taken = s.signals.taken
    ∧ t.signals.latch = s.signals.latch ∧ t.notices.mask = s.notices.mask
    ∧ t.fleet = { s.fleet with tx := t.fleet.tx } ∧ t.pending = s.pending
    ∧ (∀ q : PadId, some q ≠ p →
        t.pads[q] =
          { s.pads[q] with
            state := t.pads[q].state, grant := t.pads[q].grant, sent := t.pads[q].sent
            prior := t.pads[q].prior, decPending := t.pads[q].decPending }
        ∧ (t.pads[q].state = s.pads[q].state
          ∨ (s.pads[q].state.served = true ∧ t.pads[q].state = .waiting ∧ t.pads[q].grant = 0)))
    ∧ (∀ k : LineId, k ≠ l → t.lines[k] = { s.lines[k] with urgent := t.lines[k].urgent })
    ∧ ∀ g : GroupId, t.groups[g] =
        { s.groups[g] with vstate := t.groups[g].vstate, capacity := t.groups[g].capacity }

/-- Group `g` after an evaluation of the voltage monitor between `s` and `t` (R92, R98, R100, R102 to R104,
R107): its minimum is the least sample that `t` holds of an enabled pad of the group; its voltage state moves
by it; shed active follows; its effective capacity is formed anew when it enters or leaves SHED; and the kinds
that the move raises are pending. -/
def GroupEvaluated (s t : State) (g : GroupId) : Prop :=
  ∃ m : Nat, (∃ q : PadId, s.inGroup g q = true ∧ t.pads[q].sample = some m)
    ∧ (∀ (q : PadId) (v : Nat), s.inGroup g q = true → t.pads[q].sample = some v → m ≤ v)
    ∧ t.groups[g].vstate = (voltageMove (s.feederRec g) s.groups[g].vstate m).1
    ∧ (t.groups[g].shedActive = true ↔ t.groups[g].vstate = .shed ∨ s.groups[g].shedInput = true)
    ∧ ((s.groups[g].vstate = .shed ↔ t.groups[g].vstate = .shed) →
        t.groups[g].capacity = s.groups[g].capacity)
    ∧ (¬ (s.groups[g].vstate = .shed ↔ t.groups[g].vstate = .shed) →
        t.groups[g].capacity = capacityOf (s.feederRec g) t.groups[g])
    ∧ ∀ k : Notice, k ∈ (voltageMove (s.feederRec g) s.groups[g].vstate m).2 →
        noticeIn k t.notices.pendingSet = true

/-! ## Activation -/

/-- Pad `p` is newly disabled or moved when the shadow bank takes the active bank's place (R19). -/
def State.leavesAddress (s : State) (p : PadId) : Bool :=
  (s.padRec p).enabled
    && (!(s.tables.shadow.padRec p).enabled || (s.padRec p).line != (s.tables.shadow.padRec p).line
      || (s.padRec p).drop != (s.tables.shadow.padRec p).drop)

/-- Pad `p` is kept: enabled at the same line and drop in both banks (R19). -/
def State.staysAtAddress (s : State) (p : PadId) : Bool :=
  (s.padRec p).enabled && (s.tables.shadow.padRec p).enabled && !s.leavesAddress p

/-- Record `i` of a table is the same, byte for byte, in both banks (R18). -/
def State.recordStays (s : State) (x : TableId) (i : Nat) : Bool :=
  s.tables.shadow.record x i == s.tables.active.record x i

/-- A sample leaves the set of group `g` at an activation: its pad leaves its address or the group (R19, R99). -/
def State.sampleLeaves (s : State) (g : GroupId) : Prop :=
  ∃ p : PadId, s.inGroup g p = true ∧ s.pads[p].sample ≠ none
    ∧ ¬ (s.staysAtAddress p = true ∧ (s.tables.shadow.padRec p).group = g)

/-! ## Validation -/

/-- Record `i` of a table fails validation for the reason of this code (R3 to R7, R13, R14). -/
def recordFails (b : Bank) (t : TableId) (i code : Nat) : Prop :=
  match t with
  | .site =>
    let v := siteView b.site
    i = 0 ∧
      ((code = 1 ∧ ¬ (v.limit ≤ 16000 ∧ 5 ≤ v.period ∧ v.period ≤ 600 ∧ 1 ≤ v.holdRounds ∧ v.holdRounds ≤ 7
          ∧ 1 ≤ v.missLimit ∧ v.missLimit ≤ 7 ∧ 1 ≤ v.probeAttempts ∧ v.probeAttempts ≤ 5
          ∧ 5 ≤ v.replyTimeout ∧ v.replyTimeout ≤ 100 ∧ v.head ≤ 64 ∧ v.tail ≤ 64 ∧ 1 ≤ v.step
          ∧ v.step ≤ 100 ∧ 1 ≤ v.defMax ∧ v.defMax ≤ 400 ∧ 1 ≤ v.defMin ∧ v.defMin ≤ 400
          ∧ 1 ≤ v.holdTime ∧ v.holdTime ≤ 600))
        ∨ (code = 4 ∧ 64 < v.head + v.tail)
        ∨ (code = 7 ∧ v.defMax < v.defMin))
  | .feeder =>
    ∃ g : GroupId, g.val = i ∧
      let v := b.feederRec g
      b.feeder[g][0] ≠ 0 ∧
        ((code = 1 ∧ ¬ (b.feeder[g][0] = 1 ∧ v.rated ≤ 4000 ∧ v.fallback ≤ 4000 ∧ v.shed ≤ 4000
            ∧ 1 ≤ v.ramp ∧ v.ramp ≤ 400 ∧ v.tolerance ≤ 50 ∧ 1 ≤ v.overdrawLimit ∧ v.overdrawLimit ≤ 7
            ∧ v.warnLevel ≤ 1000 ∧ v.warnRelease ≤ 1000 ∧ v.shedLevel ≤ 1000 ∧ v.shedRelease ≤ 1000))
          ∨ (code = 5 ∧ (v.rated < v.fallback ∨ v.rated < v.shed))
          ∨ (code = 6 ∧
              ((v.monitor = .notify ∧ ¬ v.warnLevel < v.warnRelease)
                ∨ (v.monitor = .shedOnly ∧ ¬ v.shedLevel < v.shedRelease)
                ∨ (v.monitor = .notifyAndShed
                  ∧ ¬ (v.warnLevel < v.warnRelease ∧ v.shedLevel < v.shedRelease
                    ∧ v.shedLevel < v.warnLevel ∧ v.shedRelease ≤ v.warnRelease)))))
  | .pad =>
    ∃ p : PadId, p.val = i ∧
      let r := b.pad[p]
      r[0] ≠ 0 ∧
        ((code = 1 ∧ ¬ (r[0] = 1 ∧ r[2].toNat ≤ 3 ∧ 1 ≤ r[3].toNat ∧ r[3].toNat ≤ 16 ∧ r[4].toNat ≤ 7
            ∧ r[5].toNat ≤ 3 ∧ be16 r[6] r[7] ≤ 400))
          ∨ (code = 2 ∧ (b.feederRec (b.padRec p).group).enabled = false)
          ∨ (code = 3 ∧ ∃ q : PadId, q < p ∧ (b.padRec q).enabled = true
              ∧ (b.padRec q).line = (b.padRec p).line ∧ (b.padRec q).drop = (b.padRec p).drop))
  | .line =>
    (∃ k : InputId, k.val = i ∧
      let r := b.line[k.val]'(by omega)
      (code = 1 ∧ ¬ (r[0].toNat ≤ 3 ∧ r[2].toNat ≤ 4 ∧ (r[0] = 1 → r[1].toNat ≤ 7)))
        ∨ (code = 8 ∧ r[0] = 1 ∧ (b.feederRec (b.inputRec k).group).enabled = false))
    ∨ ∃ o : OutputId, 8 + o.val = i ∧
      let r := b.line[8 + o.val]'(by omega)
      (code = 1 ∧ ¬ (r[0].toNat ≤ 9 ∧ r[2].toNat ≤ 1))
        ∨ (code = 9 ∧ (r[0] = 3 ∨ r[0] = 4 ∨ r[0] = 9) ∧ 7 < r[1].toNat)

/-! ## Signal lines -/

/-- Every output line drives the value its source holds (R197). -/
def OutputsFollow (s : State) : Prop := ∀ o : OutputId, s.signals.outputs[o] = s.driven o

/-- The shed-input states and the stop latch are those the inputs give (R106, R168). -/
def InputsFollowed (s : State) : Prop :=
  (∀ g : GroupId, s.groups[g].shedInput = s.shedInputNow g) ∧ s.mode.stopLatch = s.stopLatchNow

/-! ## Figures of a pad -/

/-- A sent setpoint is never greater than its grant, and a prior setpoint is 0 while decrease-pending is
clear (R56). -/
def FiguresOrdered (s : State) : Prop :=
  ∀ p : PadId, s.pads[p].sent ≤ s.pads[p].grant
    ∧ (s.pads[p].decPending = false → s.pads[p].prior = 0)

/-- A session is DISABLED exactly while its active record is not enabled (R5, R31). -/
def DisabledMatches (s : State) : Prop :=
  ∀ p : PadId, s.pads[p].state = .disabled ↔ (s.padRec p).enabled = false

/-- A grant is above 0 only while the session is CHARGING, and a CHARGING session has a grant above 0
(R75). -/
def GrantsMatch (s : State) : Prop := ∀ p : PadId, 0 < s.pads[p].grant ↔ s.pads[p].state = .charging

/-- A pad counted as having stayed in WAITING and CHARGING is in one of them (R73). -/
def StaysServed (s : State) : Prop :=
  ∀ p : PadId, s.pads[p].stayed = true → s.pads[p].state.served = true

/-- The fault code is present exactly while the state is FAULTED (R25). -/
def FaultMatches (s : State) : Prop :=
  ∀ p : PadId, s.pads[p].fault.isSome = true ↔ s.pads[p].state = .faulted

/-- While no dispatch record is held, delivered and remaining energy are 0 (R112). -/
def EnergyMatches (s : State) : Prop :=
  ∀ p : PadId, s.pads[p].dispatch = none → s.pads[p].delivered = 0 ∧ s.pads[p].remaining = 0

/-- The six invariants of the sessions together. -/
def SessionsSound (s : State) : Prop :=
  FiguresOrdered s ∧ DisabledMatches s ∧ GrantsMatch s ∧ StaysServed s ∧ FaultMatches s ∧ EnergyMatches s

/-! ## The engine -/

/-- Outside RUNNING no sweep, no pass and no timer runs, and no pad holds power (R88, R169). -/
def IdleUnlessRunning (s : State) : Prop :=
  s.mode.engine ≠ .running →
    s.alloc.sweep = none ∧ s.alloc.fastShed = .none ∧ s.alloc.sweepWaiting = false
      ∧ s.time.timer = none
      ∧ ∀ p : PadId, s.pads[p].grant = 0 ∧ s.pads[p].sent = 0 ∧ s.pads[p].prior = 0
          ∧ s.pads[p].decPending = false ∧ s.pads[p].reservation = 0

/-- No pass runs while a sweep is in progress, a sweep's snapshot holds the active bank, and a scope
change is held only while a sweep is in progress (R17, R81, R168). -/
def SweepAlone (s : State) : Prop :=
  (∀ x : Snapshot, s.alloc.sweep = some x → s.alloc.fastShed ≠ .running ∧ x.bank = s.tables.active)
    ∧ (s.alloc.sweep = none → s.mode.held = none)

/-- The kept list holds no pad twice, and the rotation offset is below M, or 0 when M is 0 (R67, R68). -/
def KeptListSound (s : State) : Prop :=
  s.alloc.kept.Nodup
    ∧ (s.alloc.rotation < 64 - s.site.head - s.site.tail
      ∨ (64 - s.site.head - s.site.tail = 0 ∧ s.alloc.rotation = 0))

/-- The kept list holds every pad with a grant, so that a pass reaches each, and such a pad has stayed in
WAITING and CHARGING through the sweep in progress (R58, R73, R82). -/
def KeptListCovers (s : State) : Prop :=
  ∀ p : PadId, 0 < s.pads[p].grant →
    p ∈ s.alloc.kept ∧ (s.alloc.sweep.isSome = true → s.pads[p].stayed = true)

/-! ## Capacity -/

/-- Each group's effective capacity is the figure of R91 (R92). -/
def CapacityFresh (s : State) : Prop :=
  ∀ g : GroupId, s.groups[g].capacity = capacityOf (s.feederRec g) s.groups[g]

/-- Whenever no pass is pending or running, each enabled group's total is within its effective capacity,
and the site's within the site limit, unless every grant concerned is 0 (R82, R83). -/
def WithinLimits (s : State) : Prop :=
  s.alloc.fastShed = .none →
    (∀ g : GroupId, (s.feederRec g).enabled = true →
      s.groupTotal g ≤ s.groupLimit g
        ∨ ∀ p : PadId, s.inGroup g p = true → s.pads[p].grant = 0)
    ∧ (s.siteTotal ≤ s.siteLimit ∨ ∀ p : PadId, s.pads[p].grant = 0)

/-! ## Queues -/

/-- The receive queue, the responses, the waiting NOTICE and the capture queue keep to their sizes; while
a commit is CHECKING a place is left for its response (R152, R153, R157, R181). -/
def QueuesBounded (s : State) : Prop :=
  s.fleet.rx.length ≤ Config.rxDepth
    ∧ s.fleet.responses ≤ Config.responseLimit
    ∧ (s.tables.commit.isChecking = true → s.fleet.responses < Config.responseLimit)
    ∧ (s.fleet.tx.filter TxItem.isNotice).length ≤ 1
    ∧ s.notices.captures.length ≤ Config.captureDepth

/-- No pad stands twice on an urgent list, and no drop twice on a final poll list (R139, R141). -/
def ListsDistinct (s : State) : Prop :=
  ∀ l : LineId, s.lines[l].urgent.Nodup ∧ s.lines[l].final.Nodup

/-- A break is never sent while a transaction is in flight or the line is held busy, no transaction is in
flight on a busy line, and no break is left waiting on an idle line (R131, R142, R143). -/
def BreaksOrdered (s : State) : Prop :=
  ∀ l : LineId, (s.lines[l].breaking = true → s.lines[l].inFlight = none ∧ s.lines[l].busy = false)
    ∧ (s.lines[l].busy = true → s.lines[l].inFlight = none)
    ∧ (s.lines[l].breakPending = true →
        s.lines[l].inFlight.isSome = true ∨ s.lines[l].breaking = true ∨ s.lines[l].busy = true)

/-- A NOTICE frame waits only while a pending kind is unmasked (R158, R187, R188), and a frame being
received has not reached its end, nor a length above 240 (R149, R150). -/
def PortSound (s : State) : Prop :=
  (s.fleet.noticeWaiting = true → s.notices.pendingSet &&& ~~~s.notices.mask ≠ 0)
    ∧ ∀ got : List RxByte, s.fleet.receiver = .frame got →
        got = [] ∨ ∃ b bs, got = b :: bs ∧ b.data.toNat ≤ 240 ∧ got.length < b.data.toNat + 5

end Sys2Proof.Machine
end

