-- ==== Sys2Proof/Certificates/Slice0/Obligations.lean ====
section
/-! DEFINITION. The statements about the part, in the order of OBLIGATIONS.json. Unless a docstring says
otherwise an equation `exec c s = .next t` gives the whole next state: what `t` does not change is
unchanged, the outputs apart, which follow their sources (R197). -/

section
open Sys2Proof Sys2Proof.Machine

/-! ## The queue of commands and the events as a whole -/

/-- A step is exec of the command at the front of the queue on the state with the queue's rest. With an
empty queue the part idles: the model's choice (log entry 2). -/
def Obligations.StepRunsTheFrontCommand : Prop :=
  (∀ (c : Instr) (rest : List Instr) (s : State), s.pending = c :: rest →
    step s = exec c { s with pending := rest })
  ∧ ∀ s : State, s.pending = [] → step s = .next s

/-- Every command answers a next state, leaves the queue of commands alone, and ends with every output
driving its source, inverted when its record says so (R197). The source is the one that the record names by
its code (R203), high as the table of R7 says. -/
def Obligations.EveryEventEndsWithOutputsDriven : Prop :=
  (∀ (c : Instr) (s : State), ∃ t : State,
     exec c s = .next t ∧ t.pending = s.pending ∧ OutputsFollow t
     ∧ ∀ o : OutputId, t.signals.outputs[o] = ((t.source (t.outputRec o)) ^^ (t.outputRec o).invert))
  ∧ (∀ (s : State) (r : OutputRec),
      s.source r = true ↔
        match r.source with
        | .off => False
        | .roundActive => s.alloc.sweep ≠ none
        | .halted => s.mode.engine = .halted
        | .feederWarn => s.groups[r.arg].vstate = .warn
        | .feederShed => s.groups[r.arg].vstate = .shed
        | .anyFaulted => ∃ p : PadId, s.pads[p].state = .faulted
        | .noticePending =>
          ∃ k : Notice, noticeIn k s.notices.pendingSet = true ∧ noticeIn k s.notices.mask = false
        | .captureNonempty => s.notices.captures ≠ []
        | .headroomStaleAny =>
          ∃ g : GroupId, (s.feederRec g).enabled = true ∧ s.groups[g].hstate = .stale
        | .inputLatch => s.signals.latch[r.arg] = true)
  ∧ (∀ (s : State) (o : OutputId), s.outputRec o = outputView (s.tables.active.line[8 + o.val]'(by omega)))
  ∧ (∀ r : Vector Byte 4, ((outputView r).invert = true ↔ r[2] = 1)
      ∧ (r[1].toNat < 8 → (outputView r).arg.val = r[1].toNat)
      ∧ (outputView r).source = sourceOf r[0])
  ∧ [0, 1, 2, 3, 4, 5, 6, 7, 8, 9].map sourceOf =
      [.off, .roundActive, .halted, .feederWarn, .feederShed, .anyFaulted, .noticePending,
       .captureNonempty, .headroomStaleAny, .inputLatch]

/-- POWER_ON and RESET_INPUT leave the same state: that of R24, R55, R89, R111, R147, R160, R180, R190 and
R198, the taken levels being those on the lines, while what the outside world holds (the pin levels, the
waiting commands) and the model's own counter are kept. State.reset is that state; in it every pin is LOW by
the model's choice (log entry 1). That every line's break has then started, with its break-pending mark clear
again, is the model's reading of R142 and R147 (log entry 25); the fields stayed, busy and wire are the model's
own (log entries 23 and 29). -/
def Obligations.PowerOnReturnsEveryBlock : Prop :=
  (∀ s : State, ∃ t : State, exec .powerOn s = .next t ∧ exec .resetInput s = .next t
     ∧ t.time = { running := 0, timer := none }
     ∧ t.tables = { shadow := Bank.zero, active := Bank.zero, loaded := Vector.replicate 4 false,
                    commit := .idle, window := none }
     ∧ (∀ p : PadId, t.pads[p] =
         { state := .disabled, inScope := true, docking := 0, inDocking := false, report := none
           caps := none, attempts := 0, dispatch := none, limit := none, fault := none, need := 0
           urgency := 0, grant := 0, sent := 0, prior := 0, decPending := false, reservation := 0
           roundsLeft := 0, delivered := 0, remaining := 0, overdraw := 0, failures := 0, sample := none
           stayed := false })
     ∧ t.alloc = { sweep := none, fastShed := .none, sweepWaiting := false, rotation := 0, rounds := 0,
                   kept := [] }
     ∧ (∀ g : GroupId, t.groups[g] = { headroom := 0, age := 0, hstate := .none, vstate := .normal,
                                       shedInput := false, capacity := 0 })
     ∧ (∀ l : LineId, t.lines[l] =
         { position := none, urgent := [], final := [], inFlight := none, abandon := false
           breakPending := false, breaking := true, busy := false, discovery := false
           finalOffered := false, urgentOffered := false, good := 0, noisy := 0, corrupt := 0, wrong := 0
           noReply := 0, wire := [] })
     ∧ t.fleet = { receiver := .hunt, rx := [], tx := [], sending := none, corrupt := 0, dropped := 0
                   restartWaiting := false }
     ∧ t.mode = { engine := .halted, resolution := .fine, scope := .full, held := none,
                  stopLatch := false }
     ∧ t.notices = { captures := [], nextSeq := 0, overflow := false, overflowCount := 0,
                     pendingSet := 0, mask := 0 }
     ∧ t.signals.taken = s.signals.level ∧ t.signals.level = s.signals.level
     ∧ (∀ i : InputId, t.signals.latch[i] = false)
     ∧ (∀ o : OutputId, t.signals.outputs[o] = false)
     ∧ t.pending = s.pending ∧ t.freeCount = s.freeCount)
  ∧ (State.reset.mode = { engine := .halted, resolution := .fine, scope := .full, held := none,
                          stopLatch := false }
     ∧ State.reset.tables.active = Bank.zero ∧ State.reset.tables.shadow = Bank.zero
     ∧ State.reset.tables.loaded.toList = [false, false, false, false]
     ∧ State.reset.tables.commit = .idle ∧ State.reset.tables.window = none
     ∧ State.reset.time = { running := 0, timer := none }
     ∧ (∀ p : PadId, State.reset.pads[p].state = .disabled ∧ State.reset.pads[p].inScope = true
         ∧ State.reset.pads[p].grant = 0 ∧ State.reset.pads[p].sent = 0
         ∧ State.reset.pads[p].prior = 0 ∧ State.reset.pads[p].decPending = false
         ∧ State.reset.pads[p].reservation = 0 ∧ State.reset.pads[p].limit = none
         ∧ State.reset.pads[p].report = none ∧ State.reset.pads[p].failures = 0)
     ∧ (∀ l : LineId, State.reset.lines[l].inFlight = none ∧ State.reset.lines[l].breaking = true
         ∧ State.reset.lines[l].urgent = [] ∧ State.reset.lines[l].final = []
         ∧ State.reset.lines[l].position = none)
     ∧ (∀ o : OutputId, State.reset.signals.outputs[o] = false)
     ∧ (∀ i : InputId, State.reset.signals.latch[i] = false ∧ State.reset.signals.taken[i] = false)
     ∧ State.reset.fleet.receiver = .hunt ∧ State.reset.fleet.rx = [] ∧ State.reset.fleet.tx = []
     ∧ State.reset.pending = [])

/-! ## Requests in general -/

/-- A request whose frame is not the oldest of the receive queue, or that the port may not take, changes
nothing (R153): none is taken while a commit is CHECKING, a RESTART waits, or 4 responses are queued or being
sent. On an empty receive queue a request command stands for the arrival of its frame and the
take together: the model's choice (log entry 6). -/
def Obligations.RequestsWaitAndAreTaken : Prop :=
  (∀ (c : Instr) (f : RxFrame) (s : State), requestOf c = some f →
     (s.tables.commit.isChecking = true ∨ s.fleet.restartWaiting = true
       ∨ Config.responseLimit ≤ s.fleet.responses
       ∨ ∃ (g : RxFrame) (rest : List RxFrame), s.fleet.rx = g :: rest ∧ g ≠ f) →
     exec c s = .next (driveOutputs s))
  ∧ (∀ (c : Instr) (f : RxFrame) (s : State), requestOf c = some f → s.fleet.rx = [] →
       s.portReady = true → exec c s = exec c (s.withFleet { s.fleet with rx := [f] }))
  ∧ ∀ s : State,
    (s.portReady = true ↔ s.tables.commit.isChecking = false ∧ s.fleet.restartWaiting = false
      ∧ s.fleet.responses < 4)
    ∧ (s.tables.commit.isChecking = true ↔ ∃ (w : Word16) (tag : Byte), s.tables.commit = .checking w tag)
    ∧ s.fleet.responses = s.fleet.tx.countP (fun x => decide (x ≠ .notice))
        + (if ∃ f : TxFrame, s.fleet.sending = some f ∧ f.kind = 0x80 then 1 else 0)

/-- A body of a length its request does not allow is refused with BAD_LENGTH and changes nothing (R201, R9,
R10). A body of an allowed length that names a pad above 63 in DISPATCH, RELEASE, PAD_LIMIT, CLEAR_PAD or
READ_PAD, a group above 7 in HEADROOM or READ_FEEDER, a line other than A to D in READ_LINE, an input above 7
in CLEAR_INPUT, or an unknown setting in SET_MODE is refused with RANGE and changes nothing (R156, R171). A
frame whose kind is no request kind is answered BAD_KIND with the code echoed, and no block sees it (R154,
R200). -/
def Obligations.LengthAndKindAreChecked : Prop :=
  (∀ (c : Instr) (f : RxFrame) (rest : List RxFrame) (s : State), requestOf c = some f →
     s.takesNext f.kind f.tag f.body rest → f.kind ∈ requestKinds →
     lengthAllowed f.kind s.tables.window f.body.length = false →
     (f.kind = 0x11 → s.tables.commit ≠ .pending) →
     exec c s = .next (driveOutputs (s.replied rest f.tag [f.kind, 0x11])))
  ∧ (∀ (c : Instr) (f : RxFrame) (rest : List RxFrame) (s : State), requestOf c = some f →
     s.takesNext f.kind f.tag f.body rest →
     lengthAllowed f.kind s.tables.window f.body.length = true →
     ((f.kind ∈ [0x01, 0x02, 0x03, 0x04, 0x29] ∧ 63 < (byteAt f.body 0).toNat)
       ∨ (f.kind ∈ [0x08, 0x0C, 0x2A] ∧ 7 < (byteAt f.body 0).toNat)
       ∨ (f.kind = 0x2B ∧ 3 < (byteAt f.body 0).toNat)
       ∨ (f.kind = 0x18 ∧ 5 < (byteAt f.body 0).toNat)) →
     exec c s = .next (driveOutputs (s.replied rest f.tag [f.kind, 0x12])))
  ∧ (∀ (kind tag : Byte) (body : List Byte) (rest : List RxFrame) (s : State),
       kind ∉ requestKinds → s.takesNext kind tag body rest →
       exec (.badKindRequest kind tag body) s = .next (driveOutputs (s.replied rest tag [kind, 0x10])))
  ∧ requestKinds =
      [0x01, 0x02, 0x03, 0x04, 0x08, 0x0C, 0x10, 0x11, 0x12, 0x13, 0x14, 0x18, 0x19, 0x20, 0x21, 0x22, 0x28,
       0x29, 0x2A, 0x2B]

/-- A taken request whose response carries a code other than OK and OK_CLAMPED has changed no state but
for its frame's leaving the queue and the response's joining the other (R156). -/
def Obligations.RefusalChangesNoState : Prop :=
  ∀ (c : Instr) (f : RxFrame) (rest : List RxFrame) (s t : State) (code : Byte) (data : List Byte),
    requestOf c = some f → s.takesNext f.kind f.tag f.body rest → exec c s = .next t →
    t.fleet.tx = s.fleet.tx ++ [.response ⟨kindResponse, f.tag, f.kind :: code :: data⟩] →
    code ≠ 0x00 → code ≠ 0x01 →
    t = driveOutputs (s.replied rest f.tag (f.kind :: code :: data))

/-- Every taken request receives exactly one RESPONSE, with its tag and its kind, in the event of the
take; an accepted COMMIT receives none then and is CHECKING (R153, R155). -/
def Obligations.TakenRequestReceivesOneResponse : Prop :=
  ∀ (c : Instr) (f : RxFrame) (rest : List RxFrame) (s : State), requestOf c = some f →
    s.takesNext f.kind f.tag f.body rest →
    ∃ t : State, exec c s = .next t ∧ t.fleet.rx = rest
      ∧ ((∃ (code : Byte) (data : List Byte),
          t.fleet.tx.filter (fun x => !x.isNotice) =
            s.fleet.tx.filter (fun x => !x.isNotice)
              ++ [.response ⟨kindResponse, f.tag, f.kind :: code :: data⟩])
        ∨ (f.kind = kindCommit ∧ t.fleet.tx = s.fleet.tx ∧ t.tables.commit.isChecking = true))

/-! ## Sessions -/

/-- DISPATCH (R39) where it completes nothing: in PROBING, or with a stored target above 0. The target is
lowered to a known battery capacity with OK_CLAMPED, the baseline is the latest session energy of this
docking or 0, the deadline is now plus ten times the seconds, and COMPLETE returns to WAITING. In DISABLED,
EMPTY, RELEASING, SILENT and FAULTED it is refused with STATE (R39, R49, R53). -/
def Obligations.DispatchFormsItsRecord : Prop :=
  (∀ (p : PadId) (tag th tl dh dl : Byte) (rest : List RxFrame) (s : State) (target : Nat),
     s.takesNext 0x01 tag [byte1 p.val, th, tl, dh, dl] rest →
     (s.pads[p].state = .probing ∨ s.pads[p].state = .waiting ∨ s.pads[p].state = .charging
       ∨ s.pads[p].state = .complete) →
     target = (match s.pads[p].caps.bind Capability.battery with
       | some b => min (be16 th tl) b
       | none => be16 th tl) →
     (s.pads[p].state = .probing ∨ 0 < target) →
     exec (.dispatch tag [byte1 p.val, th, tl, dh, dl]) s = .next (driveOutputs
       ((s.replied rest tag
           [0x01, if target < be16 th tl then 0x01 else 0x00, byte1 (target / 256), byte1 target]).withPads
         (s.pads.set p
           { s.pads[p] with
             state := if s.pads[p].state = .complete ∧ 0 < target then .waiting else s.pads[p].state
             dispatch := some
               { target := target
                 base := if s.pads[p].inDocking then (s.pads[p].report.map Report.energy).getD 0 else 0
                 deadline := s.time.running + BitVec.ofNat 32 (10 * be16 dh dl)
                 missed := false }
             delivered := 0, remaining := target }))))
  ∧ (∀ (p : PadId) (tag th tl dh dl : Byte) (rest : List RxFrame) (s : State),
    s.takesNext 0x01 tag [byte1 p.val, th, tl, dh, dl] rest →
    (s.pads[p].state = .disabled ∨ s.pads[p].state = .empty ∨ s.pads[p].state = .releasing
      ∨ s.pads[p].state = .silent ∨ s.pads[p].state = .faulted) →
    exec (.dispatch tag [byte1 p.val, th, tl, dh, dl]) s =
      .next (driveOutputs (s.replied rest tag [0x01, 0x13])))

/-- DISPATCH with a stored target of 0 (R39, R41, R42): in WAITING and CHARGING the session becomes
COMPLETE with its grant lowered to 0 by the decrease path, in COMPLETE it stays COMPLETE, and PAD_COMPLETE
is raised. -/
def Obligations.DispatchOfNothingCompletes : Prop :=
  ∀ (p : PadId) (tag dh dl : Byte) (rest : List RxFrame) (s : State),
    s.takesNext 0x01 tag [byte1 p.val, 0, 0, dh, dl] rest →
    (s.pads[p].state = .waiting ∨ s.pads[p].state = .charging ∨ s.pads[p].state = .complete) →
    ∃ t : State, exec (.dispatch tag [byte1 p.val, 0, 0, dh, dl]) s = .next t
      ∧ t.pads[p].state = .complete
      ∧ noticeIn .padComplete t.notices.pendingSet = true
      ∧ (∃ d : Dispatch, t.pads[p].dispatch = some d ∧ d.target = 0 ∧ d.missed = false)
      ∧ t.pads[p].remaining = 0
      ∧ (s.pads[p].state ≠ .complete → t.pads[p].grant = 0 ∧ t.pads[p].sent = 0
          ∧ (0 < s.pads[p].sent → t.pads[p].decPending = true
              ∧ t.pads[p].prior =
                (if s.pads[p].decPending then max s.pads[p].prior s.pads[p].sent else s.pads[p].sent))
          ∧ ∀ l : LineId, t.lines[l].urgent = urgentAfter s p 0 l)
      ∧ (∀ q : PadId, q ≠ p → t.pads[q] = s.pads[q])
      ∧ t.tables = s.tables ∧ t.alloc = s.alloc ∧ t.groups = s.groups ∧ t.mode = s.mode ∧ t.time = s.time

/-- Rule R43 whole. RELEASE by the session's state: the dispatch is dropped and the grant, a held increase
with it, is lowered to 0 by the decrease path, or nothing changes, or it is refused; a wrong length and a
pad above 63 are refused. The capability record is kept. From PROBING the sent and the prior setpoint are 0 and
decrease-pending is clear at once, as section 5.3 says of it (R38, R119); that no increase release follows
there is the model's reading of R79 (log entry 18). -/
def Obligations.ReleaseActsByState : Prop :=
  ∀ (tag : Byte) (body : List Byte) (rest : List RxFrame) (s : State), s.takesNext 0x02 tag body rest →
    (body.length ≠ 1 →
      exec (.release tag body) s = .next (driveOutputs (s.replied rest tag [0x02, 0x11])))
    ∧ (∀ b : Byte, body = [b] → 63 < b.toNat →
      exec (.release tag body) s = .next (driveOutputs (s.replied rest tag [0x02, 0x12])))
    ∧ ∀ p : PadId, body = [byte1 p.val] →
      match s.pads[p].state with
      | .waiting | .charging | .complete =>
        ∃ t : State, exec (.release tag body) s = .next t
          ∧ t.pads[p] =
            { s.pads[p].lower 0 with
              state := .releasing, stayed := false, dispatch := none, delivered := 0, remaining := 0 }
          ∧ t.pads[p].grant = 0 ∧ t.pads[p].sent = 0 ∧ t.pads[p].caps = s.pads[p].caps
          ∧ (0 < s.pads[p].sent → t.pads[p].decPending = true)
          ∧ (∀ q : PadId, q ≠ p → t.pads[q] = s.pads[q])
          ∧ (∀ l : LineId, t.lines[l] = { s.lines[l] with urgent := urgentAfter s p 0 l })
          ∧ t.fleet = (s.replied rest tag [0x02, 0x00]).fleet
          ∧ t.tables = s.tables ∧ t.alloc = s.alloc ∧ t.groups = s.groups ∧ t.mode = s.mode
          ∧ t.time = s.time ∧ t.notices = s.notices
      | .probing =>
        exec (.release tag body) s = .next (driveOutputs
          ((s.replied rest tag [0x02, 0x00]).withPads
            (s.pads.set p
              { s.pads[p] with
                state := .releasing, stayed := false, dispatch := none, delivered := 0
                remaining := 0, grant := 0, sent := 0, prior := 0, decPending := false })))
        ∧ ∀ (u : State) (l : LineId) (x : Turn), u.pads[p].state = .releasing →
            normalTurn u l u.lines[l] = some x → x.pad = some p → x.request = .poll
      | .empty => exec (.release tag body) s = .next (driveOutputs (s.replied rest tag [0x02, 0x00]))
      | .disabled | .releasing | .silent | .faulted =>
        exec (.release tag body) s = .next (driveOutputs (s.replied rest tag [0x02, 0x13]))

/-- PAD_LIMIT in every session state (R47): CLEAR makes the limit absent, SET stores the figure carried or
the pad ceiling of an enabled pad, with OK_CLAMPED, and a figure above 400 or a mark that is neither is
refused. -/
def Obligations.PadLimitSetsAndClears : Prop :=
  ∀ (p : PadId) (tag m lh ll : Byte) (rest : List RxFrame) (s : State),
    s.takesNext 0x03 tag [byte1 p.val, m, lh, ll] rest →
    (m = 0x00 → exec (.padLimit tag [byte1 p.val, m, lh, ll]) s = .next (driveOutputs
      ((s.replied rest tag [0x03, 0x00, 0, 0, 0]).withPads
        (s.pads.set p { s.pads[p] with limit := none }))))
    ∧ (m = 0x01 → be16 lh ll ≤ 400 → (s.padRec p).enabled = true → (s.padRec p).ceiling < be16 lh ll →
      exec (.padLimit tag [byte1 p.val, m, lh, ll]) s = .next (driveOutputs
        ((s.replied rest tag
            [0x03, 0x01, 1, byte1 ((s.padRec p).ceiling / 256), byte1 (s.padRec p).ceiling]).withPads
          (s.pads.set p { s.pads[p] with limit := some (s.padRec p).ceiling }))))
    ∧ (m = 0x01 → be16 lh ll ≤ 400 →
        ((s.padRec p).enabled = false ∨ be16 lh ll ≤ (s.padRec p).ceiling) →
      exec (.padLimit tag [byte1 p.val, m, lh, ll]) s = .next (driveOutputs
        ((s.replied rest tag [0x03, 0x00, 1, lh, ll]).withPads
          (s.pads.set p { s.pads[p] with limit := some (be16 lh ll) }))))
    ∧ (((m ≠ 0x00 ∧ m ≠ 0x01) ∨ (m = 0x01 ∧ 400 < be16 lh ll)) →
      exec (.padLimit tag [byte1 p.val, m, lh, ll]) s =
        .next (driveOutputs (s.replied rest tag [0x03, 0x12])))

/-- CLEAR_PAD (R54): a FAULTED session becomes PROBING while its latest report shows the vehicle present,
keeping the dispatch when the docking count is the one seen, and otherwise EMPTY; the fault code and the
overdraw count go, the failure count stays; any other state is refused. -/
def Obligations.ClearPadLeavesFaulted : Prop :=
  ∀ (p : PadId) (tag : Byte) (rest : List RxFrame) (s : State),
    s.takesNext 0x04 tag [byte1 p.val] rest →
    (s.pads[p].state ≠ .faulted →
      exec (.clearPad tag [byte1 p.val]) s = .next (driveOutputs (s.replied rest tag [0x04, 0x13])))
    ∧ (∀ r : Report, s.pads[p].state = .faulted → s.pads[p].report = some r → r.present = true →
        r.docking = s.pads[p].docking →
      exec (.clearPad tag [byte1 p.val]) s = .next (driveOutputs
        ((s.replied rest tag [0x04, 0x00, 2]).withPads
          (s.pads.set p
            { s.pads[p] with
              state := .probing, stayed := false, fault := none, overdraw := 0, caps := none
              attempts := 0 }))))
    ∧ (∀ r : Report, s.pads[p].state = .faulted → s.pads[p].report = some r → r.present = true →
        r.docking ≠ s.pads[p].docking →
      exec (.clearPad tag [byte1 p.val]) s = .next (driveOutputs
        ((s.replied rest tag [0x04, 0x00, 2]).withPads
          (s.pads.set p
            { s.pads[p] with
              state := .probing, stayed := false, fault := none, overdraw := 0, caps := none
              attempts := 0, dispatch := none, delivered := 0, remaining := 0
              docking := r.docking }))))
    ∧ (s.pads[p].state = .faulted → (∀ r : Report, s.pads[p].report = some r → r.present = false) →
      exec (.clearPad tag [byte1 p.val]) s = .next (driveOutputs
        ((s.replied rest tag [0x04, 0x00, 1]).withPads
          (s.pads.set p
            { s.pads[p] with
              state := .empty, stayed := false, fault := none, overdraw := 0, caps := none, attempts := 0
              dispatch := none, delivered := 0, remaining := 0, inDocking := false }))))

/-! ## Capacity -/

/-- Rule R91's table: the effective capacity by the group's record, its headroom state and shed active, which is
set while the voltage state is SHED or the shed-input state is set (R107). -/
def Obligations.EffectiveCapacityTable : Prop :=
  ∀ (r : FeederRec) (x : Group),
    (r.enabled = false → capacityOf r x = 0)
    ∧ (r.enabled = true → x.hstate = .fresh → x.shedActive = false → capacityOf r x = x.headroom)
    ∧ (r.enabled = true → x.hstate = .fresh → x.shedActive = true →
        (capacityOf r x : Int) = max 0 ((x.headroom : Int) - r.shed))
    ∧ (r.enabled = true → (x.hstate = .none ∨ x.hstate = .stale) → x.shedActive = false →
        r.fallback ≤ r.rated → capacityOf r x + r.fallback = r.rated)
    ∧ (r.enabled = true → (x.hstate = .none ∨ x.hstate = .stale) → x.shedActive = true →
        r.fallback ≤ r.rated →
        (capacityOf r x : Int) = max 0 ((r.rated : Int) - r.fallback - r.shed))
    ∧ ((x.hstate = .fresh → x.headroom ≤ r.rated) → capacityOf r x ≤ r.rated)
    ∧ (x.shedActive = true ↔ x.vstate = .shed ∨ x.shedInput = true)

/-- HEADROOM (R94) that does not lower the effective capacity: the lesser of the figure and the rated
capacity is stored, FRESH at age 0, the capacity is recomputed, and the response carries both. It is refused
with RANGE above group 7, with NO_TABLES while a table is NOT_LOADED, and with STATE for a disabled group,
in that order. -/
def Obligations.HeadroomRaisesCapacity : Prop :=
  (∀ (g : GroupId) (tag hh hl : Byte) (rest : List RxFrame) (s : State) (x : Group),
     s.takesNext 0x08 tag [byte1 g.val, hh, hl] rest → s.tables.allLoaded = true →
     (s.feederRec g).enabled = true →
     x = { s.groups[g] with
           headroom := min (be16 hh hl) (s.feederRec g).rated, age := 0, hstate := .fresh
           capacity := min (be16 hh hl) (s.feederRec g).rated
             - (if s.groups[g].shedActive then (s.feederRec g).shed else 0) } →
     s.groups[g].capacity ≤ x.capacity →
     exec (.headroom tag [byte1 g.val, hh, hl]) s = .next (driveOutputs
       ((s.replied rest tag
           [0x08, if (s.feederRec g).rated < be16 hh hl then 0x01 else 0x00,
            byte1 (x.headroom / 256), byte1 x.headroom, byte1 (x.capacity / 256), byte1 x.capacity]).withGroups
         (s.groups.set g x))))
  ∧ (∀ (tag b hh hl : Byte) (rest : List RxFrame) (s : State), s.takesNext 0x08 tag [b, hh, hl] rest →
       (7 < b.toNat →
         exec (.headroom tag [b, hh, hl]) s = .next (driveOutputs (s.replied rest tag [0x08, 0x12])))
       ∧ (b.toNat ≤ 7 → s.tables.allLoaded = false →
         exec (.headroom tag [b, hh, hl]) s = .next (driveOutputs (s.replied rest tag [0x08, 0x18])))
       ∧ (∀ g : GroupId, b = byte1 g.val → s.tables.allLoaded = true → (s.feederRec g).enabled = false →
         exec (.headroom tag [b, hh, hl]) s = .next (driveOutputs (s.replied rest tag [0x08, 0x13]))))

/-- HEADROOM (R92, R94) that lowers the effective capacity: the new figure stands, and the fast-shed check is
made on it (R81), so that no group or site is left over its limit with the fast-shed state NONE. A pass that is
RUNNING goes on alone. Otherwise, where shedding is needed, the state is PENDING during a sweep; with no sweep a
pass starts, which raises no grant and, where the kept list holds every pad with a grant, leaves nothing over
(R82, R83; the walk whole at its start: log entry 9). Where none is needed the state is NONE, and from PENDING
the increase release follows (R79). -/
def Obligations.HeadroomFallMakesTheCheck : Prop :=
  ∀ (g : GroupId) (tag hh hl : Byte) (rest : List RxFrame) (s : State),
    s.takesNext 0x08 tag [byte1 g.val, hh, hl] rest → s.tables.allLoaded = true →
    (s.feederRec g).enabled = true →
    min (be16 hh hl) (s.feederRec g).rated
      - (if s.groups[g].shedActive then (s.feederRec g).shed else 0) < s.groups[g].capacity →
    ∃ t : State, exec (.headroom tag [byte1 g.val, hh, hl]) s = .next t
      ∧ t.groups[g].hstate = .fresh ∧ t.groups[g].age = 0
      ∧ t.groups[g].headroom = min (be16 hh hl) (s.feederRec g).rated
      ∧ t.groups[g].capacity = min (be16 hh hl) (s.feederRec g).rated
          - (if s.groups[g].shedActive then (s.feederRec g).shed else 0)
      ∧ (t.alloc.fastShed = .none → t.needsShed = false)
      ∧ (t.needsShed = true → s.alloc.sweep.isSome = true → s.alloc.fastShed ≠ .running →
          t.alloc.fastShed = .pending ∧ t.pads = s.pads)
      ∧ (let u : State := s.withGroups (s.groups.set g t.groups[g])
        (s.alloc.fastShed = .running → t.alloc = s.alloc ∧ t.pads = s.pads ∧ t.lines = s.lines)
        ∧ (s.alloc.fastShed ≠ .running → u.needsShed = true → s.alloc.sweep.isSome = true →
            t.alloc = { s.alloc with fastShed := .pending } ∧ t.pads = s.pads ∧ t.lines = s.lines)
        ∧ (s.alloc.fastShed ≠ .running → u.needsShed = true → s.alloc.sweep = none →
            t.alloc = { s.alloc with fastShed := .running }
            ∧ (∀ p : PadId, t.pads[p].grant ≤ s.pads[p].grant ∧ t.pads[p].sent ≤ s.pads[p].sent)
            ∧ ((∀ p : PadId, 0 < s.pads[p].grant → p ∈ s.alloc.kept) →
                t.needsShed = false ∧ ∃ p : PadId, t.pads[p].grant < s.pads[p].grant))
        ∧ (s.alloc.fastShed ≠ .running → u.needsShed = false →
            t.alloc = { s.alloc with fastShed := .none } ∧ t.lines = s.lines
            ∧ ∀ p : PadId, t.pads[p] =
                { s.pads[p] with
                  sent :=
                    if s.alloc.fastShed = .pending ∧ s.anyPending = false then
                      max s.pads[p].sent s.pads[p].grant
                    else s.pads[p].sent }))
      ∧ (∀ h : GroupId, h ≠ g → t.groups[h] = s.groups[h])
      ∧ t.tables = s.tables ∧ t.time = s.time ∧ t.mode = s.mode ∧ t.notices = s.notices

/-- HEADROOM_TURNS_STALE (R95): a FRESH group whose age is past ten times the hold time becomes STALE with
its headroom value and age kept, its capacity formed from the rated and fallback capacities, and
HEADROOM_STALE raised; a capacity that does not fall lowers no grant. -/
def Obligations.OldHeadroomTurnsStale : Prop :=
  ∀ (g : GroupId) (s : State), s.groups[g].hstate = .fresh →
    10 * s.site.holdTime < s.groups[g].age →
    ∃ t : State, exec (.headroomTurnsStale g) s = .next t
      ∧ t.groups[g].hstate = .stale ∧ t.groups[g].headroom = s.groups[g].headroom
      ∧ t.groups[g].age = s.groups[g].age
      ∧ t.groups[g].capacity = capacityOf (s.feederRec g) { s.groups[g] with hstate := .stale }
      ∧ noticeIn .headroomStale t.notices.pendingSet = true
      ∧ (s.groups[g].capacity ≤ t.groups[g].capacity →
          t.pads = s.pads ∧ t.lines = s.lines ∧ t.alloc = s.alloc)
      ∧ (∀ h : GroupId, h ≠ g → t.groups[h] = s.groups[h])
      ∧ t.tables = s.tables ∧ t.time = s.time ∧ t.mode = s.mode

/-- The voltage state moves as the tables of R102 and R103 give, for each monitor mode. -/
def Obligations.VoltageStateMoves : Prop :=
  ∀ (r : FeederRec) (x : VoltageState) (v : Nat),
    (r.monitor = .notifyAndShed →
      voltageMove r x v =
        match x with
        | .normal =>
          if v < r.shedLevel then (.shed, [.feederWarn, .feederShed])
          else if v < r.warnLevel then (.warn, [.feederWarn]) else (.normal, [])
        | .warn =>
          if v < r.shedLevel then (.shed, [.feederShed])
          else if r.warnRelease ≤ v then (.normal, []) else (.warn, [])
        | .shed =>
          if r.shedRelease ≤ v ∧ v < r.warnLevel then (.warn, [.feederWarn])
          else if r.shedRelease ≤ v then (.normal, []) else (.shed, []))
    ∧ (r.monitor = .notify →
      voltageMove r x v =
        if x = .normal ∧ v < r.warnLevel then (.warn, [.feederWarn])
        else if x = .warn ∧ r.warnRelease ≤ v then (.normal, []) else (x, []))
    ∧ (r.monitor = .shedOnly →
      voltageMove r x v =
        if x = .normal ∧ v < r.shedLevel then (.shed, [.feederShed])
        else if x = .shed ∧ r.shedRelease ≤ v then (.normal, []) else (x, []))
    ∧ (r.monitor = .off → voltageMove r x v = (x, []))

/-! ## The tables -/

/-- OPEN_WINDOW (R8) of a range that lies in its table replaces the window, with the cursor at the first
record, and answers OK; an unknown table, a range turned round, a record past the table's last and an
unknown bank are refused with RANGE and leave the window. -/
def Obligations.OpenWindowReplacesTheWindow : Prop :=
  ∀ (tag t0 a z b0 : Byte) (rest : List RxFrame) (s : State), s.takesNext 0x10 tag [t0, a, z, b0] rest →
    (∀ (tbl : TableId) (bank : ReadBank), t0 = tbl.code → b0 = bank.code → a.toNat ≤ z.toNat →
        z.toNat < tbl.records →
      exec (.openWindow tag [t0, a, z, b0]) s = .next (driveOutputs
        ((s.replied rest tag [0x10, 0x00]).withTables
          { s.tables with
            window := some
              { table := tbl, first := a.toNat, last := z.toNat, cursor := a.toNat, bank := bank } })))
    ∧ ((3 < t0.toNat ∨ 1 < b0.toNat ∨ z.toNat < a.toNat
        ∨ ∃ tbl : TableId, t0 = tbl.code ∧ tbl.records ≤ z.toNat) →
      exec (.openWindow tag [t0, a, z, b0]) s = .next (driveOutputs (s.replied rest tag [0x10, 0x12])))

/-- WRITE_RECORDS (R9) of one whole record: the shadow record at the cursor is replaced byte for byte and
no other record of either bank changes, the cursor moves to the next record of the window or wraps to its
first, and the response carries the count and the cursor. A body of 1 to 16 records is stored record by record
from the cursor in the body's order, and the response carries their number and the cursor after the last. With
no window open, whatever the body, it is refused with NO_WINDOW, and then, while a commit is PENDING, with
BUSY. -/
def Obligations.WriteStoresAtTheCursor : Prop :=
  (∀ (tag : Byte) (body : List Byte) (rest : List RxFrame) (s : State) (w : Window) (next : Nat),
     s.takesNext 0x11 tag body rest → s.tables.window = some w → s.tables.commit ≠ .pending →
     body.length = w.table.size → w.cursor < w.table.records →
     next = (if w.cursor = w.last then w.first else w.cursor + 1) →
     ∃ t : State, exec (.writeRecords tag body) s = .next t
       ∧ t.fleet = (s.replied rest tag [0x11, 0x00, 1, byte1 next]).fleet
       ∧ t.tables = { s.tables with shadow := t.tables.shadow, window := some { w with cursor := next } }
       ∧ t.tables.shadow.record w.table w.cursor = body
       ∧ (∀ (x : TableId) (i : Nat), (x ≠ w.table ∨ i ≠ w.cursor) →
           t.tables.shadow.record x i = s.tables.shadow.record x i)
       ∧ t.pads = s.pads ∧ t.alloc = s.alloc ∧ t.groups = s.groups ∧ t.lines = s.lines
       ∧ t.mode = s.mode ∧ t.notices = s.notices ∧ t.time = s.time)
  ∧ (∀ (tag : Byte) (rs : List (List Byte)) (rest : List RxFrame) (s : State) (w : Window),
       s.takesNext 0x11 tag rs.flatten rest → s.tables.window = some w → s.tables.commit ≠ .pending →
       (∀ r : List Byte, r ∈ rs → r.length = w.table.size) → 1 ≤ rs.length → rs.length ≤ 16 →
       ∃ t : State, exec (.writeRecords tag rs.flatten) s = .next t
         ∧ t.tables =
           { s.tables with
             shadow := (storeAll rs (s.tables.shadow, w)).1
             window := some (storeAll rs (s.tables.shadow, w)).2 }
         ∧ t.fleet = (s.replied rest tag
             [0x11, 0x00, byte1 rs.length, byte1 (storeAll rs (s.tables.shadow, w)).2.cursor]).fleet
         ∧ t.pads = s.pads ∧ t.alloc = s.alloc ∧ t.groups = s.groups ∧ t.lines = s.lines
         ∧ t.mode = s.mode ∧ t.notices = s.notices ∧ t.time = s.time)
  ∧ (∀ (r : List Byte) (b : Bank) (w : Window), r.length = w.table.size → w.cursor < w.table.records →
       (storeAll [r] (b, w)).1.record w.table w.cursor = r
       ∧ ∀ (x : TableId) (i : Nat), (x ≠ w.table ∨ i ≠ w.cursor) →
           (storeAll [r] (b, w)).1.record x i = b.record x i)
  ∧ (∀ (r : List Byte) (rs : List (List Byte)) (b : Bank) (w : Window),
       storeAll (r :: rs) (b, w) = storeAll rs (storeAll [r] (b, w))
       ∧ (storeAll [r] (b, w)).2 =
           { w with cursor := if w.cursor = w.last then w.first else w.cursor + 1 }
       ∧ (storeAll [] (b, w)) = (b, w))
  ∧ (∀ (tag : Byte) (body : List Byte) (rest : List RxFrame) (s : State), s.takesNext 0x11 tag body rest →
       (s.tables.window = none →
         exec (.writeRecords tag body) s = .next (driveOutputs (s.replied rest tag [0x11, 0x15])))
       ∧ ∀ w : Window, s.tables.window = some w → s.tables.commit = .pending →
         exec (.writeRecords tag body) s = .next (driveOutputs (s.replied rest tag [0x11, 0x14])))

/-- READ_RECORDS (R10) of k records: the response carries the record number at the cursor, the count and the
records of the window's read bank from the cursor onward, the cursor going from the window's last record to
its first, and only the cursor moves; a count of 0 or above the table's largest is refused
with RANGE and no window with NO_WINDOW. -/
def Obligations.ReadReturnsTheRecordAtTheCursor : Prop :=
  ∀ (tag k : Byte) (rest : List RxFrame) (s : State), s.takesNext 0x12 tag [k] rest →
    (s.tables.window = none →
      exec (.readRecords tag [k]) s = .next (driveOutputs (s.replied rest tag [0x12, 0x15])))
    ∧ ∀ w : Window, s.tables.window = some w →
      ((k = 0 ∨ w.table.readLimit < k.toNat) →
        exec (.readRecords tag [k]) s = .next (driveOutputs (s.replied rest tag [0x12, 0x12])))
      ∧ (k = 1 →
        exec (.readRecords tag [k]) s = .next (driveOutputs
          ((s.replied rest tag
              ([0x12, 0x00, byte1 w.cursor, 1]
                ++ (if w.bank = .shadow then s.tables.shadow else s.tables.active).record
                    w.table w.cursor)).withTables
            { s.tables with
              window := some
                { w with cursor := if w.cursor = w.last then w.first else w.cursor + 1 } })))
      ∧ ∀ cur : Nat → Nat, cur 0 = w.cursor →
          (∀ i : Nat, cur (i + 1) = if cur i = w.last then w.first else cur i + 1) →
          k ≠ 0 → k.toNat ≤ w.table.readLimit →
        exec (.readRecords tag [k]) s = .next (driveOutputs
          ((s.replied rest tag
              ([0x12, 0x00, byte1 w.cursor, k]
                ++ (List.range k.toNat).flatMap fun i =>
                    (if w.bank = .shadow then s.tables.shadow else s.tables.active).record
                      w.table (cur i))).withTables
            { s.tables with window := some { w with cursor := cur k.toNat } }))

/-- COMMIT (R11) in IDLE becomes CHECKING with the CRC it carries and no response yet; DISCARD (R16) copies
the active bank into the shadow bank; while a commit is PENDING each is refused with BUSY. -/
def Obligations.CommitBeginsAndDiscardRestores : Prop :=
  (∀ (tag ch cl : Byte) (rest : List RxFrame) (s : State), s.takesNext 0x13 tag [ch, cl] rest →
     (s.tables.commit = .pending →
       exec (.commit tag [ch, cl]) s = .next (driveOutputs (s.replied rest tag [0x13, 0x14])))
     ∧ (s.tables.commit ≠ .pending →
       exec (.commit tag [ch, cl]) s = .next (driveOutputs
         ((s.withFleet { s.fleet with rx := rest }).withTables
           { s.tables with commit := .checking (ch ++ cl) tag }))))
  ∧ (∀ (tag : Byte) (rest : List RxFrame) (s : State), s.takesNext 0x14 tag [] rest →
       (s.tables.commit = .pending →
         exec (.discard tag []) s = .next (driveOutputs (s.replied rest tag [0x14, 0x14])))
       ∧ (s.tables.commit ≠ .pending →
         exec (.discard tag []) s = .next (driveOutputs
           ((s.replied rest tag [0x14, 0x00]).withTables { s.tables with shadow := s.tables.active }))))

/-- COMMIT_CHECK_END (R12, R15): a CRC disagreement answers CRC_MISMATCH with the CRC computed, a record that
fails validation answers INVALID_TABLE with its table, number and reason, and either returns the commit state
to IDLE and changes nothing else. A bank that passes is PENDING while a sweep or a pass is in progress;
otherwise activation follows at once (R17, R18): the active bank becomes the shadow bank, every table is
LOADED, the commit is IDLE, COMMIT_DONE is raised, the window stays, and the response is OK. Validation (R13, R14): a bank passes
exactly when no record of it fails, and otherwise the record reported is the first that fails, in the order of
the tables and of the record numbers, with the lowest reason code it fails for. The fields of a record are read
at the offsets and bits of R203, and the four tables have the numbers and sizes of records that R2 gives. -/
def Obligations.CommitCheckEnds : Prop :=
  (∀ (crcCarried : Word16) (tag : Byte) (s : State), s.tables.commit = .checking crcCarried tag →
     (crc s.tables.shadow.bytes ≠ crcCarried →
       exec .commitCheckEnd s = .next (driveOutputs
         ((s.replied s.fleet.rx tag ([0x13, 0x16] ++ crcBytes (crc s.tables.shadow.bytes))).withTables
           { s.tables with commit := .idle })))
     ∧ (∀ bad : Invalid, crc s.tables.shadow.bytes = crcCarried →
         validate s.tables.shadow = some bad →
       exec .commitCheckEnd s = .next (driveOutputs
         ((s.replied s.fleet.rx tag
             [0x13, 0x17, bad.table.code, byte1 bad.record, bad.reason]).withTables
           { s.tables with commit := .idle }))))
  ∧ (∀ (tag : Byte) (s : State), s.tables.commit = .checking (crc s.tables.shadow.bytes) tag →
       validate s.tables.shadow = none →
       ((s.alloc.sweep.isSome = true ∨ s.alloc.fastShed = .running) →
         exec .commitCheckEnd s = .next (driveOutputs
           ((s.replied s.fleet.rx tag [0x13, 0x00]).withTables { s.tables with commit := .pending })))
       ∧ (s.alloc.sweep = none → s.alloc.fastShed ≠ .running →
         ∃ t : State, exec .commitCheckEnd s = .next t
           ∧ t.tables = { s.tables with
               active := s.tables.shadow, loaded := Vector.replicate 4 true, commit := .idle }
           ∧ noticeIn .commitDone t.notices.pendingSet = true
           ∧ t.notices.mask = s.notices.mask ∧ t.notices.captures = s.notices.captures
           ∧ t.time.running = s.time.running ∧ t.fleet.rx = s.fleet.rx
           ∧ t.fleet.sending = s.fleet.sending
           ∧ t.fleet.tx.filter (fun x => !x.isNotice) =
               s.fleet.tx.filter (fun x => !x.isNotice) ++ [.response ⟨kindResponse, tag, [0x13, 0x00]⟩]
           ∧ t.signals.taken = s.signals.taken))
  ∧ (∀ b : Bank,
    (validate b = none ↔ ∀ (x : TableId) (i code : Nat), i < x.records → ¬ recordFails b x i code)
    ∧ ∀ bad : Invalid, validate b = some bad →
        bad.record < bad.table.records ∧ recordFails b bad.table bad.record bad.reason.toNat
        ∧ (∀ code : Nat, code < bad.reason.toNat → ¬ recordFails b bad.table bad.record code)
        ∧ ∀ (x : TableId) (i code : Nat), i < x.records →
            (x.code.toNat < bad.table.code.toNat ∨ (x = bad.table ∧ i < bad.record)) →
            ¬ recordFails b x i code)
  ∧ (∀ r : Vector Byte 32, siteView r =
      let w : Byte → Byte → Nat := fun high low => 256 * high.toNat + low.toNat
      { limit := w r[0] r[1], period := w r[2] r[3], holdRounds := r[4].toNat, missLimit := r[5].toNat
        probeAttempts := r[6].toNat, replyTimeout := r[7].toNat, head := r[8].toNat, tail := r[9].toNat
        step := r[10].toNat, defMax := w r[11] r[12], defMin := w r[13] r[14], holdTime := w r[15] r[16] })
  ∧ (∀ r : Vector Byte 16, feederView r =
      let w : Byte → Byte → Nat := fun high low => 256 * high.toNat + low.toNat
      { enabled := decide (r[0] = 1), rated := w r[3] r[4], fallback := w r[5] r[6], shed := w r[7] r[8]
        ramp := w r[9] r[10], tolerance := r[2].toNat, overdrawLimit := r[1].toNat / 16 % 8
        monitor := [.off, .notify, .shedOnly, .notifyAndShed].getD (r[1].toNat % 4) .off
        warnLevel := 256 * (r[15].toNat / 64) + r[11].toNat
        warnRelease := 256 * (r[15].toNat / 16 % 4) + r[12].toNat
        shedLevel := 256 * (r[15].toNat / 4 % 4) + r[13].toNat
        shedRelease := 256 * (r[15].toNat % 4) + r[14].toNat })
  ∧ (∀ r : Vector Byte 12,
      (padView r).enabled = decide (r[0] = 1) ∧ (padView r).opportunity = r[1].getLsbD 0
      ∧ (padView r).assumeDefault = r[1].getLsbD 1
      ∧ (r[2].toNat ≤ 3 → (padView r).line.val = r[2].toNat) ∧ (padView r).drop = r[3].toNat
      ∧ (r[4].toNat ≤ 7 → (padView r).group.val = r[4].toNat) ∧ (padView r).cls = r[5].toNat
      ∧ (padView r).ceiling = 256 * r[6].toNat + r[7].toNat)
  ∧ (∀ r : Vector Byte 4,
      (r[0].toNat ≤ 3 → some (inputView r).function =
        ([.none, .shed, .stop, .notify] : List InputFunction)[r[0].toNat]?)
      ∧ (r[1].toNat ≤ 7 → (inputView r).group.val = r[1].toNat)
      ∧ (r[2].toNat ≤ 4 → some (inputView r).sense =
        ([.rising, .falling, .both, .levelHigh, .levelLow] : List Sense)[r[2].toNat]?))
  ∧ ([TableId.site, .feeder, .pad, .line].map fun x => (x.code.toNat, x.records, x.size)) =
      [(0, 1, 32), (1, 8, 16), (2, 64, 12), (3, 16, 4)]

/-- Activation treats each pad by the class of its old and new record (R19, R29, R33): the session's state,
the figures, the records and the manual pad limit, in HALTED with no figure standing. In every engine mode: a
newly disabled or moved pad loses its figures and records, its old line's urgent list loses it, and that line's
final poll list gains its old drop (R20); a changed group record returns headroom NONE and voltage NORMAL, any
other group keeps both but for a new hold time and a lost sample (R21, R22, R99, R100); the latch of a changed
input is cleared, one that enters its active level raises INPUT_EVENT, and a STOP input halts (R178, R196); the
capacities are formed anew (R23). Where no pass, halt or sweep follows, a kept pad changes by the increase
release alone, made when a pad was newly disabled or moved and no decrease is left pending (R79), and a bank
that changes no record has none of these effects (R15). What R19 does not name stays, and a clearing of what was
clear already is a clearing: the model's reading (log entry 18), as is that a group which loses samples is
evaluated once, on the set that is left (log entry 17). -/
def Obligations.ActivationTreatsPadsByClass : Prop :=
  (∀ (tag : Byte) (s : State) (p : PadId),
    s.tables.commit = .checking (crc s.tables.shadow.bytes) tag → validate s.tables.shadow = none →
    s.mode.engine = .halted → s.alloc.sweep = none → s.alloc.fastShed = .none →
    (∀ q : PadId, s.pads[q].grant = 0 ∧ s.pads[q].sent = 0) →
    ∃ t : State, exec .commitCheckEnd s = .next t ∧
      (let old := s.tables.active.padRec p
       let new := s.tables.shadow.padRec p
       (old.enabled = true → new.enabled = false →
          t.pads[p].state = .disabled ∧ t.pads[p].caps = none ∧ t.pads[p].dispatch = none
            ∧ t.pads[p].fault = none ∧ t.pads[p].failures = 0 ∧ t.pads[p].reservation = 0
            ∧ t.pads[p].overdraw = 0 ∧ t.pads[p].limit = s.pads[p].limit)
       ∧ (old.enabled = true → new.enabled = true → (old.line ≠ new.line ∨ old.drop ≠ new.drop) →
          t.pads[p].state = .empty ∧ t.pads[p].caps = none ∧ t.pads[p].dispatch = none
            ∧ t.pads[p].fault = none ∧ t.pads[p].failures = 0 ∧ t.pads[p].reservation = 0
            ∧ t.pads[p].report = none ∧ t.pads[p].overdraw = 0 ∧ t.pads[p].limit = none)
       ∧ (old.enabled = false → new.enabled = true →
          t.pads[p].state = .empty ∧ t.pads[p].failures = 0 ∧ t.pads[p].report = none
            ∧ t.pads[p].limit = s.pads[p].limit)
       ∧ (old.enabled = true → new.enabled = true → old.line = new.line → old.drop = new.drop →
          t.pads[p] = { s.pads[p] with sample := t.pads[p].sample }
            ∧ (t.pads[p].sample = s.pads[p].sample ∨ t.pads[p].sample = none))
       ∧ (old.enabled = false → new.enabled = false → t.pads[p] = s.pads[p])))
  ∧ ∀ (tag : Byte) (s : State),
    s.tables.commit = .checking (crc s.tables.shadow.bytes) tag → validate s.tables.shadow = none →
    s.alloc.sweep = none → s.alloc.fastShed ≠ .running →
    ∃ t : State, exec .commitCheckEnd s = .next t
      ∧ (∀ p : PadId, s.leavesAddress p = true →
          t.pads[p].grant = 0 ∧ t.pads[p].sent = 0 ∧ t.pads[p].prior = 0 ∧ t.pads[p].decPending = false
          ∧ t.pads[p].reservation = 0 ∧ t.pads[p].roundsLeft = 0 ∧ t.pads[p].caps = none
          ∧ t.pads[p].dispatch = none ∧ t.pads[p].delivered = 0 ∧ t.pads[p].remaining = 0
          ∧ t.pads[p].fault = none ∧ t.pads[p].failures = 0 ∧ t.pads[p].overdraw = 0
          ∧ t.pads[p].sample = none ∧ t.pads[p].docking = s.pads[p].docking
          ∧ t.pads[p].inScope = s.pads[p].inScope
          ∧ if (s.tables.shadow.padRec p).enabled then
              t.pads[p].state = .empty ∧ t.pads[p].limit = none ∧ t.pads[p].report = none
                ∧ t.pads[p].attempts = 0
            else t.pads[p].state = .disabled ∧ t.pads[p].limit = s.pads[p].limit)
      ∧ (∀ p : PadId, (s.padRec p).enabled = false → (s.tables.shadow.padRec p).enabled = true →
          t.pads[p].state = .empty ∧ t.pads[p].failures = 0 ∧ t.pads[p].report = none
          ∧ t.pads[p].limit = s.pads[p].limit ∧ t.pads[p].sample = none)
      ∧ (∀ p : PadId, s.staysAtAddress p = true →
          t.pads[p].caps = s.pads[p].caps ∧ t.pads[p].report = s.pads[p].report
          ∧ t.pads[p].limit = s.pads[p].limit ∧ t.pads[p].fault = s.pads[p].fault
          ∧ t.pads[p].failures = s.pads[p].failures ∧ t.pads[p].overdraw = s.pads[p].overdraw
          ∧ t.pads[p].attempts = s.pads[p].attempts ∧ t.pads[p].grant ≤ s.pads[p].grant
          ∧ t.pads[p].sample =
            if (s.padRec p).group = (s.tables.shadow.padRec p).group
                ∧ s.recordStays .feeder (s.padRec p).group.val = true then s.pads[p].sample
            else none)
      ∧ (∀ l : LineId,
          (∀ d : Nat, d ∈ t.lines[l].final ↔ d ∈ s.lines[l].final
            ∨ ∃ p : PadId, s.leavesAddress p = true ∧ (s.padRec p).line = l ∧ (s.padRec p).drop = d)
          ∧ s.lines[l].final <+: t.lines[l].final
          ∧ (s.lines[l].final.Nodup → t.lines[l].final.Nodup)
          ∧ (s.lines[l].urgent.filter fun p => !(s.leavesAddress p && (s.padRec p).line == l))
              <+: t.lines[l].urgent
          ∧ (∀ p : PadId, s.leavesAddress p = true → (s.padRec p).line = l → p ∉ t.lines[l].urgent)
          ∧ t.lines[l].position = s.lines[l].position ∧ t.lines[l].inFlight = s.lines[l].inFlight
          ∧ t.lines[l].wire = s.lines[l].wire)
      ∧ (∀ g : GroupId,
          (s.recordStays .feeder g.val = false →
            t.groups[g].headroom = 0 ∧ t.groups[g].age = 0 ∧ t.groups[g].hstate = .none
              ∧ t.groups[g].vstate = .normal)
          ∧ (s.recordStays .feeder g.val = true →
            t.groups[g].headroom = s.groups[g].headroom ∧ t.groups[g].age = s.groups[g].age
            ∧ t.groups[g].hstate =
              (if (siteView s.tables.shadow.site).holdTime ≠ s.site.holdTime ∧ s.groups[g].hstate = .fresh
                  ∧ 10 * (siteView s.tables.shadow.site).holdTime < s.groups[g].age then .stale
               else s.groups[g].hstate)
            ∧ (t.groups[g].hstate ≠ s.groups[g].hstate →
                noticeIn .headroomStale t.notices.pendingSet = true)
            ∧ (¬ s.sampleLeaves g → t.groups[g].vstate = s.groups[g].vstate)
            ∧ (s.sampleLeaves g → t.minVoltage g = none → t.groups[g].vstate = s.groups[g].vstate)
            ∧ ∀ v : Nat, s.sampleLeaves g → t.minVoltage g = some v →
                t.groups[g].vstate =
                  (voltageMove (s.tables.shadow.feederRec g) s.groups[g].vstate v).1)
          ∧ t.groups[g].shedInput = t.shedInputNow g
          ∧ t.groups[g].capacity = capacityOf (s.tables.shadow.feederRec g) t.groups[g])
      ∧ t.alloc.rotation =
          (if (siteView s.tables.shadow.site).head = s.site.head
              ∧ (siteView s.tables.shadow.site).tail = s.site.tail then s.alloc.rotation else 0)
      ∧ (∀ i : InputId,
          t.signals.latch[i] = (s.signals.latch[i] && s.recordStays .line i.val)
          ∧ (s.recordStays .line i.val = false →
              (s.tables.shadow.inputRec i).function ≠ .none →
              (s.tables.shadow.inputRec i).sense.activeLevel = some s.signals.taken[i] →
            noticeIn .inputEvent t.notices.pendingSet = true
            ∧ ((s.tables.shadow.inputRec i).function = .stop → t.mode.engine = .halted)))
      ∧ t.mode.stopLatch = t.stopLatchNow
      ∧ (s.alloc.fastShed = .none → t.alloc.fastShed = .none → s.mode.engine ≠ .discovering →
          t.mode.engine = s.mode.engine →
          (∀ p : PadId, s.staysAtAddress p = true →
            t.pads[p] =
              { s.pads[p] with
                sample := t.pads[p].sample
                sent :=
                  if (∃ q : PadId, s.leavesAddress q = true) ∧ (∀ q : PadId, t.pads[q].decPending = false)
                  then max s.pads[p].sent s.pads[p].grant else s.pads[p].sent })
          ∧ (s.tables.shadow = s.tables.active →
              t.pads = s.pads ∧ t.lines = s.lines ∧ t.alloc = s.alloc
              ∧ t.signals.latch = s.signals.latch ∧ t.time = s.time
              ∧ ∀ g : GroupId, t.groups[g].headroom = s.groups[g].headroom
                ∧ t.groups[g].age = s.groups[g].age ∧ t.groups[g].hstate = s.groups[g].hstate
                ∧ t.groups[g].vstate = s.groups[g].vstate))

/-! ## Time and the round -/

/-- TICK (R1, R95): the running time advances modulo 2^32, a started round timer counts down, and the age of
each FRESH or STALE group advances up to 65535. That a timer at 0 stays there until its expiry is taken (log
entry 7), and that a FRESH group whose age passes its limit at a tick stays FRESH until the command
HEADROOM_TURNS_STALE, where R95 turns it at that tick (log entry 8), are the model's choices. -/
def Obligations.TickAdvancesTimeAndAges : Prop :=
  ∀ s : State, exec .tick s = .next (driveOutputs
    ((s.withTime { running := s.time.running + 1, timer := s.time.timer.map fun n => n - 1 }).withGroups
      (s.groups.map fun x =>
        if x.hstate = .none then x else { x with age := min 65535 (x.age + 1) })))

/-- The expiry of the round timer in RUNNING (R57, R59, R60, R121): the timer is restarted; while a pass is
RUNNING the sweep start waits; otherwise the sweep starts, with the reservation countdown, the deadline
watch, and then the snapshot of the figures as they then stand. -/
def Obligations.ExpiryStartsTheSweep : Prop :=
  ∀ s : State, s.mode.engine = .running → s.time.timer = some 0 → s.alloc.sweep = none →
    (s.alloc.fastShed = .running →
      exec .roundTimerExpiry s = .next (driveOutputs
        ((s.withTime { s.time with timer := some s.site.period }).withAlloc
          { s.alloc with sweepWaiting := true })))
    ∧ (s.alloc.fastShed ≠ .running →
      ∃ (t : State) (x : Snapshot), exec .roundTimerExpiry s = .next t
        ∧ t.alloc = { s.alloc with sweep := some x, sweepWaiting := false }
        ∧ t.time = { s.time with timer := some s.site.period }
        ∧ x.bank = s.tables.active ∧ x.resolution = s.mode.resolution ∧ x.now = s.time.running
        ∧ (∀ g : GroupId, x.capacity[g] = s.groups[g].capacity)
        ∧ (∀ p : PadId,
            t.pads[p] =
              { s.pads[p] with
                roundsLeft := s.pads[p].roundsLeft - 1
                reservation := if s.pads[p].roundsLeft = 1 then 0 else s.pads[p].reservation
                dispatch := s.pads[p].dispatch.map fun d =>
                  { d with
                    missed := d.missed
                      || (timeLeft d.deadline s.time.running == 0 && decide (0 < s.pads[p].remaining)) }
                stayed := s.pads[p].state.served }
            ∧ x.pads[p] =
              { state := s.pads[p].state, inScope := s.pads[p].inScope, caps := s.pads[p].caps
                deadline := s.pads[p].dispatch.map Dispatch.deadline
                remaining := s.pads[p].remaining, accept := s.pads[p].report.map Report.accept
                limit := s.pads[p].limit, sent := s.pads[p].sent
                reservation := t.pads[p].reservation })
        ∧ ((∃ (p : PadId) (d : Dispatch), s.pads[p].dispatch = some d ∧ d.missed = false
              ∧ timeLeft d.deadline s.time.running = 0 ∧ 0 < s.pads[p].remaining) →
            noticeIn .deadlineMissed t.notices.pendingSet = true)
        ∧ t.tables = s.tables ∧ t.groups = s.groups ∧ t.lines = s.lines ∧ t.mode = s.mode
        ∧ t.notices.captures = s.notices.captures ∧ t.fleet.rx = s.fleet.rx)

/-- ISSUE_STAGE (R58, R73 to R75, R79, R86) in RUNNING: the sweep completes, the kept list becomes its list, the
round counter and the rotation offset advance, and each pad's need and urgency are those of its entry, or 0. A
held scope change is applied (R86, R176, R177): the scope is the one held and the marks are its pads; a pad that
loses its mark ends at grant 0, nothing sent, and a fall of its sent setpoint goes out from the urgent list. A
PENDING commit is activated. Without one, and where no pass runs or starts, each pad of the issue set that keeps
its mark holds its new grant, the list's result or 0, a fall is sent at once, and a rise waits while any decrease
is pending; every other pad that keeps its mark keeps its grant and state. -/
def Obligations.IssueStageIssuesTheGrants : Prop :=
  ∀ (s : State) (x : Snapshot), s.alloc.sweep = some x → s.mode.engine = .running →
    let middle := 64 - (siteView x.bank.site).head - (siteView x.bank.site).tail
    ∃ t : State, exec .issueStage s = .next t
      ∧ t.alloc.sweep = none ∧ t.mode.held = none
      ∧ t.alloc.rounds = s.alloc.rounds + 1
      ∧ t.alloc.kept = (orderList x s.alloc.rotation).map Entry.pad
      ∧ t.time.running = s.time.running ∧ t.fleet.rx = s.fleet.rx
      ∧ t.notices.captures = s.notices.captures
      ∧ (s.tables.commit = .pending →
          t.tables.active = s.tables.shadow ∧ t.tables.commit = .idle
          ∧ noticeIn .commitDone t.notices.pendingSet = true)
      ∧ (s.tables.commit ≠ .pending →
          t.alloc.rotation = (if middle = 0 then 0 else (s.alloc.rotation + 1) % middle)
          ∧ t.tables = s.tables ∧ t.time = s.time ∧ t.groups = s.groups
          ∧ t.mode = { s.mode with scope := s.mode.held.getD s.mode.scope, held := none })
      ∧ (s.mode.held = none →
          t.mode.scope = s.mode.scope ∧ ∀ p : PadId, t.pads[p].inScope = s.pads[p].inScope)
      ∧ (∀ held : Scope, s.mode.held = some held →
          t.mode.scope = held
          ∧ ∀ p : PadId,
            (t.pads[p].inScope = true ↔
              held = .full
              ∨ ∃ first last : PadId, held = .range first last ∧ first.val ≤ p.val ∧ p.val ≤ last.val)
            ∧ (s.pads[p].inScope = true → t.pads[p].inScope = false →
                t.pads[p].grant = 0
                ∧ (s.pads[p].stayed = true →
                    t.pads[p].sent = 0
                    ∧ (s.tables.commit ≠ .pending →
                        t.pads[p].state = .waiting
                        ∧ (0 < s.pads[p].sent →
                            t.pads[p].decPending = true ∧ s.pads[p].sent ≤ t.pads[p].prior
                            ∧ p ∈ t.lines[(s.padRec p).line].urgent)))))
      ∧ (∀ p : PadId,
          (∀ e : Entry, e ∈ orderList x s.alloc.rotation → e.pad = p →
            t.pads[p].need = e.need ∧ t.pads[p].urgency = e.urgency)
          ∧ ((∀ e : Entry, e ∈ orderList x s.alloc.rotation → e.pad ≠ p) →
            t.pads[p].need = 0 ∧ t.pads[p].urgency = 0)
          ∧ (s.tables.commit ≠ .pending →
            t.pads[p] =
              { s.pads[p] with
                inScope := t.pads[p].inScope, grant := t.pads[p].grant, sent := t.pads[p].sent
                prior := t.pads[p].prior, decPending := t.pads[p].decPending
                state := t.pads[p].state, need := t.pads[p].need, urgency := t.pads[p].urgency }))
      ∧ (∀ (p : PadId) (n : Nat),
          ((p, n) ∈ sweepGrants x s.alloc.rotation
            ∨ (n = 0 ∧ ∀ m : Nat, (p, m) ∉ sweepGrants x s.alloc.rotation)) →
          newGrant (sweepGrants x s.alloc.rotation) p = n
          ∧ (s.tables.commit ≠ .pending → s.alloc.fastShed ≠ .running → t.alloc.fastShed = .none →
            (s.pads[p].inScope = false ∨ t.pads[p].inScope = true) →
            (s.pads[p].stayed = true →
              t.pads[p].grant = n
              ∧ t.pads[p].state = (if 0 < n then .charging else .waiting)
              ∧ (n < s.pads[p].sent → t.pads[p].sent = n ∧ t.pads[p].decPending = true
                  ∧ t.pads[p].prior =
                    (if s.pads[p].decPending then max s.pads[p].prior s.pads[p].sent
                     else s.pads[p].sent))
              ∧ (s.pads[p].sent ≤ n →
                  t.pads[p].decPending = s.pads[p].decPending ∧ t.pads[p].prior = s.pads[p].prior
                  ∧ (t.anyPending = false → t.pads[p].sent = n)
                  ∧ (t.pads[p].sent = s.pads[p].sent ∨ t.pads[p].sent = n)
                  ∧ (s.mode.held = none → t.anyPending = true → t.pads[p].sent = s.pads[p].sent)))
            ∧ (s.pads[p].stayed = false →
              t.pads[p].grant = s.pads[p].grant ∧ t.pads[p].state = s.pads[p].state
              ∧ t.pads[p].decPending = s.pads[p].decPending ∧ t.pads[p].prior = s.pads[p].prior)))

/-- FAST_SHED_PASS_END (R84): a PENDING commit is activated. Without one, while some group or the site still
needs shedding a further pass follows, which leaves nothing that needs shedding where the kept list holds
every pad with a grant (the walk is made whole in that step: log entry 9), and a waiting sweep start goes on
waiting; otherwise the fast-shed state is NONE, the
increase release is made, and a waiting sweep start is taken. -/
def Obligations.PassEndReleasesOrRepeats : Prop :=
  ∀ s : State, s.alloc.fastShed = .running →
    (s.tables.commit = .pending →
      ∃ t : State, exec .fastShedPassEnd s = .next t ∧ t.tables.active = s.tables.shadow
        ∧ t.tables.commit = .idle ∧ noticeIn .commitDone t.notices.pendingSet = true)
    ∧ (s.tables.commit ≠ .pending → s.needsShed = true →
      ∃ t : State, exec .fastShedPassEnd s = .next t ∧ t.alloc = s.alloc
        ∧ (∀ p : PadId, t.pads[p].grant ≤ s.pads[p].grant ∧ t.pads[p].sent ≤ s.pads[p].sent)
        ∧ ((∀ p : PadId, 0 < s.pads[p].grant → p ∈ s.alloc.kept) →
            t.needsShed = false ∧ ∃ p : PadId, t.pads[p].grant < s.pads[p].grant)
        ∧ t.tables = s.tables ∧ t.groups = s.groups ∧ t.mode = s.mode ∧ t.time = s.time
        ∧ t.notices = s.notices ∧ t.fleet = s.fleet)
    ∧ (s.tables.commit ≠ .pending → s.needsShed = false → s.alloc.sweepWaiting = false →
      exec .fastShedPassEnd s = .next (driveOutputs
        ((s.withAlloc { s.alloc with fastShed := .none }).withPads
          (s.pads.map fun q =>
            { q with sent := if s.anyPending = false then max q.sent q.grant else q.sent }))))
    ∧ (s.tables.commit ≠ .pending → s.needsShed = false → s.alloc.sweepWaiting = true →
      ∃ (t : State) (x : Snapshot), exec .fastShedPassEnd s = .next t
        ∧ t.alloc = { s.alloc with fastShed := .none, sweepWaiting := false, sweep := some x }
        ∧ x.bank = s.tables.active ∧ x.now = s.time.running
        ∧ (∀ p : PadId, t.pads[p].grant = s.pads[p].grant
            ∧ t.pads[p].sent =
              (if s.anyPending = false then max s.pads[p].sent s.pads[p].grant else s.pads[p].sent)
            ∧ t.pads[p].state = s.pads[p].state)
        ∧ t.tables = s.tables ∧ t.groups = s.groups ∧ t.mode = s.mode ∧ t.time = s.time)

/-- The model's choice (log entry 7): an event whose occasion has not arisen changes nothing. -/
def Obligations.EventWithoutOccasionChangesNothing : Prop :=
  ∀ s : State,
    ((s.mode.engine ≠ .running ∨ s.time.timer ≠ some 0 ∨ s.alloc.sweep ≠ none) →
      exec .roundTimerExpiry s = .next (driveOutputs s))
    ∧ (s.alloc.sweep = none → exec .issueStage s = .next (driveOutputs s))
    ∧ (s.alloc.fastShed ≠ .running → exec .fastShedPassEnd s = .next (driveOutputs s))
    ∧ (s.tables.commit.isChecking = false → exec .commitCheckEnd s = .next (driveOutputs s))
    ∧ (s.fleet.sending = none → exec .frameTransmitEnd s = .next (driveOutputs s))
    ∧ ((s.fleet.sending ≠ none ∨ s.fleet.tx = []) →
      exec .frameTransmitStart s = .next (driveOutputs s))
    ∧ (∀ g : GroupId,
        (s.groups[g].hstate ≠ .fresh ∨ s.groups[g].age ≤ 10 * s.site.holdTime) →
        exec (.headroomTurnsStale g) s = .next (driveOutputs s))
    ∧ (∀ l : LineId, s.lines[l].inFlight = none →
        exec (.replyTimeout l) s = .next (driveOutputs s)
        ∧ ∀ rx : List RxChar, exec (.report l rx) s = .next (driveOutputs s)
            ∧ exec (.faultReport l rx) s = .next (driveOutputs s)
            ∧ exec (.caps l rx) s = .next (driveOutputs s)
            ∧ exec (.replyFailed l rx) s = .next (driveOutputs s))
    ∧ (∀ l : LineId, s.lines[l].mayStart = false → s.lines[l].busy = false →
        exec (.transactionStart l) s = .next (driveOutputs s))
    ∧ (∀ l : LineId, s.lines[l].breaking = false → s.lines[l].busy = false →
        exec (.lineBreakEnd l) s = .next (driveOutputs s))
    ∧ (s.fleet.receiver = .hunt → exec .fleetFrameAbort s = .next (driveOutputs s))
    ∧ (∀ i : InputId, s.signals.level[i] = s.signals.taken[i] →
        exec (.inputEdgeTaken i) s = .next (driveOutputs s))

/-! ## The sweep's figures -/

/-- Rule R64 whole: the remaining time is the difference modulo 2^32, and 0 where that is 2^31 or more, so
that a deadline equal to now, or passed by up to 2^31 ticks, leaves 0. -/
def Obligations.RemainingTimeOfADeadline : Prop :=
  ∀ deadline now : Ticks,
    ((deadline - now).toNat < 2 ^ 31 → timeLeft deadline now = (deadline - now).toNat)
    ∧ (2 ^ 31 ≤ (deadline - now).toNat → timeLeft deadline now = 0)
    ∧ ∀ k : Nat, k ≤ 2 ^ 31 → deadline + BitVec.ofNat 32 k = now → timeLeft deadline now = 0

/-- The need and the urgency of a pad of demand ceiling `d` (R65, R66): the least whole power that delivers
the remaining energy by the deadline, at most `d`, and the figure 256 n / d rounded down. -/
def Obligations.NeedAndUrgency : Prop :=
  ∀ (q : PadSnap) (now : Ticks) (d : Nat),
    ((q.deadline = none ∨ q.remaining = 0) → needOf q now d = 0)
    ∧ (∀ dl : Ticks, q.deadline = some dl → 0 < q.remaining → timeLeft dl now = 0 → needOf q now d = d)
    ∧ (∀ dl : Ticks, q.deadline = some dl → 0 < q.remaining → 0 < timeLeft dl now →
        ∃ n : Nat, needOf q now d = min d n ∧ 360 * q.remaining ≤ n * timeLeft dl now
          ∧ ∀ k : Nat, 360 * q.remaining ≤ k * timeLeft dl now → n ≤ k)
    ∧ needOf q now d ≤ d
    ∧ ∀ n : Nat, 0 < d → n ≤ d →
        urgencyOf n d * d ≤ 256 * n ∧ 256 * n < (urgencyOf n d + 1) * d ∧ urgencyOf n d ≤ 256

/-- The grant order list (R61, R67) holds each eligible pad once and no other, strictly in the order of
class ascending, urgency descending and rank ascending. Each entry's group, class, rank, capability record,
demand ceiling (R62), ramp cap (R63), need and urgency are those that the snapshot gives its pad. The ranks are those of R68: the head and tail regions
keep their numbers, the middle turns with the offset, and no two pads share a rank. -/
def Obligations.GrantOrderListSorted : Prop :=
  (∀ (x : Snapshot) (offset : Nat),
     ((orderList x offset).map Entry.pad).Nodup
     ∧ (∀ p : PadId, p ∈ (orderList x offset).map Entry.pad ↔
         (x.pads[p].state.served = true ∧ x.pads[p].inScope = true
           ∧ (x.bank.feederRec (x.bank.padRec p).group).enabled = true
           ∧ (x.pads[p].deadline.isSome = true ∨ (x.bank.padRec p).opportunity = true)
           ∧ ∃ (c : Capability) (d : Nat), x.pads[p].caps = some c
               ∧ demand (x.bank.padRec p) x.pads[p] = some d ∧ c.effMin ≤ d))
     ∧ (∀ e : Entry, e ∈ orderList x offset →
         e.group = (x.bank.padRec e.pad).group ∧ e.cls = (x.bank.padRec e.pad).cls
         ∧ e.rank = rankOf (siteView x.bank.site).head (siteView x.bank.site).tail offset e.pad.val
         ∧ x.pads[e.pad].caps = some e.caps
         ∧ ∃ a d : Nat, x.pads[e.pad].accept = some a
             ∧ d = min (min (x.bank.padRec e.pad).ceiling e.caps.vmax)
                 (min a (x.pads[e.pad].limit.getD a))
             ∧ demand (x.bank.padRec e.pad) x.pads[e.pad] = some d
             ∧ e.need = needOf x.pads[e.pad] x.now d ∧ e.urgency = urgencyOf e.need d
             ∧ e.ramped =
                 (if x.pads[e.pad].sent = 0 then min d (max e.caps.vmin (x.bank.feederRec e.group).ramp)
                  else min d (x.pads[e.pad].sent + (x.bank.feederRec e.group).ramp)))
     ∧ (orderList x offset).Pairwise fun a b =>
         a.cls < b.cls ∨ (a.cls = b.cls ∧ (b.urgency < a.urgency
           ∨ (a.urgency = b.urgency ∧ a.rank < b.rank))))
  ∧ (∀ H T o : Nat, H + T ≤ 64 →
       (∀ i : Nat, i < H → rankOf H T o i = i)
       ∧ (∀ i : Nat, H ≤ i → i < 64 - T →
           (rankOf H T o i : Int) = H + ((i : Int) - H - o) % ((64 - H - T : Nat) : Int))
       ∧ (∀ i : Nat, 64 - T ≤ i → rankOf H T o i = i)
       ∧ (∀ i j : Nat, i < 64 → j < 64 → rankOf H T o i = rankOf H T o j → i = j)
       ∧ ∀ i : Nat, i < 64 → rankOf H T o i < 64)

/-- Rounding of a grant (R71, R72): in STEPPED down to the grant step, 0 below the vehicle minimum; then
down to the largest tier, a multiple of the step in STEPPED; FINE without tiers leaves the value. -/
def Obligations.GrantsRoundDown : Prop :=
  ∀ (res : Resolution) (step v w : Nat) (c : Capability),
    w = (if res = .fine then v else if v / step * step < c.vmin then 0 else v / step * step) →
    roundGrant res step c v ≤ v
    ∧ (c.tiers = [] → roundGrant res step c v = w)
    ∧ (c.tiers ≠ [] →
        (roundGrant res step c v = 0
          ∨ (roundGrant res step c v ∈ c.tiers ∧ roundGrant res step c v ≤ w
            ∧ (res = .stepped → roundGrant res step c v % step = 0)))
        ∧ ∀ k : Nat, k ∈ c.tiers → k ≤ w → (res = .stepped → k % step = 0) →
            k ≤ roundGrant res step c v)

/-- What the two passes give (R60, R63, R69, R70). A sweep's new grants are those of pass 2 on the order list
after pass 1, from the capacities less the reservations. Pass 1 gives an entry its want, or what is left when
that is at least its minimum, rounded; pass 2 adds what its ramp cap and the capacities still allow, rounded,
or leaves it as it is. Within each group, and over the site, the new grants and
the reservations together stay within the effective capacity and the site limit, unless the reservations
alone are above; and each nonzero new grant is an eligible pad's, within its ramp cap and demand ceiling, a
tier where tiers are listed, a multiple of the step in STEPPED, and, where the sent setpoint and the tiers
are 0 or at least the vehicle minimum, at least that minimum (R72). -/
def Obligations.NewGrantsFitTheCapacities : Prop :=
  (∀ (x : Snapshot) (offset : Nat) (round : Capability → Nat → Nat) (w : Pool),
     round = roundGrant x.resolution (siteView x.bank.site).step →
     (∀ g : GroupId, w.group[g] = x.capacity[g]
       - padSum fun p => if (x.bank.padRec p).group = g then x.pads[p].reservation else 0) →
     w.site = (siteView x.bank.site).limit - padSum (fun p => x.pads[p].reservation) →
     sweepGrants x offset =
       passTwo round (passOne round w (orderList x offset)).2 (passOne round w (orderList x offset)).1)
  ∧ (∀ (round : Capability → Nat → Nat) (w : Pool) (e : Entry) (es : List Entry) (m want avail g : Nat),
     m = e.caps.vmin → want = (if e.need = 0 then 0 else min (max e.need m) e.ramped) →
     avail = min w.group[e.group] w.site →
     g = round e.caps (if want ≤ avail then want else if m ≤ avail then avail else 0) →
     passOne round w [] = ([], w)
     ∧ passOne round w (e :: es) =
       ((e, g) :: (passOne round
           { group := w.group.set e.group (w.group[e.group] - g), site := w.site - g } es).1,
         (passOne round { group := w.group.set e.group (w.group[e.group] - g), site := w.site - g } es).2))
  ∧ (∀ (round : Capability → Nat → Nat) (w : Pool) (e : Entry) (g extra g' : Nat)
       (es : List (Entry × Nat)),
     extra = min (e.ramped - g) (min w.group[e.group] w.site) →
     g' = (if g = 0 ∧ extra < e.caps.vmin then 0 else max g (round e.caps (g + extra))) →
     passTwo round w [] = []
     ∧ passTwo round w ((e, g) :: es) =
       (e.pad, g') :: passTwo round
         { group := w.group.set e.group (w.group[e.group] - (g' - g)), site := w.site - (g' - g) } es)
  ∧ ∀ (x : Snapshot) (offset : Nat),
    (∀ g : GroupId,
      padSum (fun p =>
          if (x.bank.padRec p).group = g then
            newGrant (sweepGrants x offset) p + x.pads[p].reservation else 0)
        ≤ max x.capacity[g]
            (padSum fun p => if (x.bank.padRec p).group = g then x.pads[p].reservation else 0))
    ∧ padSum (fun p => newGrant (sweepGrants x offset) p + x.pads[p].reservation)
        ≤ max (siteView x.bank.site).limit (padSum fun p => x.pads[p].reservation)
    ∧ ∀ p : PadId, 0 < newGrant (sweepGrants x offset) p →
        ∃ (c : Capability) (d : Nat), x.pads[p].caps = some c
          ∧ demand (x.bank.padRec p) x.pads[p] = some d
          ∧ x.pads[p].state.served = true ∧ x.pads[p].inScope = true
          ∧ newGrant (sweepGrants x offset) p
              ≤ rampCap d c.vmin x.pads[p].sent (x.bank.feederRec (x.bank.padRec p).group).ramp
          ∧ newGrant (sweepGrants x offset) p ≤ d
          ∧ (c.tiers ≠ [] → newGrant (sweepGrants x offset) p ∈ c.tiers)
          ∧ (x.resolution = .stepped →
              newGrant (sweepGrants x offset) p % (siteView x.bank.site).step = 0)
          ∧ ((x.pads[p].sent = 0 ∨ c.vmin ≤ x.pads[p].sent) → (∀ k : Nat, k ∈ c.tiers → c.vmin ≤ k) →
              c.vmin ≤ newGrant (sweepGrants x offset) p)

/-- A fast-shed pass over a kept list that holds every pad with a grant leaves no group and no site that
needs shedding, and raises no grant (R82, R83). It walks the groups in ascending number and then the site, each
from the last entry of the kept list toward its first. A pad of a group that needs shedding (R81), with a grant
above 0, is lowered by the decrease path to its grant less the excess, rounded under R71 and R72, or to 0 below
its effective minimum; once the total is within the limit no further pad is touched. The decrease path (R76)
sets the grant, sends a fall below the sent setpoint at once and makes a session WAITING at 0. That the walk is
made whole within the step that starts the pass is the model's reading (log entry 9), as is that a lowered grant
may stay above a demand that has fallen since the sweep (log entry 30). -/
def Obligations.PassLeavesNothingOver : Prop :=
  (∀ s : State, (∀ p : PadId, 0 < s.pads[p].grant → p ∈ s.alloc.kept) →
    (startPass s).needsShed = false
    ∧ (∀ p : PadId, (startPass s).pads[p].grant ≤ s.pads[p].grant)
    ∧ (startPass s).alloc = { s.alloc with fastShed := .running }
    ∧ (startPass s).groups = s.groups ∧ (startPass s).tables = s.tables)
  ∧ (∀ s : State, startPass s =
      siteWalk ([0, 1, 2, 3, 4, 5, 6, 7].foldl groupWalk
        (s.withAlloc { s.alloc with fastShed := .running })))
  ∧ (∀ (s : State) (g : GroupId),
      (s.alloc.kept = [] → groupWalk s g = s)
      ∧ ∀ (front : List PadId) (p : PadId), s.alloc.kept = front ++ [p] →
        let u : State :=
          if s.groupNeedsShed g = true ∧ s.inGroup g p = true ∧ 0 < s.pads[p].grant then
            decrease p (shedTo s p (s.groupTotal g - s.groups[g].capacity)) s
          else s
        groupWalk s g = (groupWalk (u.withAlloc { s.alloc with kept := front }) g).withAlloc s.alloc)
  ∧ (∀ s : State,
      (s.alloc.kept = [] → siteWalk s = s)
      ∧ ∀ (front : List PadId) (p : PadId), s.alloc.kept = front ++ [p] →
        let u : State :=
          if s.siteNeedsShed = true ∧ 0 < s.pads[p].grant then
            decrease p (shedTo s p (s.siteTotal - s.site.limit)) s
          else s
        siteWalk s = (siteWalk (u.withAlloc { s.alloc with kept := front })).withAlloc s.alloc)
  ∧ (∀ (s : State) (g : GroupId),
      let total : (PadId → Bool) → Nat := fun f =>
        ((List.finRange 64).map fun p =>
          if f p then s.pads[p].grant + s.pads[p].reservation else 0).sum
      s.groupTotal g = total (s.inGroup g) ∧ s.siteTotal = total (fun _ => true)
      ∧ (∀ p : PadId, s.inGroup g p = true ↔ (s.padRec p).enabled = true ∧ (s.padRec p).group = g)
      ∧ (s.anyPending = true ↔ ∃ p : PadId, s.pads[p].decPending = true)
      ∧ (s.groupNeedsShed g = true ↔ (s.feederRec g).enabled = true ∧ s.groups[g].capacity < s.groupTotal g
          ∧ ∃ p : PadId, s.inGroup g p = true ∧ 0 < s.pads[p].grant)
      ∧ (s.siteNeedsShed = true ↔ s.site.limit < s.siteTotal ∧ ∃ p : PadId, 0 < s.pads[p].grant)
      ∧ (s.needsShed = true ↔ s.siteNeedsShed = true ∨ ∃ h : GroupId, s.groupNeedsShed h = true))
  ∧ (∀ (s : State) (p : PadId) (c : Capability) (excess v : Nat), s.pads[p].caps = some c →
      v = roundGrant s.mode.resolution s.site.step c (s.pads[p].grant - excess) →
      (v < c.effMin → shedTo s p excess = 0) ∧ (c.effMin ≤ v → shedTo s p excess = v)
      ∧ (c.tiers = [] → c.effMin = c.vmin)
      ∧ ∀ k : Nat, k ∈ c.tiers → (∀ j : Nat, j ∈ c.tiers → k ≤ j) → c.effMin = max c.vmin k)
  ∧ ∀ (s : State) (p : PadId) (v : Nat),
      (decrease p v s).pads = s.pads.set p
        { s.pads[p] with
          grant := v, sent := min s.pads[p].sent v
          decPending := s.pads[p].decPending || decide (v < s.pads[p].sent)
          prior :=
            if v < s.pads[p].sent then
              if s.pads[p].decPending then max s.pads[p].prior s.pads[p].sent else s.pads[p].sent
            else s.pads[p].prior
          state :=
            if v = 0 ∧ (s.pads[p].state = .waiting ∨ s.pads[p].state = .charging) then .waiting
            else s.pads[p].state }
      ∧ (decrease p v s).lines = (tabulate 4 fun l => { s.lines[l] with urgent := urgentAfter s p v l })
      ∧ decrease p v s = (s.withPads (decrease p v s).pads).withLines (decrease p v s).lines

/-! ## Modes -/

/-- SET_MODE HALT (R86 to R88, R171): from RUNNING or DISCOVERING the engine is HALTED, the sweep and a pass are
abandoned, the timer is stopped, no pad has power or a reservation and none is CHARGING, every line is asked
for a break. A sweep that is abandoned ends with the held scope change applied: the scope is the one held and
the marks are its pads (R86, R176, R177). A PENDING commit is activated (R17), in the same event and after the
scope: the model's reading (log entry 16). The response carries the modes as they then stand, its scope and held
bytes those of ScopeIsHeldOrApplied. In HALTED nothing changes but for the response and the free values it
carries: the two pad bytes of a scope that is FULL (log entry 3). -/
def Obligations.HaltTakesAllPower : Prop :=
  ∀ (tag x y : Byte) (rest : List RxFrame) (s : State), s.takesNext 0x18 tag [0, x, y] rest →
    (s.mode.engine = .halted →
      exec (.setModeHalt tag [0, x, y]) s = .next (driveOutputs
        ((s.replied rest tag ([0x18, 0x00, 0, s.mode.resolution.code]
            ++ scopeBytes s.freeCount s.mode.scope
            ++ heldBytes (s.freeCount + 2) s.mode.held)).spend 4)))
    ∧ (s.mode.engine ≠ .halted →
      let n := s.freeCount
        + (if s.alloc.sweep.isSome = true ∧ s.mode.held.isSome = true then 1 else 0)
        + (if s.tables.commit = .pending then 1 else 0)
      ∃ t : State, exec (.setModeHalt tag [0, x, y]) s = .next t
        ∧ t.mode.engine = .halted ∧ t.mode.resolution = s.mode.resolution
        ∧ t.alloc.sweep = none ∧ t.alloc.fastShed = .none ∧ t.alloc.sweepWaiting = false
        ∧ t.alloc.rounds = s.alloc.rounds ∧ t.alloc.kept = s.alloc.kept
        ∧ t.time = { s.time with timer := none }
        ∧ (∀ p : PadId, t.pads[p].grant = 0 ∧ t.pads[p].sent = 0 ∧ t.pads[p].prior = 0
            ∧ t.pads[p].decPending = false ∧ t.pads[p].reservation = 0 ∧ t.pads[p].roundsLeft = 0
            ∧ t.pads[p].state ≠ .charging)
        ∧ (s.tables.commit ≠ .pending → ∀ p : PadId,
            t.pads[p].state = (if s.pads[p].state = .charging then .waiting else s.pads[p].state)
            ∧ t.pads[p].dispatch = s.pads[p].dispatch ∧ t.pads[p].caps = s.pads[p].caps
            ∧ t.pads[p].need = s.pads[p].need ∧ t.pads[p].urgency = s.pads[p].urgency
            ∧ t.pads[p].report = s.pads[p].report ∧ t.pads[p].limit = s.pads[p].limit)
        ∧ (∀ held : Scope, s.alloc.sweep.isSome = true → s.mode.held = some held →
            t.mode.scope = held ∧ t.mode.held = none
            ∧ ∀ p : PadId, t.pads[p].inScope = true ↔
                held = .full
                ∨ ∃ first last : PadId, held = .range first last ∧ first.val ≤ p.val ∧ p.val ≤ last.val)
        ∧ ((s.alloc.sweep = none ∨ s.mode.held = none) →
            t.mode.scope = s.mode.scope ∧ t.mode.held = s.mode.held
            ∧ ∀ p : PadId, t.pads[p].inScope = s.pads[p].inScope)
        ∧ (s.tables.commit = .pending →
            t.tables = { s.tables with
              active := s.tables.shadow, loaded := Vector.replicate 4 true, commit := .idle }
            ∧ noticeIn .commitDone t.notices.pendingSet = true)
        ∧ (s.tables.commit ≠ .pending →
            t.tables = s.tables ∧ t.groups = s.groups ∧ t.notices = s.notices
            ∧ t.signals = { s.signals with outputs := t.signals.outputs }
            ∧ t.mode.stopLatch = s.mode.stopLatch)
        ∧ (∀ l : LineId, t.lines[l].discovery = false ∧ t.lines[l].inFlight = s.lines[l].inFlight
            ∧ t.lines[l].position = s.lines[l].position
            ∧ (t.lines[l].breaking = true ∨ t.lines[l].breakPending = true))
        ∧ t.fleet.rx = rest
        ∧ (∀ item : TxItem,
            item = .response ⟨kindResponse, tag,
              [0x18, 0x00, 0, s.mode.resolution.code] ++ scopeBytes n t.mode.scope
                ++ heldBytes (n + 2) t.mode.held⟩ →
            t.fleet.tx.getLast? = some item
            ∧ t.fleet.tx.filter (fun i => !i.isNotice) =
                s.fleet.tx.filter (fun i => !i.isNotice) ++ [item]))

/-- SET_MODE RESUME (R172, R173): refused with NO_TABLES while a table is NOT_LOADED, then with STATE while
the stop latch is set or a level-sensed STOP input stands at its active level, HIGH or LOW as its sense says
(R191); from HALTED the engine is
DISCOVERING with a mark on each line that has members, or RUNNING with its first sweep where none has; in
RUNNING and DISCOVERING no change. The two pad bytes of a scope that is FULL in the response are free values
(log entry 3). -/
def Obligations.ResumeBeginsDiscovery : Prop :=
  (∀ s : State,
    (s.stopLevel = true ↔ ∃ i : InputId, (s.inputRec i).function = .stop
      ∧ (((s.inputRec i).sense = .levelHigh ∧ s.signals.taken[i] = true)
        ∨ ((s.inputRec i).sense = .levelLow ∧ s.signals.taken[i] = false)))
    ∧ (s.tables.allLoaded = true ↔ ∀ k : Fin 4, s.tables.loaded[k] = true))
  ∧ ∀ (tag x y : Byte) (rest : List RxFrame) (s : State), s.takesNext 0x18 tag [1, x, y] rest →
    (s.tables.allLoaded = false →
      exec (.setModeResume tag [1, x, y]) s = .next (driveOutputs (s.replied rest tag [0x18, 0x18])))
    ∧ (s.tables.allLoaded = true → (s.mode.stopLatch = true ∨ s.stopLevel = true) →
      exec (.setModeResume tag [1, x, y]) s = .next (driveOutputs (s.replied rest tag [0x18, 0x13])))
    ∧ (s.tables.allLoaded = true → s.mode.stopLatch = false → s.stopLevel = false →
        s.mode.engine ≠ .halted →
      exec (.setModeResume tag [1, x, y]) s = .next (driveOutputs
        ((s.replied rest tag ([0x18, 0x00, s.mode.engine.code, s.mode.resolution.code]
            ++ scopeBytes s.freeCount s.mode.scope
            ++ heldBytes (s.freeCount + 2) s.mode.held)).spend 4)))
    ∧ (s.tables.allLoaded = true → s.mode.stopLatch = false → s.stopLevel = false →
        s.mode.engine = .halted → (∃ l : LineId, s.members l ≠ []) →
      exec (.setModeResume tag [1, x, y]) s = .next (driveOutputs
        ((((s.replied rest tag ([0x18, 0x00, 1, s.mode.resolution.code]
            ++ scopeBytes s.freeCount s.mode.scope
            ++ heldBytes (s.freeCount + 2) s.mode.held)).spend 4).withMode
          { s.mode with engine := .discovering }).withLines
          (tabulate 4 fun l =>
            { s.lines[l] with
              discovery := decide (s.members l ≠ []), position := none
              inFlight := s.lines[l].inFlight.map fun tx => { tx with inDiscovery := false } }))))
    ∧ (s.tables.allLoaded = true → s.mode.stopLatch = false → s.stopLevel = false →
        s.mode.engine = .halted → (∀ l : LineId, s.members l = []) →
      ∃ t : State, exec (.setModeResume tag [1, x, y]) s = .next t
        ∧ t.mode = { s.mode with engine := .running } ∧ t.alloc.sweep.isSome = true
        ∧ t.time = { s.time with timer := some s.site.period }
        ∧ t.tables = s.tables ∧ t.groups = s.groups ∧ t.fleet.rx = rest
        ∧ ∀ l : LineId, t.lines[l].discovery = false ∧ t.lines[l].position = none)

/-- SET_MODE FINE and STEPPED (R175) store the resolution in any engine mode and change nothing else but for
the response and the free values it carries: the two pad bytes of a scope that is FULL (log entry 3). -/
def Obligations.ResolutionIsStored : Prop :=
  ∀ (tag x y : Byte) (rest : List RxFrame) (s : State),
    (s.takesNext 0x18 tag [2, x, y] rest →
      exec (.setModeFine tag [2, x, y]) s = .next (driveOutputs
        (((s.replied rest tag ([0x18, 0x00, s.mode.engine.code, 0]
            ++ scopeBytes s.freeCount s.mode.scope
            ++ heldBytes (s.freeCount + 2) s.mode.held)).spend 4).withMode
          { s.mode with resolution := .fine })))
    ∧ (s.takesNext 0x18 tag [3, x, y] rest →
      exec (.setModeStepped tag [3, x, y]) s = .next (driveOutputs
        (((s.replied rest tag ([0x18, 0x00, s.mode.engine.code, 1]
            ++ scopeBytes s.freeCount s.mode.scope
            ++ heldBytes (s.freeCount + 2) s.mode.held)).spend 4).withMode
          { s.mode with resolution := .stepped })))

/-- SET_MODE FULL and PARTIAL (R171, R176, R177): a range turned round or with a pad above 63 is refused with
RANGE, in every mode and during a sweep too. During a sweep the setting is held and the marks stay. Otherwise the
scope becomes the setting; FULL sets every mark, PARTIAL those from the first pad to the last, and clears every
other. A pad that loses its mark has its grant lowered to 0 by the decrease path, a CHARGING one becomes WAITING;
the fast-shed check follows (R81), and where it starts no pass and no check was pending, a pad that does not lose
its mark keeps its figures. The scope already in force leaves the marks. The response carries the modes as they
then stand: for FULL 4 and two bytes, for PARTIAL 5, the first and the last pad; then the held change as an
optional item (R162, R201). The two pad bytes of a scope that is FULL are free values (log entry 3). -/
def Obligations.ScopeIsHeldOrApplied : Prop :=
  (∀ (tag u v : Byte) (rest : List RxFrame) (s : State), s.takesNext 0x18 tag [5, u, v] rest →
     (v.toNat < u.toNat ∨ 63 < u.toNat ∨ 63 < v.toNat) →
     exec (.setModePartial tag [5, u, v]) s = .next (driveOutputs (s.replied rest tag [0x18, 0x12])))
  ∧ (∀ (tag a b : Byte) (rest : List RxFrame) (s : State) (c : Instr) (x : Scope),
    ((c = .setModeFull tag [4, a, b] ∧ x = .full ∧ s.takesNext 0x18 tag [4, a, b] rest)
      ∨ (c = .setModePartial tag [5, a, b] ∧ s.takesNext 0x18 tag [5, a, b] rest
        ∧ ∃ p q : PadId, p ≤ q ∧ a = byte1 p.val ∧ b = byte1 q.val ∧ x = .range p q)) →
    let modes : List Byte :=
      [0x18, 0x00,
       match s.mode.engine with | .halted => 0 | .discovering => 1 | .running => 2,
       match s.mode.resolution with | .fine => 0 | .stepped => 1]
    let scope : Nat → Scope → List Byte := fun n y =>
      match y with
      | .full => [4, Config.freeByte n, Config.freeByte (n + 1)]
      | .range first last => [5, byte1 first.val, byte1 last.val]
    let held : Nat → Option Scope → List Byte := fun n o =>
      match o with
      | none => [0, 0, 0, 0]
      | some y => 1 :: scope n y
    (s.alloc.sweep.isSome = true →
      exec c s = .next (driveOutputs
        (((s.replied rest tag (modes ++ scope s.freeCount s.mode.scope
            ++ held (s.freeCount + 2) (some x))).spend 4).withMode { s.mode with held := some x })))
    ∧ (s.alloc.sweep = none → s.mode.scope = x →
      exec c s = .next (driveOutputs
        ((s.replied rest tag (modes ++ scope s.freeCount s.mode.scope
            ++ held (s.freeCount + 2) s.mode.held)).spend 4)))
    ∧ (s.alloc.sweep = none → s.mode.scope ≠ x →
      ∃ t : State, exec c s = .next t ∧ t.mode = { s.mode with scope := x }
        ∧ t.fleet = (s.replied rest tag (modes ++ scope (s.freeCount + 1) x
            ++ held (s.freeCount + 3) s.mode.held)).fleet
        ∧ t.freeCount = s.freeCount + 5
        ∧ (∀ p : PadId,
            (t.pads[p].inScope = true ↔
              x = .full ∨ ∃ first last : PadId, x = .range first last ∧ first.val ≤ p.val ∧ p.val ≤ last.val)
            ∧ t.pads[p] =
              { s.pads[p] with
                inScope := t.pads[p].inScope, state := t.pads[p].state, grant := t.pads[p].grant
                sent := t.pads[p].sent, prior := t.pads[p].prior, decPending := t.pads[p].decPending }
            ∧ t.pads[p].grant ≤ s.pads[p].grant
            ∧ (s.pads[p].inScope = true → t.pads[p].inScope = false →
                t.pads[p].grant = 0
                ∧ (0 < s.pads[p].grant →
                    t.pads[p].state =
                      (if s.pads[p].state = .charging then .waiting else s.pads[p].state)
                    ∧ t.pads[p].sent = 0
                    ∧ (0 < s.pads[p].sent → t.pads[p].decPending = true
                        ∧ t.pads[p].prior =
                          (if s.pads[p].decPending then max s.pads[p].prior s.pads[p].sent
                           else s.pads[p].sent)
                        ∧ p ∈ t.lines[(s.padRec p).line].urgent)))
            ∧ (s.alloc.fastShed ≠ .pending → t.alloc.fastShed = s.alloc.fastShed →
                (s.pads[p].inScope = false ∨ t.pads[p].inScope = true) →
                t.pads[p] = { s.pads[p] with inScope := t.pads[p].inScope }))
        ∧ (t.alloc.fastShed = .none → t.needsShed = false)
        ∧ t.alloc = { s.alloc with fastShed := t.alloc.fastShed } ∧ t.groups = s.groups
        ∧ (∀ l : LineId, t.lines[l] = { s.lines[l] with urgent := t.lines[l].urgent })
        ∧ t.tables = s.tables ∧ t.time = s.time ∧ t.notices = s.notices
        ∧ t.signals = { s.signals with outputs := t.signals.outputs }))
  ∧ (∀ (n : Nat) (y : Scope) (first last : PadId),
      scopeBytes n .full = [4, Config.freeByte n, Config.freeByte (n + 1)]
      ∧ scopeBytes n (.range first last) = [5, byte1 first.val, byte1 last.val]
      ∧ heldBytes n none = [0, 0, 0, 0] ∧ heldBytes n (some y) = 1 :: scopeBytes n y)
  ∧ [EngineMode.halted, .discovering, .running].map EngineMode.code = [0, 1, 2]
  ∧ [Resolution.fine, .stepped].map Resolution.code = [0, 1]

/-- RESTART (R159, R179) is answered OK and waits; the end of its response brings the effect: every block as
R24, R55, R89, R97, R105, R147, R159, R179, R190 and R198 give. A NOTICE that waits is withdrawn and the pending
set is emptied; a level-sensed input with a function that stands at its active level then raises INPUT_EVENT into
it, which calls for a NOTICE (R190, R198). A frame being received, the final poll lists and the offered marks are
kept. Every line is asked for a break, which starts at once where no transaction is in flight, no break is being
sent and the line is not held busy (R131, R142). That the abandon marks are set then, and the urgent lists
emptied only by the break that follows, is the model's reading (log entry 22). The end of any other frame only
ends its transmission (R157). -/
def Obligations.RestartTakesEffectAtItsResponsesEnd : Prop :=
  (∀ (tag : Byte) (rest : List RxFrame) (s : State), s.takesNext 0x19 tag [] rest →
    exec (.restart tag []) s = .next (driveOutputs
      ((s.replied rest tag [0x19, 0x00]).withFleet
        { (s.replied rest tag [0x19, 0x00]).fleet with restartWaiting := true })))
  ∧ (∀ (f : TxFrame) (s : State), s.fleet.sending = some f → f.isRestart = false →
    exec .frameTransmitEnd s = .next (driveOutputs (s.withFleet { s.fleet with sending := none })))
  ∧ (∀ f : TxFrame, f.isRestart = true ↔ f.kind = 0x80 ∧ f.body = [0x19, 0x00])
  ∧ ∀ (tag : Byte) (s : State), s.fleet.sending = some ⟨kindResponse, tag, [0x19, 0x00]⟩ →
    let level : Prop := ∃ i : InputId, (s.inputRec i).function ≠ .none
      ∧ (((s.inputRec i).sense = .levelHigh ∧ s.signals.taken[i] = true)
        ∨ ((s.inputRec i).sense = .levelLow ∧ s.signals.taken[i] = false))
    ∃ t : State, exec .frameTransmitEnd s = .next t
      ∧ t.time = { s.time with timer := none }
      ∧ t.tables = { s.tables with shadow := s.tables.active, commit := .idle, window := none }
      ∧ (∀ p : PadId, t.pads[p] =
          { Pad.initial with state := if (s.padRec p).enabled then .empty else .disabled })
      ∧ t.alloc = { sweep := none, fastShed := .none, sweepWaiting := false, rotation := 0, rounds := 0
                    kept := [] }
      ∧ (∀ g : GroupId, t.groups[g].headroom = 0 ∧ t.groups[g].age = 0 ∧ t.groups[g].hstate = .none
          ∧ t.groups[g].vstate = .normal ∧ t.groups[g].shedInput = t.shedInputNow g
          ∧ t.groups[g].capacity = capacityOf (s.feederRec g) t.groups[g])
      ∧ (∀ l : LineId,
          t.lines[l] =
            { s.lines[l] with
              position := none, discovery := false
              abandon := s.lines[l].abandon || s.lines[l].inFlight.isSome
              good := 0, noisy := 0, corrupt := 0, wrong := 0, noReply := 0
              breaking := t.lines[l].breaking, breakPending := t.lines[l].breakPending }
          ∧ ((s.lines[l].inFlight = none ∧ s.lines[l].breaking = false ∧ s.lines[l].busy = false) →
              t.lines[l].breaking = true ∧ t.lines[l].breakPending = false)
          ∧ ((s.lines[l].inFlight ≠ none ∨ s.lines[l].breaking = true ∨ s.lines[l].busy = true) →
              t.lines[l].breaking = s.lines[l].breaking ∧ t.lines[l].breakPending = true))
      ∧ t.mode = { engine := .halted, resolution := .fine, scope := .full, held := none
                   stopLatch := false }
      ∧ t.fleet = { s.fleet with tx := t.fleet.tx, sending := none, corrupt := 0, dropped := 0
                                 restartWaiting := false }
      ∧ t.notices = { captures := [], nextSeq := 0, overflow := false, overflowCount := 0
                      pendingSet := t.notices.pendingSet, mask := 0 }
      ∧ (level → t.notices.pendingSet = 0x100#11
          ∧ t.fleet.tx = s.fleet.tx.filter (fun x => !x.isNotice) ++ [.notice])
      ∧ (¬ level → t.notices.pendingSet = 0
          ∧ t.fleet.tx = s.fleet.tx.filter (fun x => !x.isNotice))
      ∧ t.signals.taken = s.signals.taken ∧ t.signals.level = s.signals.level
      ∧ ∀ i : InputId, t.signals.latch[i] = false

/-! ## The fleet line -/

/-- The receiver of the fleet line (R149 to R152). It hunts for a start byte and ignores every other byte and
every damaged one; a frame ends where its length byte says; a good one joins the receive queue, or, at a full
queue, is dropped, counted and noticed; a damaged one, one whose length is above 240 and one that a gap breaks
off are counted CORRUPT, and the receiver hunts again. Bytes may come in any portions.
A kind that is raised and was not pending joins the pending set; unless it is masked it calls for a NOTICE, which
joins the transmit queue at its tail where none waits there; a kind already pending changes nothing (R158, R185,
R186; the kinds by the numbers of R200).
FRAME_TRANSMIT_START (R157, R158): the head RESPONSE goes out as formed, the waiting NOTICE with tag 0 and the
pending unmasked set as it then stands, or, when that set is empty, it is withdrawn unsent; that this step then
starts no other frame is the model's reading (log entry 11). Each byte on the line is ten bits (R148): a start
bit at space, the data bits least significant first, a stop bit at mark, a space taken there being a framing
error; that mark is written as 1 is the model's choice (log entry 28). -/
def Obligations.FleetFramesComeAndGo : Prop :=
  (∀ (s : State) (junk head body check : List RxByte) (a5 : RxByte) (d : List Byte) (good : Prop),
     s.fleet.receiver = .hunt → a5.data = 0xA5 → a5.framing = false → (∀ b : RxByte, b ∈ junk → b.data ≠ 0xA5 ∨ b.framing = true) →
     head.length = 3 → body.length ≤ 240 → check.length = 2 →
     d = (head ++ body).map RxByte.data → byteAt d 0 = byte1 body.length →
     (good ↔ (∀ b : RxByte, b ∈ head ++ body ++ check → b.framing = false)
       ∧ check.map RxByte.data = crcBytes (crc d)) →
     (good → s.fleet.rx.length < 4 →
       exec (.fleetFrameReceived (junk ++ [a5]) head body check []) s = .next (driveOutputs
         (s.withFleet { s.fleet with rx := s.fleet.rx ++ [⟨byteAt d 1, byteAt d 2, d.drop 3⟩] })))
     ∧ (good → 4 ≤ s.fleet.rx.length →
       ∃ t : State, exec (.fleetFrameReceived (junk ++ [a5]) head body check []) s = .next t
         ∧ t.fleet.receiver = .hunt
         ∧ t.fleet.rx = s.fleet.rx ∧ t.fleet.dropped = min 65535 (s.fleet.dropped + 1)
         ∧ t.fleet.corrupt = s.fleet.corrupt
         ∧ t.notices =
           { s.notices with pendingSet := s.notices.pendingSet ||| 0x400#11 }
         ∧ t.fleet.tx = s.fleet.tx ++
             (if s.notices.pendingSet.getLsbD 10 = false ∧ s.notices.mask.getLsbD 10 = false
                 ∧ TxItem.notice ∉ s.fleet.tx then [.notice] else [])
         ∧ t.pads = s.pads ∧ t.tables = s.tables ∧ t.alloc = s.alloc ∧ t.mode = s.mode)
     ∧ (¬ good →
       exec (.fleetFrameReceived (junk ++ [a5]) head body check []) s = .next (driveOutputs
         (s.withFleet { s.fleet with corrupt := min 65535 (s.fleet.corrupt + 1) }))))
  ∧ (∀ (s : State) (junk got : List RxByte) (a5 : RxByte), s.fleet.receiver = .hunt →
       a5.data = 0xA5 → a5.framing = false →
       (∀ b : RxByte, b ∈ junk → b.data ≠ 0xA5 ∨ b.framing = true) →
       exec (.fleetFrameReceived junk [] [] [] []) s = .next (driveOutputs s)
       ∧ ((got = [] ∨ ∃ (b : RxByte) (bs : List RxByte), got = b :: bs ∧ b.data.toNat ≤ 240
             ∧ got.length < b.data.toNat + 5) →
         exec (.fleetFrameReceived (junk ++ [a5]) got [] [] []) s = .next (driveOutputs
           (s.withFleet { s.fleet with receiver := .frame got }))))
  ∧ (∀ (s : State) (a b c d e x : List RxByte),
       exec (.fleetFrameReceived a b c d e) s = exec (.fleetFrameReceived (a ++ b ++ c ++ d ++ e) [] [] [] []) s
       ∧ ∃ t : State, exec (.fleetFrameReceived a [] [] [] []) s = .next t
           ∧ exec (.fleetFrameReceived x [] [] [] []) t = exec (.fleetFrameReceived (a ++ x) [] [] [] []) s)
  ∧ (∀ (s : State) (a5 b : RxByte), a5.data = 0xA5 → a5.framing = false → 240 < b.data.toNat →
       (s.fleet.receiver = .frame [] →
         exec (.fleetLengthAbove240 [b]) s = .next (driveOutputs (s.withFleet
           { s.fleet with receiver := .hunt, corrupt := min 65535 (s.fleet.corrupt + 1) })))
       ∧ (s.fleet.receiver = .hunt →
         exec (.fleetLengthAbove240 [a5, b]) s = .next (driveOutputs (s.withFleet
           { s.fleet with corrupt := min 65535 (s.fleet.corrupt + 1) }))))
  ∧ (∀ (s : State) (got : List RxByte), s.fleet.receiver = .frame got →
       exec .fleetFrameAbort s = .next (driveOutputs (s.withFleet
         { s.fleet with receiver := .hunt, corrupt := min 65535 (s.fleet.corrupt + 1) })))
  ∧ (∀ (rest : List TxItem) (s : State), s.fleet.sending = none →
       (∀ f : TxFrame, s.fleet.tx = .response f :: rest →
         exec .frameTransmitStart s = .next (driveOutputs
           (s.withFleet { s.fleet with tx := rest, sending := some f })))
       ∧ (s.fleet.tx = .notice :: rest → s.notices.pendingSet &&& ~~~s.notices.mask ≠ 0 →
         exec .frameTransmitStart s = .next (driveOutputs
           (s.withFleet
             { s.fleet with
               tx := rest
               sending := some
                 ⟨0x81, 0, bytes2 (s.notices.pendingSet &&& ~~~s.notices.mask).toNat⟩ })))
       ∧ (s.fleet.tx = .notice :: rest → s.notices.pendingSet &&& ~~~s.notices.mask = 0 →
         exec .frameTransmitStart s = .next (driveOutputs (s.withFleet { s.fleet with tx := rest }))))
  ∧ (∀ (f : TxFrame) (s : State),
       (s.fleet.sending = none → s.fleet.line = [])
       ∧ (s.fleet.sending = some f → s.fleet.line =
           (([0xA5, byte1 f.body.length, f.kind, f.tag] ++ f.body
             ++ crcBytes (crc ([byte1 f.body.length, f.kind, f.tag] ++ f.body))).map fleetChar)))
  ∧ (∀ (k : Notice) (s : State),
       (s.notices.pendingSet.getLsbD k.number = true → raise k s = s)
       ∧ (s.notices.pendingSet.getLsbD k.number = false →
         raise k s =
           (s.withNotices
             { s.notices with pendingSet := s.notices.pendingSet ||| 1#11 <<< k.number }).withFleet
             { s.fleet with
               tx := s.fleet.tx ++
                 (if s.notices.mask.getLsbD k.number = false ∧ TxItem.notice ∉ s.fleet.tx then [.notice]
                  else []) })
       ∧ ∀ set : BitVec 11, noticeIn k set = set.getLsbD k.number)
  ∧ [Notice.padFault, .padSilent, .padComplete, .deadlineMissed, .feederWarn, .feederShed, .headroomStale,
      .commitDone, .inputEvent, .captureOverflow, .requestDropped].map Notice.number =
      [0, 1, 2, 3, 4, 5, 6, 7, 8, 9, 10]
  ∧ ∀ (b : Byte) (x : RxByte),
      (fleetChar b).getLsbD 0 = false ∧ (fleetChar b).getLsbD 9 = true
      ∧ x.framing = !x.bits.getLsbD 9
      ∧ ∀ i : Nat, i < 8 →
          (fleetChar b).getLsbD (i + 1) = b.getLsbD i ∧ x.data.getLsbD i = x.bits.getLsbD (i + 1)

/-- READ_STATUS, READ_PAD, READ_FEEDER and READ_LINE (R161 to R167) return the items of their rules in the
order listed there, laid out as R201 and R202 give, and change nothing. The two pad bytes of a scope that is
FULL are free values, four uses to a READ_STATUS (log entry 3); the codes and widths that R201 gives by a
general rule are read in log entry 21, and POLL 0 and PROBE 1 is the model's reading (log entry 14). -/
def Obligations.ReadsReturnTheirData : Prop :=
  (∀ (tag : Byte) (rest : List RxFrame) (s : State), s.takesNext 0x28 tag [] rest →
     let count : (PadId → Bool) → Byte := fun f => BitVec.ofNat 8 ((List.finRange 64).filter f).length
     let total : (PadId → Nat) → Nat := fun f => ((List.finRange 64).map f).sum
     let scope : Nat → Scope → List Byte := fun n x => match x with
       | .full => [4, Config.freeByte n, Config.freeByte (n + 1)]
       | .range a b => [5, byte1 a.val, byte1 b.val]
     exec (.readStatus tag []) s = .next (driveOutputs ((s.replied rest tag
       (([0x28, 0x00] : List Byte)
         ++ ([match s.mode.engine with | .halted => 0 | .discovering => 1 | .running => 2,
             match s.mode.resolution with | .fine => 0 | .stepped => 1] : List Byte)
         ++ scope s.freeCount s.mode.scope
         ++ (match s.mode.held with
             | none => [0, 0, 0, 0]
             | some x => 1 :: scope (s.freeCount + 2) x)
         ++ [flagByte s.mode.stopLatch, flagByte s.tables.loaded[0], flagByte s.tables.loaded[1],
             flagByte s.tables.loaded[2], flagByte s.tables.loaded[3],
             match s.tables.commit with | .idle => 0 | .checking _ _ => 1 | .pending => 2]
         ++ (match s.tables.window with
             | none => [0, 0, 0, 0, 0, 0]
             | some w =>
               [1, match w.table with | .site => 0 | .feeder => 1 | .pad => 2 | .line => 3,
                byte1 w.first, byte1 w.last, byte1 w.cursor,
                match w.bank with | .shadow => 0 | .active => 1])
         ++ [flagByte s.alloc.sweep.isSome,
             match s.alloc.fastShed with | .none => 0 | .pending => 1 | .running => 2,
             byte1 s.alloc.rotation]
         ++ bytes4 s.alloc.rounds
         ++ [byte1 s.alloc.kept.length, count fun p => s.pads[p].decPending,
             count fun p => decide (s.pads[p].sent < s.pads[p].grant)]
         ++ bytes2 (total fun p => s.pads[p].grant) ++ bytes2 (total fun p => s.pads[p].reservation)
         ++ bytes4 s.time.running
         ++ (match s.time.timer with | none => [0, 0, 0] | some n => 1 :: bytes2 n)
         ++ [count fun p => s.pads[p].state == .disabled, count fun p => s.pads[p].state == .empty,
             count fun p => s.pads[p].state == .probing, count fun p => s.pads[p].state == .waiting,
             count fun p => s.pads[p].state == .charging, count fun p => s.pads[p].state == .complete,
             count fun p => s.pads[p].state == .releasing, count fun p => s.pads[p].state == .silent,
             count fun p => s.pads[p].state == .faulted]
         ++ bytes2 s.notices.pendingSet.toNat ++ bytes2 s.notices.mask.toNat
         ++ [flagByte (decide (TxItem.notice ∈ s.fleet.tx)), byte1 s.notices.captures.length,
             flagByte s.notices.overflow, byte1 s.notices.overflowCount, s.notices.nextSeq]
         ++ (List.finRange 8).map (fun i => flagByte s.signals.taken[i])
         ++ (List.finRange 8).map (fun i => flagByte s.signals.latch[i])
         ++ (List.finRange 8).map (fun i => flagByte s.signals.outputs[i])
         ++ bytes2 s.fleet.corrupt ++ bytes2 s.fleet.dropped ++ [byte1 rest.length])).spend 4)))
  ∧ (∀ (tag : Byte) (rest : List RxFrame) (s : State) (p : PadId),
       s.takesNext 0x29 tag [byte1 p.val] rest →
       let place : List PadId → List Byte := fun l =>
         match l.findIdx? fun q => q == p with | none => [0, 0] | some k => [1, byte1 (k + 1)]
       exec (.readPad tag [byte1 p.val]) s = .next (driveOutputs (s.replied rest tag
         ([0x29, 0x00]
           ++ (if (s.padRec p).enabled = true then
                 [1, byte1 (s.padRec p).line.val, byte1 (s.padRec p).drop, byte1 (s.padRec p).group.val,
                  byte1 (s.padRec p).cls]
               else [0, 0, 0, 0, 0])
           ++ [match s.pads[p].state with
               | .disabled => 0 | .empty => 1 | .probing => 2 | .waiting => 3 | .charging => 4
               | .complete => 5 | .releasing => 6 | .silent => 7 | .faulted => 8,
               flagByte s.pads[p].inScope, s.pads[p].docking, flagByte s.pads[p].inDocking,
               byte1 s.pads[p].attempts]
           ++ (match s.pads[p].fault with | none => [0, 0] | some c => [1, c])
           ++ (match s.pads[p].report with
               | none => 0 :: List.replicate 13 0
               | some r =>
                 [1, byte1 (r.present.toNat + 2 * r.closed.toNat + 4 * r.ready.toNat), r.docking]
                   ++ bytes2 r.applied ++ bytes2 r.metered ++ bytes2 r.voltage ++ bytes2 r.energy
                   ++ bytes2 r.accept ++ [r.charge])
           ++ (match s.pads[p].caps with
               | none => 0 :: List.replicate 26 0
               | some c =>
                 [1] ++ bytes2 c.vmax ++ bytes2 c.vmin
                   ++ [byte1 (c.vehicleId.isSome.toNat + 2 * c.battery.isSome.toNat)]
                   ++ bytes4 (c.vehicleId.getD 0) ++ bytes2 (c.battery.getD 0) ++ [byte1 c.tiers.length]
                   ++ (List.range 6).flatMap (fun k => bytes2 (c.tiers.getD k 0))
                   ++ [match c.source with | .vehicle => 0 | .default => 1, flagByte c.tiersIgnored])
           ++ (match s.pads[p].dispatch with
               | none => 0 :: List.replicate 13 0
               | some d =>
                 [1] ++ bytes2 d.target ++ bytes2 d.base ++ bytes4 d.deadline ++ [flagByte d.missed]
                   ++ bytes4 (BitVec.ofNat 32 (timeLeft d.deadline s.time.running)))
           ++ (match s.pads[p].limit with | none => [0, 0, 0] | some n => 1 :: bytes2 n)
           ++ bytes2 s.pads[p].need ++ bytes2 s.pads[p].urgency ++ bytes2 s.pads[p].grant
           ++ bytes2 s.pads[p].sent ++ bytes2 s.pads[p].prior ++ [flagByte s.pads[p].decPending]
           ++ bytes2 s.pads[p].reservation ++ [byte1 s.pads[p].roundsLeft]
           ++ place s.alloc.kept
           ++ bytes2 s.pads[p].delivered ++ bytes2 s.pads[p].remaining
           ++ [byte1 s.pads[p].overdraw, byte1 s.pads[p].failures]
           ++ place s.lines[(s.padRec p).line].urgent
           ++ (match s.pads[p].sample with | none => [0, 0, 0] | some v => 1 :: bytes2 v)))))
  ∧ (∀ (tag : Byte) (rest : List RxFrame) (s : State) (g : GroupId),
       s.takesNext 0x2A tag [byte1 g.val] rest →
       let mine : PadId → Bool := fun p => (s.padRec p).enabled && (s.padRec p).group == g
       exec (.readFeeder tag [byte1 g.val]) s = .next (driveOutputs (s.replied rest tag
         ([0x2A, 0x00, flagByte (s.feederRec g).enabled,
           match s.groups[g].hstate with | .none => 0 | .fresh => 1 | .stale => 2]
           ++ bytes2 s.groups[g].headroom ++ bytes2 s.groups[g].age
           ++ [match s.groups[g].vstate with | .normal => 0 | .warn => 1 | .shed => 2,
               byte1 (((List.finRange 64).filter mine).filterMap fun p => s.pads[p].sample).length]
           ++ (match (((List.finRange 64).filter mine).filterMap fun p => s.pads[p].sample).min? with
               | none => [0, 0, 0]
               | some v => 1 :: bytes2 v)
           ++ [flagByte s.groups[g].shedInput,
               flagByte (decide (s.groups[g].vstate = .shed ∨ s.groups[g].shedInput = true))]
           ++ bytes2 s.groups[g].capacity
           ++ bytes2 ((List.finRange 64).map fun p => if mine p then s.pads[p].grant else 0).sum
           ++ bytes2 ((List.finRange 64).map fun p => if mine p then s.pads[p].reservation else 0).sum
           ++ [byte1 ((List.finRange 64).filter mine).length,
               byte1 ((List.finRange 64).filter fun p =>
                 mine p && s.pads[p].state == .charging).length]))))
  ∧ (∀ (tag : Byte) (rest : List RxFrame) (s : State) (l : LineId),
       s.takesNext 0x2B tag [byte1 l.val] rest →
       ∃ drops : Nat,
         (∀ k : Nat, drops.testBit k = true ↔
           ∃ p : PadId, (s.padRec p).enabled = true ∧ (s.padRec p).line = l ∧ (s.padRec p).drop - 1 = k)
         ∧ exec (.readLine tag [byte1 l.val]) s = .next (driveOutputs (s.replied rest tag
           ([0x2B, 0x00] ++ bytes2 drops
             ++ (match s.lines[l].position with | none => [0, 0] | some d => [1, byte1 d])
             ++ [byte1 s.lines[l].urgent.length] ++ s.lines[l].urgent.map (fun p => byte1 p.val)
             ++ List.replicate (16 - s.lines[l].urgent.length) 0
             ++ [byte1 s.lines[l].final.length] ++ s.lines[l].final.map byte1
             ++ List.replicate (16 - s.lines[l].final.length) 0
             ++ (match s.lines[l].inFlight with
                 | none => [0, 0, 0, 0, 0, 0]
                 | some x =>
                   [1, byte1 x.drop]
                     ++ (match x.pad with | none => [1, 0] | some p => [0, byte1 p.val])
                     ++ [match x.request with | .poll => 0 | .probe => 1,
                         match x.slot with | .final => 0 | .urgent => 1 | .normal => 2])
             ++ [flagByte s.lines[l].abandon, flagByte s.lines[l].breakPending,
                 flagByte s.lines[l].discovery, flagByte s.lines[l].finalOffered,
                 flagByte s.lines[l].urgentOffered]
             ++ bytes2 s.lines[l].good ++ bytes2 s.lines[l].noisy ++ bytes2 s.lines[l].corrupt
             ++ bytes2 s.lines[l].wrong ++ bytes2 s.lines[l].noReply))))
  ∧ ∀ (n : Nat) (x : BitVec 32) (b : Bool),
      byte1 n = BitVec.ofNat 8 n ∧ bytes2 n = [BitVec.ofNat 8 (n / 256), BitVec.ofNat 8 n]
      ∧ bytes4 x = [BitVec.ofNat 8 (x.toNat / 16777216), BitVec.ofNat 8 (x.toNat / 65536),
          BitVec.ofNat 8 (x.toNat / 256), BitVec.ofNat 8 x.toNat]
      ∧ flagByte b = if b then 1 else 0

/-! ## Notices and captures -/

/-- READ_CAPTURE (R183) hands out and removes the oldest entry, reports the overflow figures and clears
them. ACK_NOTICES (R187) removes the named kinds from the pending set, SET_NOTICE_MASK (R188) replaces the
mask and calls for a NOTICE when a kind newly unmasked is pending; either withdraws a waiting NOTICE that no
kind is left for, in its own event, which is the model's reading where R158 names the moment its transmission
starts (log entry 11); each answers with the two sets; a set that names anything past the eleven kinds is
refused with RANGE. -/
def Obligations.CapturesAndNoticeSets : Prop :=
  (∀ (tag : Byte) (rest : List RxFrame) (s : State), s.takesNext 0x20 tag [] rest →
     (s.notices.captures = [] →
       exec (.readCapture tag []) s = .next (driveOutputs
         ((s.replied rest tag
           ([0x20, 0x00, 0, 0, if s.notices.overflow then 1 else 0, byte1 s.notices.overflowCount]
             ++ List.replicate 10 0)).withNotices
           { s.notices with overflow := false, overflowCount := 0 })))
     ∧ ∀ (e : CaptureEntry) (es : List CaptureEntry), s.notices.captures = e :: es →
       exec (.readCapture tag []) s = .next (driveOutputs
         ((s.replied rest tag
           ([0x20, 0x00, 1, byte1 es.length, if s.notices.overflow then 1 else 0,
             byte1 s.notices.overflowCount, e.seq, byte1 e.pad.val,
             if e.source = .charger then 0 else 1, e.code]
             ++ bytes2 e.power ++ bytes4 e.time)).withNotices
           { s.notices with captures := es, overflow := false, overflowCount := 0 })))
  ∧ (∀ (tag sh sl : Byte) (rest : List RxFrame) (s : State) (set : BitVec 11),
       set = BitVec.ofNat 11 (be16 sh sl) →
       (s.takesNext 0x21 tag [sh, sl] rest → be16 sh sl < 2048 →
         exec (.ackNotices tag [sh, sl]) s = .next (driveOutputs
           ((s.withFleet
             { s.fleet with
               rx := rest
               tx := (if s.notices.pendingSet &&& ~~~set &&& ~~~s.notices.mask = 0 then
                   s.fleet.tx.filter fun x => !x.isNotice else s.fleet.tx)
                 ++ [.response ⟨kindResponse, tag,
                     [0x21, 0x00] ++ bytes2 (s.notices.pendingSet &&& ~~~set).toNat
                       ++ bytes2 s.notices.mask.toNat⟩] }).withNotices
             { s.notices with pendingSet := s.notices.pendingSet &&& ~~~set })))
       ∧ (s.takesNext 0x22 tag [sh, sl] rest → be16 sh sl < 2048 →
         ∃ t : State, exec (.setNoticeMask tag [sh, sl]) s = .next t
           ∧ t.notices = { s.notices with mask := set }
           ∧ t.fleet.rx = rest
           ∧ t.fleet.tx = (if s.notices.pendingSet &&& ~~~set = 0 then
                 s.fleet.tx.filter fun x => !x.isNotice else s.fleet.tx)
               ++ (if s.notices.mask &&& ~~~set &&& s.notices.pendingSet ≠ 0
                     ∧ s.fleet.noticeWaiting = false then [.notice] else [])
               ++ [.response ⟨kindResponse, tag,
                   [0x22, 0x00] ++ bytes2 set.toNat ++ bytes2 s.notices.pendingSet.toNat⟩]
           ∧ t.pads = s.pads ∧ t.tables = s.tables ∧ t.alloc = s.alloc ∧ t.groups = s.groups
           ∧ t.lines = s.lines ∧ t.mode = s.mode ∧ t.time = s.time)
       ∧ (s.takesNext 0x21 tag [sh, sl] rest → 2048 ≤ be16 sh sl →
         exec (.ackNotices tag [sh, sl]) s = .next (driveOutputs (s.replied rest tag [0x21, 0x12])))
       ∧ (s.takesNext 0x22 tag [sh, sl] rest → 2048 ≤ be16 sh sl →
         exec (.setNoticeMask tag [sh, sl]) s = .next (driveOutputs (s.replied rest tag [0x22, 0x12]))))

/-! ## Signal lines -/

/-- A change of a pin's level changes that level alone (R191). An edge taken changes the taken level; it
sets the latch of an edge sense that it matches, and a latch newly set, or a level sense reaching its active
level, raises INPUT_EVENT, re-forms its owner's state and, for STOP, halts the engine (R178, R191 to R193).
A STOP edge that halts takes all power as HALT does, and a sweep that it abandons ends with the held scope change
applied (R86 to R88, R170, R177). One that halts the engine while a commit is PENDING brings that commit's activation in the same
event, the model's reading of sections 1.4 and 3.13 (R17, R86, R87; log entry 16).
CLEAR_INPUT (R195) clears a set latch of an edge-sensed input and re-forms its owner's state, and otherwise
changes nothing. An input is active by its latch or at its level (R191), a shed-input state and the stop latch
follow the inputs (R106, R168). -/
def Obligations.EdgesAreTakenAndCleared : Prop :=
  (∀ (i : InputId) (s : State),
     (∀ high : Bool, exec (.inputLineChange i high) s = .next (driveOutputs
       (s.withSignals { s.signals with level := s.signals.level.set i high })))
     ∧ (s.signals.level[i] ≠ s.signals.taken[i] →
         ((s.inputRec i).function = .none
           ∨ ((s.inputRec i).sense.isEdge = true
             ∧ ((s.inputRec i).sense.matches s.signals.level[i] = false ∨ s.signals.latch[i] = true))) →
       exec (.inputEdgeTaken i) s = .next (driveOutputs
         (s.withSignals { s.signals with taken := s.signals.taken.set i s.signals.level[i] })))
     ∧ (s.signals.level[i] ≠ s.signals.taken[i] → (s.inputRec i).function ≠ .none →
         s.tables.commit ≠ .pending →
       ∃ t : State, exec (.inputEdgeTaken i) s = .next t
         ∧ t.signals.taken = s.signals.taken.set i s.signals.level[i]
         ∧ t.signals.level = s.signals.level
         ∧ ((s.inputRec i).sense.isEdge = true → (s.inputRec i).sense.matches s.signals.level[i] = true →
             s.signals.latch[i] = false →
             t.signals.latch = s.signals.latch.set i true
             ∧ noticeIn .inputEvent t.notices.pendingSet = true
             ∧ ((s.inputRec i).function = .stop → t.mode.engine = .halted ∧ t.mode.stopLatch = true)
             ∧ ((s.inputRec i).function = .shed → t.groups[(s.inputRec i).group].shedInput = true))
         ∧ ((s.inputRec i).sense.activeLevel = some s.signals.level[i] →
             t.signals.latch = s.signals.latch
             ∧ noticeIn .inputEvent t.notices.pendingSet = true
             ∧ ((s.inputRec i).function = .stop → t.mode.engine = .halted)
             ∧ ((s.inputRec i).function = .shed → t.groups[(s.inputRec i).group].shedInput = true))
         ∧ ((s.inputRec i).sense.activeLevel = some (!s.signals.level[i]) →
             t.signals.latch = s.signals.latch ∧ t.notices = s.notices ∧ t.mode.engine = s.mode.engine
             ∧ ((s.inputRec i).function = .shed →
                 t.groups[(s.inputRec i).group].shedInput = t.shedInputNow (s.inputRec i).group))
         ∧ ((s.inputRec i).function ≠ .stop →
             t.mode = s.mode ∧ t.tables = s.tables ∧ t.time = s.time)
         ∧ ((s.inputRec i).function = .notify →
             t.pads = s.pads ∧ t.groups = s.groups ∧ t.alloc = s.alloc ∧ t.lines = s.lines))
     ∧ (s.signals.level[i] ≠ s.signals.taken[i] → (s.inputRec i).function ≠ .none →
         s.tables.commit = .pending →
         (((s.inputRec i).sense.matches s.signals.level[i] = true ∧ s.signals.latch[i] = false)
           ∨ (s.inputRec i).sense.activeLevel = some s.signals.level[i]) →
       ∃ t : State, exec (.inputEdgeTaken i) s = .next t
         ∧ t.signals.taken = s.signals.taken.set i s.signals.level[i]
         ∧ t.signals.level = s.signals.level
         ∧ noticeIn .inputEvent t.notices.pendingSet = true
         ∧ ((s.inputRec i).function = .stop → t.mode.engine = .halted
           ∧ (s.mode.engine ≠ .halted →
               t.tables.commit = .idle ∧ t.tables.active = s.tables.shadow))
         ∧ ((s.inputRec i).function = .shed →
             t.groups[(s.inputRec i).group].shedInput = true ∧ t.tables = s.tables))
     ∧ (s.signals.level[i] ≠ s.signals.taken[i] → (s.inputRec i).function = .stop →
         s.mode.engine ≠ .halted →
         (((s.inputRec i).sense.matches s.signals.level[i] = true ∧ s.signals.latch[i] = false)
           ∨ (s.inputRec i).sense.activeLevel = some s.signals.level[i]) →
       ∃ t : State, exec (.inputEdgeTaken i) s = .next t
         ∧ t.mode.engine = .halted ∧ t.mode.resolution = s.mode.resolution
         ∧ t.alloc.sweep = none ∧ t.alloc.fastShed = .none ∧ t.alloc.sweepWaiting = false
         ∧ t.alloc.rounds = s.alloc.rounds ∧ t.alloc.kept = s.alloc.kept
         ∧ t.time = { s.time with timer := none }
         ∧ (∀ p : PadId, t.pads[p].grant = 0 ∧ t.pads[p].sent = 0 ∧ t.pads[p].prior = 0
             ∧ t.pads[p].decPending = false ∧ t.pads[p].reservation = 0 ∧ t.pads[p].roundsLeft = 0
             ∧ t.pads[p].state ≠ .charging)
         ∧ (∀ l : LineId, t.lines[l].discovery = false ∧ t.lines[l].inFlight = s.lines[l].inFlight
             ∧ (t.lines[l].breaking = true ∨ t.lines[l].breakPending = true))
         ∧ (∀ held : Scope, s.alloc.sweep.isSome = true → s.mode.held = some held →
             t.mode.scope = held ∧ t.mode.held = none
             ∧ ∀ p : PadId, t.pads[p].inScope = true ↔
                 held = .full
                 ∨ ∃ first last : PadId, held = .range first last ∧ first.val ≤ p.val ∧ p.val ≤ last.val)
         ∧ ((s.alloc.sweep = none ∨ s.mode.held = none) →
             t.mode.scope = s.mode.scope ∧ t.mode.held = s.mode.held
             ∧ ∀ p : PadId, t.pads[p].inScope = s.pads[p].inScope)))
  ∧ (∀ (i : InputId) (tag : Byte) (rest : List RxFrame) (s : State),
       s.takesNext 0x0C tag [byte1 i.val] rest →
       ((s.signals.latch[i] = false ∨ (s.inputRec i).function = .none
           ∨ (s.inputRec i).sense.isEdge = false) →
         exec (.clearInput tag [byte1 i.val]) s = .next (driveOutputs
           (s.replied rest tag [0x0C, 0x00, flagByte s.signals.taken[i], flagByte s.signals.latch[i],
             flagByte (s.active i)])))
       ∧ (s.signals.latch[i] = true → (s.inputRec i).function ≠ .none →
           (s.inputRec i).sense.isEdge = true →
         ∃ t : State, exec (.clearInput tag [byte1 i.val]) s = .next t
           ∧ t.signals.latch = s.signals.latch.set i false ∧ t.signals.taken = s.signals.taken
           ∧ t.fleet = (s.replied rest tag [0x0C, 0x00, flagByte s.signals.taken[i], 0, 0]).fleet
           ∧ ((s.inputRec i).function = .stop → t.mode.stopLatch = t.stopLatchNow ∧ t.pads = s.pads)
           ∧ ((s.inputRec i).function = .shed →
               t.groups[(s.inputRec i).group].shedInput = t.shedInputNow (s.inputRec i).group)
           ∧ ((s.inputRec i).function ≠ .shed → t.groups = s.groups ∧ t.alloc = s.alloc)
           ∧ t.mode.engine = s.mode.engine ∧ t.tables = s.tables ∧ t.time = s.time
           ∧ t.notices = s.notices))
  ∧ (∀ (i : InputId) (g : GroupId) (s : State),
       (s.active i = true ↔ (s.inputRec i).function ≠ .none
         ∧ (((s.inputRec i).sense.isEdge = true ∧ s.signals.latch[i] = true)
           ∨ (s.inputRec i).sense.activeLevel = some s.signals.taken[i]))
       ∧ (s.shedInputNow g = true ↔ ∃ k : InputId, (s.inputRec k).function = .shed
           ∧ (s.inputRec k).group = g ∧ s.active k = true)
       ∧ (s.stopLatchNow = true ↔ ∃ k : InputId, (s.inputRec k).function = .stop
           ∧ (s.inputRec k).sense.isEdge = true ∧ s.signals.latch[k] = true))
  ∧ [Sense.rising, .falling, .both, .levelHigh, .levelLow].map (fun x =>
        (x.isEdge, x.matches true, x.matches false, x.activeLevel)) =
      [(true, true, false, none), (true, false, true, none), (true, true, true, none),
       (false, false, false, some true), (false, false, false, some false)]

/-! ## Pad lines -/

/-- TRANSACTION_START on an idle line (R130, R136 to R141): first the oldest drop of the final poll list,
with a POLL of setpoint 0, then the oldest pad of the urgent list with its sent setpoint, each list offered
while its mark is clear or the line has no members; otherwise the lowest member above the position or, with
none above it or no position, the lowest member (R137), with a PROBE in PROBING and a POLL in any other state, for
the pad at that drop (of two at one address, which R14 shuts out, the lower). Nothing but the line changes. What the offered marks become on a line
without members is the model's reading of R138 (log entry 20). The characters sent are those of R128 and R202,
the ninth bit 1 in the address character alone; that a start bit, at the space level, is written as 0 and a stop
bit, at the mark level, as 1 is the model's choice (log entry 28).
LINE_BREAK_END (R142): the line leaves the space level with its urgent list empty, and a break asked for
meanwhile follows at once. A line held busy after a reply of 300 characters (R131) is taken to have fallen idle
at a TRANSACTION_START or a LINE_BREAK_END, and a break that waited then starts: the model's choice (log
entry 29). -/
def Obligations.TurnsArePickedAndBreaksEnd : Prop :=
  (∀ (l : LineId) (s : State), s.lines[l].mayStart = true →
     (∀ (d : Nat) (ds : List Nat), s.lines[l].final = d :: ds →
         (s.lines[l].finalOffered = false ∨ s.members l = []) →
       exec (.transactionStart l) s = .next (driveOutputs (s.withLines (s.lines.set l
         { s.lines[l] with
           final := ds, finalOffered := true, busy := false
           inFlight := some
             { drop := d, pad := none, request := .poll, slot := .final
               timeout := s.site.replyTimeout, inDiscovery := false }
           wire := sentChars (pollFrame d 0 s.site.holdRounds s.site.period) }))))
     ∧ (∀ (p : PadId) (ps : List PadId),
         (s.lines[l].final = [] ∨ (s.lines[l].finalOffered = true ∧ s.members l ≠ [])) →
         s.lines[l].urgent = p :: ps → (s.lines[l].urgentOffered = false ∨ s.members l = []) →
       exec (.transactionStart l) s = .next (driveOutputs (s.withLines (s.lines.set l
         { s.lines[l] with
           urgent := ps, finalOffered := true, urgentOffered := true, busy := false
           inFlight := some
             { drop := (s.padRec p).drop, pad := some p, request := .poll, slot := .urgent
               timeout := s.site.replyTimeout, inDiscovery := false }
           wire := sentChars
             (pollFrame (s.padRec p).drop s.pads[p].sent s.site.holdRounds s.site.period) }))))
     ∧ (∀ (d : Nat) (p : PadId),
         (s.lines[l].final = [] ∨ (s.lines[l].finalOffered = true ∧ s.members l ≠ [])) →
         (s.lines[l].urgent = [] ∨ (s.lines[l].urgentOffered = true ∧ s.members l ≠ [])) →
         d ∈ s.members l →
         ((∃ k : Nat, s.lines[l].position = some k ∧ k < d ∧ ∀ m : Nat, m ∈ s.members l → k < m → d ≤ m)
           ∨ ((∀ k : Nat, s.lines[l].position = some k → ∀ m : Nat, m ∈ s.members l → m ≤ k)
             ∧ ∀ m : Nat, m ∈ s.members l → d ≤ m)) →
         (s.padRec p).enabled = true → (s.padRec p).line = l → (s.padRec p).drop = d →
         (∀ q : PadId, q < p → (s.padRec q).enabled = true → (s.padRec q).line = l → (s.padRec q).drop ≠ d) →
       exec (.transactionStart l) s = .next (driveOutputs (s.withLines (s.lines.set l
         { s.lines[l] with
           finalOffered := false, urgentOffered := false, position := some d, busy := false
           urgent :=
             if s.pads[p].state = .probing then s.lines[l].urgent
             else s.lines[l].urgent.filter fun q => decide (q ≠ p)
           inFlight := some
             { drop := d, pad := some p
               request := if s.pads[p].state = .probing then .probe else .poll
               slot := .normal, timeout := s.site.replyTimeout, inDiscovery := s.lines[l].discovery }
           wire := sentChars
             (if s.pads[p].state = .probing then probeFrame d
              else pollFrame d s.pads[p].sent s.site.holdRounds s.site.period) }))))
     ∧ (s.lines[l].final = [] → s.lines[l].urgent = [] → s.members l = [] →
       exec (.transactionStart l) s = .next (driveOutputs (s.withLines (s.lines.set l
         { s.lines[l] with busy := false })))))
  ∧ (∀ (l : LineId) (d : Nat) (s : State), d ∈ s.members l ↔
       ∃ p : PadId, (s.padRec p).enabled = true ∧ (s.padRec p).line = l ∧ (s.padRec p).drop = d)
  ∧ (∀ c : LineCtl, c.mayStart = true ↔
       c.inFlight = none ∧ c.breakPending = false ∧ c.breaking = false)
  ∧ (∀ (l : LineId) (s : State), s.lines[l].busy = true → s.lines[l].breakPending = true →
       s.lines[l].inFlight = none → s.lines[l].breaking = false →
       exec (.transactionStart l) s = .next (driveOutputs (s.withLines (s.lines.set l
         { s.lines[l] with busy := false, breakPending := false, breaking := true })))
       ∧ exec (.lineBreakEnd l) s = .next (driveOutputs (s.withLines (s.lines.set l
         { s.lines[l] with busy := false, breakPending := false, urgent := [] }))))
  ∧ (∀ (drop setpoint validity period : Nat) (a : Byte) (rest : List Byte) (n : Bool) (b : Byte),
       pollFrame drop setpoint validity period =
         [byte1 drop, 0x01] ++ bytes2 setpoint ++ [byte1 validity] ++ bytes2 period
           ++ crcBytes (crc ([byte1 drop, 0x01] ++ bytes2 setpoint ++ [byte1 validity] ++ bytes2 period))
       ∧ probeFrame drop = [byte1 drop, 0x02] ++ crcBytes (crc [byte1 drop, 0x02])
       ∧ sentChars (a :: rest) = sentChar true a :: rest.map (sentChar false)
       ∧ (sentChar n b).getLsbD 0 = false ∧ (sentChar n b).getLsbD 9 = n
       ∧ (sentChar n b).getLsbD 10 = true
       ∧ ∀ i : Nat, i < 8 → (sentChar n b).getLsbD (i + 1) = b.getLsbD i)
  ∧ (∀ (l : LineId) (s : State), s.lines[l].breaking = true →
       (s.lines[l].breakPending = false →
         exec (.lineBreakEnd l) s = .next (driveOutputs (s.withLines (s.lines.set l
           { s.lines[l] with breaking := false, busy := false, urgent := [] }))))
       ∧ (s.lines[l].breakPending = true → s.lines[l].inFlight = none →
         exec (.lineBreakEnd l) s = .next (driveOutputs (s.withLines (s.lines.set l
           { s.lines[l] with breakPending := false, busy := false, urgent := [] })))))

/-- Rules R132 and R133: the outcome of what is received in answer to a request, by the rows of R132's table in
their order. Characters before the first address character start no reply, and alone they are NO_REPLY (R130).
The reply is the first 300 characters from the address character on (R131). It is CORRUPT with a character before
it, a framing error, 300 characters, a check that fails, or a number of characters other than its kind and tier
count give, an unknown kind among them (R199, R202); that a second address character is such a case is read from
R131 (log entry 12). Otherwise it is WRONG_REPLY unless its kind is allowed for the request, its address character
has the reply mark, and its drop is the one addressed; NOISY with a noise mark on any character; and GOOD. GOOD and
NOISY are the good replies. Of the five kinds, POLL allows REPORT and FAULT_REPORT, and PROBE allows CAPS and
REPORT. -/
def Obligations.AllowedReplies : Prop :=
  (∀ k : Byte, k ∈ [linePoll, lineProbe, lineReport, lineFault, lineCaps] →
    (allowed .poll k = true ↔ k = lineReport ∨ k = lineFault)
    ∧ (allowed .probe k = true ↔ k = lineCaps ∨ k = lineReport)
    ∧ ∀ (tx : Transaction) (rx : List RxChar), replyChars rx ≠ [] → replyCorrupt rx = false →
        replyKind rx = k →
        (allowed tx.request k = false
          ∨ (byteAt (replyData rx) 0).toNat % 128 ≠ tx.drop) → classify tx rx = .wrongReply)
  ∧ [linePoll, lineProbe, lineReport, lineFault, lineCaps] = [0x01, 0x02, 0x11, 0x12, 0x13]
  ∧ (∀ o : LineOutcome, o.isGood = true ↔ o = .good ∨ o = .noisy)
  ∧ ∀ (tx : Transaction) (before rest : List RxChar) (a : RxChar),
    (∀ c : RxChar, c ∈ before → c.ninth = false) →
    replyChars before = [] ∧ classify tx before = .noReply
    ∧ (a.ninth = true →
      let rx := before ++ a :: rest
      let cs := (a :: rest).take 300
      let d := cs.map RxChar.data
      let fits : Prop := allowed tx.request (d.getD 1 0) = true ∧ 128 ≤ a.data.toNat
        ∧ a.data.toNat - 128 = tx.drop
      replyChars rx = cs ∧ replyKind rx = d.getD 1 0 ∧ replyBody rx = (d.drop 2).take (d.length - 4)
      ∧ (replyCorrupt rx = true ↔ CorruptReply before cs)
      ∧ (CorruptReply before cs → classify tx rx = .corrupt)
      ∧ (¬ CorruptReply before cs → ¬ fits → classify tx rx = .wrongReply)
      ∧ (¬ CorruptReply before cs → fits → (∃ c : RxChar, c ∈ cs ∧ c.noise = true) →
          classify tx rx = .noisy)
      ∧ (¬ CorruptReply before cs → fits → (∀ c : RxChar, c ∈ cs → c.noise = false) →
          classify tx rx = .good))

/-- Of each bit of a received character the value is that of two or three of its samples; samples that
disagree set the noise mark, and a stop bit taken as space is a framing error (R128, R129). An undamaged reply
of an allowed kind from the drop addressed is GOOD, and what it carries is read back as it was sent (R132,
R199, R202). A REPORT and a CAPS are read at the offsets of R202, most significant byte first, undefined status
and presence bits ignored; a battery capacity marked present with the value 0 is taken as absent (R35). That a bit of 1 stands at the mark level is the model's choice (log entry 28). -/
def Obligations.UndamagedReplyIsGood : Prop :=
  (∀ c : RxChar,
     (∀ (i : Nat) (v : Bool),
        ((c.first.getLsbD i = v ∧ c.second.getLsbD i = v) ∨ (c.first.getLsbD i = v ∧ c.third.getLsbD i = v)
          ∨ (c.second.getLsbD i = v ∧ c.third.getLsbD i = v)) → c.bits.getLsbD i = v)
     ∧ (∀ i : Nat, i < 8 → c.data.getLsbD i = c.bits.getLsbD (i + 1))
     ∧ c.ninth = c.bits.getLsbD 9 ∧ (c.framing = true ↔ c.bits.getLsbD 10 = false)
     ∧ (c.noise = true ↔ ∃ i : Nat, i < 11 ∧ (c.first.getLsbD i ≠ c.second.getLsbD i
         ∨ c.second.getLsbD i ≠ c.third.getLsbD i)))
  ∧ (∀ (n : Bool) (b : Byte), (cleanChar n b).data = b ∧ (cleanChar n b).ninth = n
     ∧ (cleanChar n b).framing = false ∧ (cleanChar n b).noise = false)
  ∧ (∀ (tx : Transaction) (kind : Byte) (body : List Byte), tx.drop < 128 →
    allowed tx.request kind = true →
    (kind = lineReport → body.length = 13) → (kind = lineFault → body.length = 4) →
    (kind = lineCaps → 12 ≤ body.length ∧ body.length = 12 + 2 * (byteAt body 11).toNat
        ∧ body.length < 296) →
    classify tx (goodReply tx.drop kind body) = .good
    ∧ replyKind (goodReply tx.drop kind body) = kind
    ∧ replyBody (goodReply tx.drop kind body) = body)
  ∧ ∀ b : List Byte,
    let w : Nat → Nat := fun i => 256 * (b.getD i 0).toNat + (b.getD (i + 1) 0).toNat
    reportOf b =
      { present := (b.getD 0 0).getLsbD 0, closed := (b.getD 0 0).getLsbD 1
        ready := (b.getD 0 0).getLsbD 2, docking := b.getD 1 0, applied := w 2, metered := w 4
        voltage := w 6, energy := w 8, accept := w 10, charge := b.getD 12 0 }
    ∧ (capsOf b).vmax = w 0 ∧ (capsOf b).vmin = w 2
    ∧ (capsOf b).id =
        (if (b.getD 4 0).getLsbD 0 = true then some (BitVec.ofNat 32 (w 5 * 65536 + w 7)) else none)
    ∧ (capsOf b).battery =
        (if (b.getD 4 0).getLsbD 1 = true ∧ w 9 ≠ 0 then some (w 9) else none)
    ∧ (capsOf b).tiers.length = (b.getD 11 0).toNat
    ∧ ∀ i : Nat, i < (b.getD 11 0).toNat → (capsOf b).tiers[i]? = some (w (12 + 2 * i))

/-- Every transaction that ends, by REPLY_TIMEOUT or with a reply of any kind and outcome, leaves its line with
nothing in flight and no abandon mark, its outcome counted in one of the five counters, up to 65535, unless it was
abandoned, and a break that waits started (R134, R142, R143; `State.ended` has the line whole). An outcome that
reaches no pad, of an abandoned transaction (R143), of one sent for none (R141), or of one whose pad has left the
address or is DISABLED (R20, R134), changes nothing but the line. Characters without an address character start no
reply (R130). A failed transaction that reaches its pad is counted there; a pad whose count reaches the miss limit
becomes SILENT, holding as its reservation the larger of its sent setpoint and an unconfirmed prior setpoint, its
sample leaving its group's set, on whose remaining samples the group is evaluated (R48, R80, R99, R100); one that
does not stays as it was, but that in PROBING a failed PROBE is a failed attempt, the last of which takes the
default record or faults the pad with NO_CAPS (R37). A reply of 300 characters is CORRUPT and leaves the line busy,
so that a break that waits does not start (R131); any other end lets it start, whatever late characters the line
may carry: the model's reading (log entry 31). -/
def Obligations.FailedTransactionsAreCounted : Prop :=
  (∀ (tx : Transaction) (rx : List RxChar), 300 ≤ (replyChars rx).length → classify tx rx = .corrupt)
  ∧ (∀ x : SessionState, x.maySilence = true ↔ x ≠ .disabled ∧ x ≠ .silent ∧ x ≠ .faulted)
  ∧ (∀ (l : LineId) (tx : Transaction) (rx : List RxChar) (s : State) (c : Instr),
    s.lines[l].inFlight = some tx → endsTransaction c l rx →
    (∃ t : State, exec c s = .next t ∧ LineEnded s t l tx rx)
    ∧ (s.discards l tx → s.marksRemain l tx →
        exec c s = .next (driveOutputs (s.withLines (s.lines.set l (s.ended l tx rx))))))
  ∧ (∀ (l : LineId) (rx : List RxChar) (s : State) (c : Instr),
    (c = .report l rx ∨ c = .faultReport l rx ∨ c = .caps l rx ∨ c = .replyFailed l rx) →
    replyChars rx = [] → exec c s = .next (driveOutputs s))
  ∧ ∀ (l : LineId) (tx : Transaction) (rx : List RxChar) (s : State) (c : Instr) (o : LineOutcome),
    s.lines[l].inFlight = some tx →
    ((c = .replyTimeout l ∧ o = .noReply)
      ∨ (c = .replyFailed l rx ∧ o = classify tx rx ∧ (o = .corrupt ∨ o = .wrongReply))) →
    ∀ p : PadId, s.awaits l tx p →
      ∃ t : State, exec c s = .next t ∧ SameElsewhere s t l (some p)
        ∧ t.pads[p].failures = min 255 (s.pads[p].failures + 1)
        ∧ ((s.pads[p].state.maySilence = true → t.pads[p].failures < s.site.missLimit) →
            (s.pads[p].state ≠ .probing ∨ tx.request = .poll) →
            t.pads[p] = { s.pads[p] with failures := t.pads[p].failures } ∧ t.groups = s.groups)
        ∧ (s.pads[p].state = .probing → tx.request = .probe → t.pads[p].failures < s.site.missLimit →
            t.groups = s.groups
            ∧ (s.pads[p].attempts + 1 < s.site.probeAttempts →
                t.pads[p] = { s.pads[p] with
                  failures := t.pads[p].failures, attempts := s.pads[p].attempts + 1 })
            ∧ (s.site.probeAttempts ≤ s.pads[p].attempts + 1 →
                ((s.padRec p).assumeDefault = true →
                  t.pads[p].caps = some
                    { vmax := s.site.defMax, vmin := s.site.defMin, vehicleId := none, battery := none
                      tiers := [], source := .default, tiersIgnored := false }
                  ∧ t.pads[p].state =
                    (if s.pads[p].dispatch.isSome ∧ s.pads[p].remaining = 0 then .complete else .waiting))
                ∧ ((s.padRec p).assumeDefault = false →
                  t.pads[p].state = .faulted ∧ t.pads[p].fault = some 129
                  ∧ noticeIn .padFault t.notices.pendingSet = true)))
        ∧ (∀ g : GroupId, g ≠ (s.padRec p).group → t.groups[g] = s.groups[g])
        ∧ (s.pads[p].state.maySilence = true → s.site.missLimit ≤ t.pads[p].failures →
            ((s.pads[p].sample = none
                ∨ ∀ q : PadId, q ≠ p → s.inGroup (s.padRec p).group q = true → s.pads[q].sample = none) →
              t.groups = s.groups)
            ∧ (s.pads[p].sample.isSome = true →
                (∃ q : PadId, q ≠ p ∧ s.inGroup (s.padRec p).group q = true
                  ∧ s.pads[q].sample.isSome = true) →
              GroupEvaluated s t (s.padRec p).group))
        ∧ (s.pads[p].state.maySilence = true → s.site.missLimit ≤ t.pads[p].failures →
            t.pads[p].state = .silent
            ∧ t.pads[p].reservation =
                max s.pads[p].sent (if s.pads[p].decPending then s.pads[p].prior else 0)
            ∧ t.pads[p].roundsLeft = s.site.holdRounds
            ∧ t.pads[p].grant = 0 ∧ t.pads[p].sent = 0 ∧ t.pads[p].prior = 0
            ∧ t.pads[p].decPending = false ∧ t.pads[p].overdraw = 0 ∧ t.pads[p].sample = none
            ∧ t.pads[p].dispatch = s.pads[p].dispatch ∧ t.pads[p].caps = s.pads[p].caps
            ∧ noticeIn .padSilent t.notices.pendingSet = true)

/-- A good REPORT moves the session (R26, R34, R38, R44 to R46, R50): an EMPTY pad with a vehicle becomes
PROBING; a WAITING, CHARGING, COMPLETE or RELEASING one without a vehicle EMPTY, and with another docking
count PROBING with its dispatch dropped; a PROBING one without a vehicle EMPTY, with another docking count
PROBING afresh with its dispatch dropped, and with the count seen unchanged after a POLL and one failed attempt
on after a PROBE (R37, R135); a SILENT one ends its silence by the docking count and gives up its reservation: with
the same count and a capability record it is WAITING with its dispatch and records kept, or COMPLETE where the
completion check finds no energy left, before the report's energy is counted or after it (R26, R41, R50, R114);
the overdraw check of a session then WAITING may fault it (R117, R118).
In every case the report's voltage is the pad's sample, and its group is evaluated: its voltage state, shed
active and its effective capacity (R92, R98 to R104, R107). The line's transaction has ended, counted GOOD or
NOISY, as `State.ended` has it (R134, R142). -/
def Obligations.ReportMovesTheSession : Prop :=
  ∀ (l : LineId) (tx : Transaction) (rx : List RxChar) (p : PadId) (r : Report) (s : State),
    s.replyReaches l tx rx p lineReport → r = reportOf (replyBody rx) →
    ∃ t : State, exec (.report l rx) s = .next t ∧ SameElsewhere s t l (some p)
      ∧ LineEnded s t l tx rx
      ∧ t.pads[p].report = some r ∧ t.pads[p].failures = 0 ∧ t.pads[p].limit = s.pads[p].limit
      ∧ t.pads[p].inScope = s.pads[p].inScope
      ∧ (s.pads[p].state = .empty → r.present = true →
          t.pads[p].state = .probing ∧ t.pads[p].docking = r.docking ∧ t.pads[p].caps = none
          ∧ t.pads[p].attempts = 0 ∧ t.pads[p].inDocking = true)
      ∧ (s.pads[p].state = .empty → r.present = false →
          t.pads[p].state = .empty ∧ t.pads[p].docking = s.pads[p].docking)
      ∧ ((s.pads[p].state = .waiting ∨ s.pads[p].state = .charging ∨ s.pads[p].state = .complete) →
          r.present = false →
          t.pads[p].state = .empty ∧ t.pads[p].dispatch = none ∧ t.pads[p].caps = none
          ∧ t.pads[p].grant = 0 ∧ t.pads[p].sent = 0 ∧ t.pads[p].prior = 0
          ∧ t.pads[p].decPending = false ∧ t.pads[p].overdraw = 0 ∧ t.pads[p].inDocking = false)
      ∧ ((s.pads[p].state = .releasing ∨ s.pads[p].state = .probing) → r.present = false →
          t.pads[p].state = .empty ∧ t.pads[p].dispatch = none ∧ t.pads[p].caps = none)
      ∧ ((s.pads[p].state = .waiting ∨ s.pads[p].state = .charging ∨ s.pads[p].state = .complete
            ∨ s.pads[p].state = .releasing) → r.present = true → r.docking ≠ s.pads[p].docking →
          t.pads[p].state = .probing ∧ t.pads[p].docking = r.docking ∧ t.pads[p].dispatch = none
          ∧ t.pads[p].caps = none ∧ t.pads[p].grant = 0 ∧ t.pads[p].sent = 0
          ∧ t.pads[p].attempts = 0)
      ∧ (s.pads[p].state = .probing → r.present = true → r.docking ≠ s.pads[p].docking →
          t.pads[p].state = .probing ∧ t.pads[p].docking = r.docking ∧ t.pads[p].dispatch = none
          ∧ t.pads[p].delivered = 0 ∧ t.pads[p].remaining = 0 ∧ t.pads[p].attempts = 0
          ∧ t.pads[p].fault = s.pads[p].fault)
      ∧ (s.pads[p].state = .probing → r.present = true → r.docking = s.pads[p].docking →
          (tx.request = .poll → t.pads[p].state = .probing ∧ t.pads[p].attempts = s.pads[p].attempts
            ∧ t.pads[p].docking = s.pads[p].docking ∧ t.pads[p].dispatch = s.pads[p].dispatch)
          ∧ (tx.request = .probe → s.pads[p].attempts + 1 < s.site.probeAttempts →
            t.pads[p].state = .probing ∧ t.pads[p].attempts = s.pads[p].attempts + 1
            ∧ t.pads[p].docking = s.pads[p].docking ∧ t.pads[p].dispatch = s.pads[p].dispatch)
          ∧ (tx.request = .probe → s.site.probeAttempts ≤ s.pads[p].attempts + 1 →
            ((s.padRec p).assumeDefault = true →
              t.pads[p].caps = some
                { vmax := s.site.defMax, vmin := s.site.defMin, vehicleId := none, battery := none
                  tiers := [], source := .default, tiersIgnored := false }
              ∧ (t.pads[p].state = .waiting ∨ t.pads[p].state = .complete ∨ t.pads[p].state = .faulted))
            ∧ ((s.padRec p).assumeDefault = false →
              t.pads[p].state = .faulted ∧ t.pads[p].fault = some 129)))
      ∧ t.pads[p].sample = some r.voltage
      ∧ GroupEvaluated s t (s.padRec p).group
      ∧ (∀ g : GroupId,
          (t.minVoltage g = none ↔ ∀ q : PadId, t.inGroup g q = true → t.pads[q].sample = none)
          ∧ ∀ m : Nat, t.minVoltage g = some m ↔
              (∃ q : PadId, t.inGroup g q = true ∧ t.pads[q].sample = some m)
              ∧ ∀ (q : PadId) (v : Nat), t.inGroup g q = true → t.pads[q].sample = some v → m ≤ v)
      ∧ (∀ g : GroupId, g ≠ (s.padRec p).group → t.groups[g] = s.groups[g])
      ∧ (s.pads[p].state = .silent →
          t.pads[p].reservation = 0 ∧ t.pads[p].roundsLeft = 0
          ∧ (r.present = false → t.pads[p].state = .empty ∧ t.pads[p].dispatch = none)
          ∧ (r.present = true → (r.docking ≠ s.pads[p].docking ∨ s.pads[p].caps = none) →
              t.pads[p].state = .probing ∧ t.pads[p].docking = r.docking
              ∧ t.pads[p].dispatch = none)
          ∧ (r.present = true → r.docking = s.pads[p].docking → s.pads[p].caps.isSome = true →
              let f := s.feederRec (s.padRec p).group
              let excess := decide
                ((if s.pads[p].decPending then s.pads[p].prior else s.pads[p].sent) + f.tolerance < r.metered)
              let reached := excess && decide (f.overdrawLimit ≤ s.pads[p].overdraw + 1)
              t.pads[p].caps = s.pads[p].caps ∧ t.pads[p].docking = s.pads[p].docking
              ∧ t.pads[p].dispatch = s.pads[p].dispatch
              ∧ ((s.pads[p].dispatch = none ∨ 0 < s.pads[p].remaining) →
                  t.pads[p].overdraw = (if excess then s.pads[p].overdraw + 1 else 0)
                  ∧ (reached = true → t.pads[p].state = .faulted ∧ t.pads[p].fault = some 128))
              ∧ (s.pads[p].dispatch = none → reached = false → t.pads[p].state = .waiting)
              ∧ ∀ d : Dispatch, s.pads[p].dispatch = some d →
                  t.pads[p].delivered = (r.energy + 65536 - d.base) % 65536
                  ∧ t.pads[p].remaining = d.target - (r.energy + 65536 - d.base) % 65536
                  ∧ ((s.pads[p].remaining = 0
                        ∨ (reached = false ∧ d.target ≤ (r.energy + 65536 - d.base) % 65536)) →
                      t.pads[p].state = .complete ∧ noticeIn .padComplete t.notices.pendingSet = true)
                  ∧ (0 < s.pads[p].remaining → reached = false →
                      (r.energy + 65536 - d.base) % 65536 < d.target → t.pads[p].state = .waiting)))
      ∧ (s.pads[p].state = .faulted →
          t.pads[p].state = .faulted ∧ t.pads[p].fault = s.pads[p].fault)

/-- A good REPORT of a vehicle that stays in WAITING or CHARGING, where no fast-shed pass walks in its event
(R41, R52, R78, R98, R114, R117, R118): the delivered and remaining energy follow the report, a draw past
the reference and the tolerance is counted and at the limit faults the pad with OVERDRAW, a dispatch met
becomes COMPLETE, and an applied setpoint no greater than the sent one confirms a decrease. In RELEASING the
overdraw check and the confirmation are made alike (R44, R78, R117), and no other state follows but FAULTED. In
COMPLETE the energy follows the report and a decrease is confirmed, no overdraw check is made, and the session
stays COMPLETE (R42, R78, R114, R116, R117); in FAULTED alike (R53), and in PROBING, in answer to a POLL or to a
PROBE that is not the last attempt (R37, R135); the energy follows the report in PROBING after the last attempt too,
and in RELEASING. A report of an absent vehicle or of another docking count leaves the energy of a FAULTED pad
as it was (R114). -/
def Obligations.ReportSettlesTheFigures : Prop :=
  (∀ (l : LineId) (tx : Transaction) (rx : List RxChar) (p : PadId) (r : Report) (s : State) (lim : Nat)
    (f : FeederRec) (excess : Bool),
    s.replyReaches l tx rx p lineReport → r = reportOf (replyBody rx) →
    (s.pads[p].state = .waiting ∨ s.pads[p].state = .charging) →
    r.present = true → r.docking = s.pads[p].docking →
    f = s.feederRec (s.padRec p).group →
    lim = (if s.pads[p].decPending then s.pads[p].prior else s.pads[p].sent) + f.tolerance →
    excess = decide (lim < r.metered) →
    ∃ t : State, exec (.report l rx) s = .next t ∧ SameElsewhere s t l (some p)
      ∧ LineEnded s t l tx rx
      ∧ t.pads[p].sample = some r.voltage
      ∧ (∀ d : Dispatch, s.pads[p].dispatch = some d →
          t.pads[p].delivered = (r.energy + 65536 - d.base) % 65536
          ∧ t.pads[p].remaining = d.target - (r.energy + 65536 - d.base) % 65536)
      ∧ (excess = false → t.pads[p].overdraw = 0)
      ∧ (excess = true → t.pads[p].overdraw = s.pads[p].overdraw + 1)
      ∧ (excess = true → f.overdrawLimit ≤ s.pads[p].overdraw + 1 →
          t.pads[p].state = .faulted ∧ t.pads[p].fault = some 128
          ∧ t.pads[p].grant = 0 ∧ t.pads[p].sent = 0 ∧ t.pads[p].decPending = false
          ∧ noticeIn .padFault t.notices.pendingSet = true
          ∧ (s.notices.captures.length < 8 →
              t.notices.captures = s.notices.captures ++
                [{ seq := s.notices.nextSeq, pad := p, source := .coordinator, code := 128
                   power := r.metered, time := s.time.running }]))
      ∧ ((excess = false ∨ s.pads[p].overdraw + 1 < f.overdrawLimit) →
          (∀ d : Dispatch, s.pads[p].dispatch = some d →
            d.target ≤ (r.energy + 65536 - d.base) % 65536 →
            t.pads[p].state = .complete ∧ t.pads[p].grant = 0 ∧ t.pads[p].sent = 0
            ∧ noticeIn .padComplete t.notices.pendingSet = true)
          ∧ ((∀ d : Dispatch, s.pads[p].dispatch = some d →
                (r.energy + 65536 - d.base) % 65536 < d.target) →
              t.alloc.fastShed = s.alloc.fastShed →
            t.pads[p].state = s.pads[p].state ∧ t.pads[p].grant = s.pads[p].grant
            ∧ t.pads[p].decPending =
                (s.pads[p].decPending && decide (s.pads[p].sent < r.applied))
            ∧ (t.pads[p].decPending = true → t.pads[p].sent = s.pads[p].sent
                ∧ t.pads[p].prior = s.pads[p].prior)
            ∧ (s.pads[p].decPending = true → r.applied ≤ s.pads[p].sent → t.pads[p].prior = 0))))
  ∧ (∀ (l : LineId) (tx : Transaction) (rx : List RxChar) (p : PadId) (r : Report) (s : State) (lim : Nat)
    (f : FeederRec) (excess : Bool),
    s.replyReaches l tx rx p lineReport → r = reportOf (replyBody rx) → s.pads[p].state = .releasing →
    r.present = true → r.docking = s.pads[p].docking →
    f = s.feederRec (s.padRec p).group →
    lim = (if s.pads[p].decPending then s.pads[p].prior else s.pads[p].sent) + f.tolerance →
    excess = decide (lim < r.metered) →
    ∃ t : State, exec (.report l rx) s = .next t ∧ SameElsewhere s t l (some p)
      ∧ LineEnded s t l tx rx
      ∧ t.pads[p].overdraw = (if excess then s.pads[p].overdraw + 1 else 0)
      ∧ (excess = true → f.overdrawLimit ≤ s.pads[p].overdraw + 1 →
          t.pads[p].state = .faulted ∧ t.pads[p].fault = some 128
          ∧ t.pads[p].grant = 0 ∧ t.pads[p].sent = 0 ∧ t.pads[p].decPending = false
          ∧ noticeIn .padFault t.notices.pendingSet = true
          ∧ (s.notices.captures.length < 8 →
              t.notices.captures = s.notices.captures ++
                [{ seq := s.notices.nextSeq, pad := p, source := .coordinator, code := 128
                   power := r.metered, time := s.time.running }]))
      ∧ ((excess = false ∨ s.pads[p].overdraw + 1 < f.overdrawLimit) →
          t.pads[p].state = .releasing ∧ t.pads[p].fault = s.pads[p].fault
          ∧ (t.alloc.fastShed = s.alloc.fastShed →
            t.pads[p].grant = s.pads[p].grant
            ∧ t.pads[p].decPending =
                (s.pads[p].decPending && decide (s.pads[p].sent < r.applied))
            ∧ (t.pads[p].decPending = true → t.pads[p].sent = s.pads[p].sent
                ∧ t.pads[p].prior = s.pads[p].prior)
            ∧ (s.pads[p].decPending = true → r.applied ≤ s.pads[p].sent → t.pads[p].prior = 0))))
  ∧ ∀ (l : LineId) (tx : Transaction) (rx : List RxChar) (p : PadId) (r : Report) (s : State)
    (x : SessionState),
    s.replyReaches l tx rx p lineReport → r = reportOf (replyBody rx) → s.pads[p].state = x →
    (x = .complete ∨ x = .faulted ∨ x = .probing ∨ x = .releasing) →
    ∃ t : State, exec (.report l rx) s = .next t ∧ SameElsewhere s t l (some p) ∧ LineEnded s t l tx rx
      ∧ (r.present = true → r.docking = s.pads[p].docking →
          t.pads[p].dispatch = s.pads[p].dispatch
          ∧ (s.pads[p].dispatch = none →
              t.pads[p].delivered = s.pads[p].delivered ∧ t.pads[p].remaining = s.pads[p].remaining)
          ∧ ∀ d : Dispatch, s.pads[p].dispatch = some d →
              t.pads[p].delivered = (r.energy + 65536 - d.base) % 65536
              ∧ t.pads[p].remaining = d.target - (r.energy + 65536 - d.base) % 65536)
      ∧ (x = .faulted → (r.present = false ∨ r.docking ≠ s.pads[p].docking) →
          t.pads[p].delivered = s.pads[p].delivered ∧ t.pads[p].remaining = s.pads[p].remaining)
      ∧ ((x = .faulted
            ∨ (r.present = true ∧ r.docking = s.pads[p].docking
              ∧ (x = .complete
                ∨ (x = .probing
                  ∧ (tx.request = .poll ∨ s.pads[p].attempts + 1 < s.site.probeAttempts))))) →
          t.pads[p].state = x ∧ t.pads[p].fault = s.pads[p].fault ∧ t.pads[p].docking = s.pads[p].docking
          ∧ t.pads[p].dispatch = s.pads[p].dispatch ∧ t.pads[p].caps = s.pads[p].caps
          ∧ t.pads[p].overdraw = s.pads[p].overdraw ∧ t.pads[p].reservation = s.pads[p].reservation
          ∧ ((t.alloc.fastShed = s.alloc.fastShed ∨ s.pads[p].grant = 0) →
            t.pads[p].grant = s.pads[p].grant
            ∧ (s.pads[p].decPending = true → r.applied ≤ s.pads[p].sent →
                t.pads[p].decPending = false ∧ t.pads[p].prior = 0)
            ∧ ((s.pads[p].decPending = false ∨ s.pads[p].sent < r.applied) →
                t.pads[p].decPending = s.pads[p].decPending ∧ t.pads[p].sent = s.pads[p].sent
                ∧ t.pads[p].prior = s.pads[p].prior)))

/-- A good FAULT_REPORT (R51, R52) in any state but DISABLED: the pad is FAULTED with the code carried and no
power, a capture entry with source CHARGER carries the code and the metered power, and PAD_FAULT is raised;
a SILENT pad gives up its reservation. -/
def Obligations.FaultReportFaultsThePad : Prop :=
  ∀ (l : LineId) (tx : Transaction) (rx : List RxChar) (p : PadId) (s : State),
    s.replyReaches l tx rx p lineFault →
    ∃ t : State, exec (.faultReport l rx) s = .next t ∧ SameElsewhere s t l (some p)
      ∧ LineEnded s t l tx rx
      ∧ t.pads[p].state = .faulted ∧ t.pads[p].fault = some (byteAt (replyBody rx) 0)
      ∧ t.pads[p].failures = 0
      ∧ t.pads[p].report = s.pads[p].report.map
          (fun r => { r with docking := byteAt (replyBody rx) 3 })
      ∧ t.pads[p].dispatch = s.pads[p].dispatch ∧ t.pads[p].caps = s.pads[p].caps
      ∧ (s.pads[p].state ≠ .faulted →
          t.pads[p].grant = 0 ∧ t.pads[p].sent = 0 ∧ t.pads[p].prior = 0
          ∧ t.pads[p].decPending = false
          ∧ ∀ k : LineId, t.lines[k].urgent = urgentAfter s p 0 k)
      ∧ (s.pads[p].state = .silent → t.pads[p].reservation = 0)
      ∧ noticeIn .padFault t.notices.pendingSet = true
      ∧ t.notices.nextSeq = s.notices.nextSeq + 1
      ∧ (s.notices.captures.length < 8 →
          t.notices.captures = s.notices.captures ++
            [{ seq := s.notices.nextSeq, pad := p, source := .charger, code := byteAt (replyBody rx) 0
               power := be16 (byteAt (replyBody rx) 1) (byteAt (replyBody rx) 2)
               time := s.time.running }])
      ∧ (8 ≤ s.notices.captures.length →
          t.notices.captures = s.notices.captures ∧ t.notices.overflow = true
          ∧ t.notices.overflowCount = min 255 (s.notices.overflowCount + 1)
          ∧ noticeIn .captureOverflow t.notices.pendingSet = true)

/-- A good CAPS (R32, R35 to R37, R41) in PROBING: figures that pass form the record, with the tier list or
with it ignored and marked; a target above a battery capacity so learned is lowered to it, with the remaining
energy formed anew from what was delivered (R35, R115); and the session is WAITING, or COMPLETE when its dispatch has nothing left;
figures that do not pass are a failed probe attempt, and the last attempt takes the default record or faults
the pad with NO_CAPS. In any other state the CAPS is discarded. -/
def Obligations.CapsEndsProbing : Prop :=
  ∀ (l : LineId) (tx : Transaction) (rx : List RxChar) (p : PadId) (c : CapsFields) (ok : Bool)
    (s : State),
    s.replyReaches l tx rx p lineCaps → c = capsOf (replyBody rx) →
    ok = decide (1 ≤ c.vmax ∧ c.vmax ≤ 400 ∧ 1 ≤ c.vmin ∧ c.vmin ≤ c.vmax) →
    ∃ t : State, exec (.caps l rx) s = .next t ∧ SameElsewhere s t l (some p)
      ∧ LineEnded s t l tx rx
      ∧ t.pads[p].failures = 0 ∧ t.pads[p].report = s.pads[p].report
      ∧ (s.pads[p].state ≠ .probing → t.pads[p] = { s.pads[p] with failures := 0 })
      ∧ (s.pads[p].state = .probing → ok = true →
          (∃ k : Capability, t.pads[p].caps = some k ∧ k.vmax = c.vmax ∧ k.vmin = c.vmin
            ∧ k.vehicleId = c.id ∧ k.battery = c.battery ∧ k.source = .vehicle
            ∧ (k.tiersIgnored = false → k.tiers = c.tiers ∧ c.tiers.length ≤ 6)
            ∧ (k.tiersIgnored = true → k.tiers = [])
            ∧ (k.tiersIgnored = false ↔
                c.tiers.length ≤ 6 ∧ c.tiers.Pairwise (· < ·)
                  ∧ ∀ v : Nat, v ∈ c.tiers → c.vmin ≤ v ∧ v ≤ c.vmax))
          ∧ (s.pads[p].dispatch = none → t.pads[p].state = .waiting)
          ∧ (∀ d : Dispatch, s.pads[p].dispatch = some d →
              t.pads[p].dispatch = some { d with target := min d.target (c.battery.getD d.target) }
              ∧ t.pads[p].delivered = s.pads[p].delivered
              ∧ t.pads[p].remaining =
                (match c.battery with
                 | some b => if b < d.target then b - s.pads[p].delivered else s.pads[p].remaining
                 | none => s.pads[p].remaining)
              ∧ (t.pads[p].remaining = 0 → t.pads[p].state = .complete
                  ∧ noticeIn .padComplete t.notices.pendingSet = true)
              ∧ (0 < t.pads[p].remaining → t.pads[p].state = .waiting)))
      ∧ (s.pads[p].state = .probing → ok = false → s.pads[p].attempts + 1 < s.site.probeAttempts →
          t.pads[p] = { s.pads[p] with attempts := s.pads[p].attempts + 1, failures := 0 })
      ∧ (s.pads[p].state = .probing → ok = false → s.site.probeAttempts ≤ s.pads[p].attempts + 1 →
          ((s.padRec p).assumeDefault = true → s.pads[p].dispatch = none →
            t.pads[p].state = .waiting
            ∧ t.pads[p].caps = some
                { vmax := s.site.defMax, vmin := s.site.defMin, vehicleId := none, battery := none
                  tiers := [], source := .default, tiersIgnored := false })
          ∧ ((s.padRec p).assumeDefault = false →
            t.pads[p].state = .faulted ∧ t.pads[p].fault = some 129
            ∧ noticeIn .padFault t.notices.pendingSet = true))

/-- The discovery marks (R144, R173, R174). A normal poll started after the entry, whose drop no member lies
above, clears its line's mark at its end, whatever its outcome, and has no other effect of its own besides; when no other
mark stands, DISCOVERING ends: RUNNING, the first sweep, which starts as at an expiry of the round timer (R59), and
the round timer. An activation in DISCOVERING, here at the end of a commit check,
clears the mark of a line that has no member left, and of one with no normal poll in flight whose position no
member of the new bank lies above; when none stands then, DISCOVERING ends with the new round period. Where the
activation brings a STOP input to its active level, HALTED is entered and the marks are cleared (R178, R196);
that the marks are looked at after that is the model's reading (log entry 17). -/
def Obligations.LastMarkEndsDiscovery : Prop :=
  (∀ (l : LineId) (tx : Transaction) (rx : List RxChar) (s : State) (c : Instr),
    s.lines[l].inFlight = some tx → endsTransaction c l rx →
    s.mode.engine = .discovering → s.lines[l].discovery = true → tx.slot = .normal →
    tx.inDiscovery = true → (∀ m : Nat, m ∈ s.members l → m ≤ tx.drop) →
    let before := s.withLines (s.lines.set l
      { s.lines[l] with inFlight := some { tx with inDiscovery := false } })
    let cleared : State → State := fun u =>
      u.withLines (u.lines.set l { u.lines[l] with discovery := false })
    ∃ t u : State, exec c s = .next t ∧ exec c before = .next u ∧ t.lines[l].discovery = false
      ∧ t.tables = s.tables ∧ t.time.running = s.time.running
      ∧ (∀ k : LineId, k ≠ l → t.lines[k].discovery = s.lines[k].discovery)
      ∧ ((∀ k : LineId, k ≠ l → s.lines[k].discovery = false) →
          t.mode = { s.mode with engine := .running } ∧ t.alloc.sweep.isSome = true
          ∧ t.time.timer = some s.site.period
          ∧ (u.alloc.sweep = none → u.alloc.fastShed ≠ .running →
              exec .roundTimerExpiry
                (((cleared u).withMode { u.mode with engine := .running }).withTime
                  { u.time with timer := some 0 }) = .next t))
      ∧ ((∃ k : LineId, k ≠ l ∧ s.lines[k].discovery = true) →
          t.mode = s.mode ∧ t.alloc.sweep = s.alloc.sweep ∧ t.time = s.time
          ∧ t = driveOutputs (cleared u)))
  ∧ ∀ (tag : Byte) (s : State),
    s.tables.commit = .checking (crc s.tables.shadow.bytes) tag → validate s.tables.shadow = none →
    s.alloc.sweep = none → s.alloc.fastShed ≠ .running → s.mode.engine = .discovering →
    (∃ l : LineId, s.lines[l].discovery = true) →
    let stop : Prop := ∃ i : InputId, s.recordStays .line i.val = false
      ∧ (s.tables.shadow.inputRec i).function = .stop
      ∧ (s.tables.shadow.inputRec i).sense.activeLevel = some s.signals.taken[i]
    let member : LineId → Nat → Prop := fun l d =>
      ∃ p : PadId, (s.tables.shadow.padRec p).enabled = true ∧ (s.tables.shadow.padRec p).line = l
        ∧ (s.tables.shadow.padRec p).drop = d
    let stands : LineId → Prop := fun l => s.lines[l].discovery = true ∧ (∃ d : Nat, member l d)
      ∧ ((∃ tx : Transaction, s.lines[l].inFlight = some tx ∧ tx.slot = .normal)
        ∨ s.lines[l].position = none
        ∨ ∃ k d : Nat, s.lines[l].position = some k ∧ member l d ∧ k < d)
    ∃ t : State, exec .commitCheckEnd s = .next t
      ∧ (stop → t.mode.engine = .halted ∧ t.alloc.sweep = none ∧ t.time.timer = none
          ∧ ∀ l : LineId, t.lines[l].discovery = false)
      ∧ (¬ stop →
          (∀ l : LineId, t.lines[l].discovery = true ↔ stands l)
          ∧ ((∃ l : LineId, stands l) →
              t.mode.engine = .discovering ∧ t.alloc.sweep = none ∧ t.time = s.time)
          ∧ ((∀ l : LineId, ¬ stands l) →
              t.mode.engine = .running ∧ t.alloc.sweep.isSome = true
              ∧ t.time = { s.time with timer := some (siteView s.tables.shadow.site).period }))

/-! ## The check of frames and tables -/

/-- The CRC of R199: its check value, and that the computation run on through two check bytes ends at 0000h
exactly when they are the CRC, most significant byte first; the register as it starts and as each byte changes it;
and the 992 bytes of a bank that the commit check covers, at their offsets. -/
def Obligations.CrcChecksItself : Prop :=
  crc [0x31, 0x32, 0x33, 0x34, 0x35, 0x36, 0x37, 0x38, 0x39] = 0x29B1
  ∧ (∀ (bs : List Byte) (w : Word16), crc (bs ++ crcBytes w) = 0 ↔ w = crc bs)
  ∧ crc [] = 0xFFFF
  ∧ (∀ (bs : List Byte) (b : Byte),
      let shift : Word16 → Word16 := fun r => if r.getLsbD 15 then (r <<< 1) ^^^ 0x1021 else r <<< 1
      crc (bs ++ [b]) = Nat.repeat shift 8 (crc bs ^^^ (b.setWidth 16 <<< 8)))
  ∧ (∀ w : Word16, crcBytes w = [BitVec.ofNat 8 (w.toNat / 256), BitVec.ofNat 8 (w.toNat % 256)])
  ∧ ∀ b : Bank, b.bytes.length = 992
      ∧ (∀ i : Fin 32, b.bytes[i.val]? = some b.site[i])
      ∧ (∀ (f : Fin 8) (i : Fin 16), b.bytes[32 + 16 * f.val + i.val]? = some b.feeder[f][i])
      ∧ (∀ (p : Fin 64) (i : Fin 12), b.bytes[160 + 12 * p.val + i.val]? = some b.pad[p][i])
      ∧ ∀ (r : Fin 16) (i : Fin 4), b.bytes[928 + 4 * r.val + i.val]? = some b.line[r][i]

/-! ## What every step keeps -/

/-- Every step keeps the six invariants of the sessions (R5, R25, R31, R56, R73, R75, R112), and beside them
the kept list goes on holding every pad with a grant (R58, R82). -/
def Obligations.StepsKeepSessionsSound : Prop :=
  (∀ s t : State, SessionsSound s → step s = .next t → SessionsSound t)
  ∧ (∀ s t : State, SessionsSound s → KeptListCovers s → step s = .next t → KeptListCovers t)

/-- Outside RUNNING there is never a sweep, a pass, a running timer, or power or a reservation on any pad
(R88, R169): every step keeps it so. -/
def Obligations.StepsKeepPowerOffUnlessRunning : Prop :=
  ∀ s t : State, IdleUnlessRunning s → step s = .next t → IdleUnlessRunning t

/-- No pass ever runs beside a sweep, a sweep works from the active bank, a scope change is held only during
a sweep, and the kept list and rotation offset stay sound (R17, R67, R68, R81, R168). -/
def Obligations.StepsKeepSweepAlone : Prop :=
  ∀ s t : State, IdleUnlessRunning s → SweepAlone s → KeptListSound s → step s = .next t →
    SweepAlone t ∧ KeptListSound t

/-- Each group's effective capacity stays the figure of R91, and the shed-input states and the stop latch
stay those the inputs give (R92, R106, R168). -/
def Obligations.StepsKeepCapacityFresh : Prop :=
  ∀ s t : State, CapacityFresh s → InputsFollowed s → step s = .next t →
    CapacityFresh t ∧ InputsFollowed t

/-- Whenever no fast-shed pass is pending or running, every enabled group's grants and reservations fit its
effective capacity and the site's fit the site limit, or every grant concerned is 0 (R82, R83): every step
keeps it so. -/
def Obligations.StepsKeepWithinLimits : Prop :=
  ∀ s t : State, WithinLimits s → step s = .next t → WithinLimits t

/-- The queues keep to their sizes (R152, R153, R157, R181), no pad or drop stands twice on a list (R139,
R141), and breaks, transactions and a line held busy exclude one another (R131, R142, R143). A NOTICE waits only
while a pending kind is unmasked, in which the model reads R187 and R188 (log entry 11), and a frame being
received has not reached the end that its length gives (R149, R150). -/
def Obligations.StepsKeepQueuesAndLists : Prop :=
  (∀ s t : State, QueuesBounded s → ListsDistinct s → BreaksOrdered s → step s = .next t →
    QueuesBounded t ∧ ListsDistinct t ∧ BreaksOrdered t)
  ∧ ∀ s t : State, PortSound s → step s = .next t → PortSound t

/-- The state right after reset has every invariant. -/
def Obligations.ResetHasEveryInvariant : Prop :=
  OutputsFollow State.reset ∧ SessionsSound State.reset ∧ IdleUnlessRunning State.reset
  ∧ SweepAlone State.reset ∧ KeptListSound State.reset ∧ KeptListCovers State.reset
  ∧ CapacityFresh State.reset ∧ InputsFollowed State.reset ∧ WithinLimits State.reset
  ∧ QueuesBounded State.reset ∧ ListsDistinct State.reset ∧ BreaksOrdered State.reset
  ∧ PortSound State.reset

end
end

