-- ==== Sys2Proof/Laws/State.lean ====
section
/-! SUPPORT. What each record update of State leaves and what it sets: one lemma per field per update, so
that no proof unfolds an update. -/

namespace Sys2Proof.Machine

variable (s : State)

/-! ## Vectors from functions -/

/-- Entry `i` of a tabulated vector is the function's value at `i`. -/
@[simp] theorem tabulate_get {α : Type} (n : Nat) (f : Fin n → α) (i : Nat) (h : i < n) :
    (tabulate n f)[i] = f ⟨i, h⟩ := by
  simp [tabulate]

/-! ## State.withPads -/

@[simp] theorem State.withPads_time (v : Vector Pad 64) : (s.withPads v).time = s.time := rfl
@[simp] theorem State.withPads_tables (v : Vector Pad 64) : (s.withPads v).tables = s.tables := rfl
@[simp] theorem State.withPads_pads (v : Vector Pad 64) : (s.withPads v).pads = v := rfl
@[simp] theorem State.withPads_alloc (v : Vector Pad 64) : (s.withPads v).alloc = s.alloc := rfl
@[simp] theorem State.withPads_groups (v : Vector Pad 64) : (s.withPads v).groups = s.groups := rfl
@[simp] theorem State.withPads_lines (v : Vector Pad 64) : (s.withPads v).lines = s.lines := rfl
@[simp] theorem State.withPads_fleet (v : Vector Pad 64) : (s.withPads v).fleet = s.fleet := rfl
@[simp] theorem State.withPads_mode (v : Vector Pad 64) : (s.withPads v).mode = s.mode := rfl
@[simp] theorem State.withPads_notices (v : Vector Pad 64) : (s.withPads v).notices = s.notices := rfl
@[simp] theorem State.withPads_signals (v : Vector Pad 64) : (s.withPads v).signals = s.signals := rfl
@[simp] theorem State.withPads_freeCount (v : Vector Pad 64) : (s.withPads v).freeCount = s.freeCount := rfl
@[simp] theorem State.withPads_pending (v : Vector Pad 64) : (s.withPads v).pending = s.pending := rfl

/-! ## State.withGroups -/

@[simp] theorem State.withGroups_time (v : Vector Group 8) : (s.withGroups v).time = s.time := rfl
@[simp] theorem State.withGroups_tables (v : Vector Group 8) : (s.withGroups v).tables = s.tables := rfl
@[simp] theorem State.withGroups_pads (v : Vector Group 8) : (s.withGroups v).pads = s.pads := rfl
@[simp] theorem State.withGroups_alloc (v : Vector Group 8) : (s.withGroups v).alloc = s.alloc := rfl
@[simp] theorem State.withGroups_groups (v : Vector Group 8) : (s.withGroups v).groups = v := rfl
@[simp] theorem State.withGroups_lines (v : Vector Group 8) : (s.withGroups v).lines = s.lines := rfl
@[simp] theorem State.withGroups_fleet (v : Vector Group 8) : (s.withGroups v).fleet = s.fleet := rfl
@[simp] theorem State.withGroups_mode (v : Vector Group 8) : (s.withGroups v).mode = s.mode := rfl
@[simp] theorem State.withGroups_notices (v : Vector Group 8) : (s.withGroups v).notices = s.notices := rfl
@[simp] theorem State.withGroups_signals (v : Vector Group 8) : (s.withGroups v).signals = s.signals := rfl
@[simp] theorem State.withGroups_freeCount (v : Vector Group 8) : (s.withGroups v).freeCount = s.freeCount := rfl
@[simp] theorem State.withGroups_pending (v : Vector Group 8) : (s.withGroups v).pending = s.pending := rfl

/-! ## State.withLines -/

@[simp] theorem State.withLines_time (v : Vector LineCtl 4) : (s.withLines v).time = s.time := rfl
@[simp] theorem State.withLines_tables (v : Vector LineCtl 4) : (s.withLines v).tables = s.tables := rfl
@[simp] theorem State.withLines_pads (v : Vector LineCtl 4) : (s.withLines v).pads = s.pads := rfl
@[simp] theorem State.withLines_alloc (v : Vector LineCtl 4) : (s.withLines v).alloc = s.alloc := rfl
@[simp] theorem State.withLines_groups (v : Vector LineCtl 4) : (s.withLines v).groups = s.groups := rfl
@[simp] theorem State.withLines_lines (v : Vector LineCtl 4) : (s.withLines v).lines = v := rfl
@[simp] theorem State.withLines_fleet (v : Vector LineCtl 4) : (s.withLines v).fleet = s.fleet := rfl
@[simp] theorem State.withLines_mode (v : Vector LineCtl 4) : (s.withLines v).mode = s.mode := rfl
@[simp] theorem State.withLines_notices (v : Vector LineCtl 4) : (s.withLines v).notices = s.notices := rfl
@[simp] theorem State.withLines_signals (v : Vector LineCtl 4) : (s.withLines v).signals = s.signals := rfl
@[simp] theorem State.withLines_freeCount (v : Vector LineCtl 4) : (s.withLines v).freeCount = s.freeCount := rfl
@[simp] theorem State.withLines_pending (v : Vector LineCtl 4) : (s.withLines v).pending = s.pending := rfl

/-! ## State.withAlloc -/

@[simp] theorem State.withAlloc_time (v : Alloc) : (s.withAlloc v).time = s.time := rfl
@[simp] theorem State.withAlloc_tables (v : Alloc) : (s.withAlloc v).tables = s.tables := rfl
@[simp] theorem State.withAlloc_pads (v : Alloc) : (s.withAlloc v).pads = s.pads := rfl
@[simp] theorem State.withAlloc_alloc (v : Alloc) : (s.withAlloc v).alloc = v := rfl
@[simp] theorem State.withAlloc_groups (v : Alloc) : (s.withAlloc v).groups = s.groups := rfl
@[simp] theorem State.withAlloc_lines (v : Alloc) : (s.withAlloc v).lines = s.lines := rfl
@[simp] theorem State.withAlloc_fleet (v : Alloc) : (s.withAlloc v).fleet = s.fleet := rfl
@[simp] theorem State.withAlloc_mode (v : Alloc) : (s.withAlloc v).mode = s.mode := rfl
@[simp] theorem State.withAlloc_notices (v : Alloc) : (s.withAlloc v).notices = s.notices := rfl
@[simp] theorem State.withAlloc_signals (v : Alloc) : (s.withAlloc v).signals = s.signals := rfl
@[simp] theorem State.withAlloc_freeCount (v : Alloc) : (s.withAlloc v).freeCount = s.freeCount := rfl
@[simp] theorem State.withAlloc_pending (v : Alloc) : (s.withAlloc v).pending = s.pending := rfl

/-! ## State.withTables -/

@[simp] theorem State.withTables_time (v : Tables) : (s.withTables v).time = s.time := rfl
@[simp] theorem State.withTables_tables (v : Tables) : (s.withTables v).tables = v := rfl
@[simp] theorem State.withTables_pads (v : Tables) : (s.withTables v).pads = s.pads := rfl
@[simp] theorem State.withTables_alloc (v : Tables) : (s.withTables v).alloc = s.alloc := rfl
@[simp] theorem State.withTables_groups (v : Tables) : (s.withTables v).groups = s.groups := rfl
@[simp] theorem State.withTables_lines (v : Tables) : (s.withTables v).lines = s.lines := rfl
@[simp] theorem State.withTables_fleet (v : Tables) : (s.withTables v).fleet = s.fleet := rfl
@[simp] theorem State.withTables_mode (v : Tables) : (s.withTables v).mode = s.mode := rfl
@[simp] theorem State.withTables_notices (v : Tables) : (s.withTables v).notices = s.notices := rfl
@[simp] theorem State.withTables_signals (v : Tables) : (s.withTables v).signals = s.signals := rfl
@[simp] theorem State.withTables_freeCount (v : Tables) : (s.withTables v).freeCount = s.freeCount := rfl
@[simp] theorem State.withTables_pending (v : Tables) : (s.withTables v).pending = s.pending := rfl

/-! ## State.withFleet -/

@[simp] theorem State.withFleet_time (v : Fleet) : (s.withFleet v).time = s.time := rfl
@[simp] theorem State.withFleet_tables (v : Fleet) : (s.withFleet v).tables = s.tables := rfl
@[simp] theorem State.withFleet_pads (v : Fleet) : (s.withFleet v).pads = s.pads := rfl
@[simp] theorem State.withFleet_alloc (v : Fleet) : (s.withFleet v).alloc = s.alloc := rfl
@[simp] theorem State.withFleet_groups (v : Fleet) : (s.withFleet v).groups = s.groups := rfl
@[simp] theorem State.withFleet_lines (v : Fleet) : (s.withFleet v).lines = s.lines := rfl
@[simp] theorem State.withFleet_fleet (v : Fleet) : (s.withFleet v).fleet = v := rfl
@[simp] theorem State.withFleet_mode (v : Fleet) : (s.withFleet v).mode = s.mode := rfl
@[simp] theorem State.withFleet_notices (v : Fleet) : (s.withFleet v).notices = s.notices := rfl
@[simp] theorem State.withFleet_signals (v : Fleet) : (s.withFleet v).signals = s.signals := rfl
@[simp] theorem State.withFleet_freeCount (v : Fleet) : (s.withFleet v).freeCount = s.freeCount := rfl
@[simp] theorem State.withFleet_pending (v : Fleet) : (s.withFleet v).pending = s.pending := rfl

/-! ## State.withMode -/

@[simp] theorem State.withMode_time (v : ModeControl) : (s.withMode v).time = s.time := rfl
@[simp] theorem State.withMode_tables (v : ModeControl) : (s.withMode v).tables = s.tables := rfl
@[simp] theorem State.withMode_pads (v : ModeControl) : (s.withMode v).pads = s.pads := rfl
@[simp] theorem State.withMode_alloc (v : ModeControl) : (s.withMode v).alloc = s.alloc := rfl
@[simp] theorem State.withMode_groups (v : ModeControl) : (s.withMode v).groups = s.groups := rfl
@[simp] theorem State.withMode_lines (v : ModeControl) : (s.withMode v).lines = s.lines := rfl
@[simp] theorem State.withMode_fleet (v : ModeControl) : (s.withMode v).fleet = s.fleet := rfl
@[simp] theorem State.withMode_mode (v : ModeControl) : (s.withMode v).mode = v := rfl
@[simp] theorem State.withMode_notices (v : ModeControl) : (s.withMode v).notices = s.notices := rfl
@[simp] theorem State.withMode_signals (v : ModeControl) : (s.withMode v).signals = s.signals := rfl
@[simp] theorem State.withMode_freeCount (v : ModeControl) : (s.withMode v).freeCount = s.freeCount := rfl
@[simp] theorem State.withMode_pending (v : ModeControl) : (s.withMode v).pending = s.pending := rfl

/-! ## State.withNotices -/

@[simp] theorem State.withNotices_time (v : NoticeUnit) : (s.withNotices v).time = s.time := rfl
@[simp] theorem State.withNotices_tables (v : NoticeUnit) : (s.withNotices v).tables = s.tables := rfl
@[simp] theorem State.withNotices_pads (v : NoticeUnit) : (s.withNotices v).pads = s.pads := rfl
@[simp] theorem State.withNotices_alloc (v : NoticeUnit) : (s.withNotices v).alloc = s.alloc := rfl
@[simp] theorem State.withNotices_groups (v : NoticeUnit) : (s.withNotices v).groups = s.groups := rfl
@[simp] theorem State.withNotices_lines (v : NoticeUnit) : (s.withNotices v).lines = s.lines := rfl
@[simp] theorem State.withNotices_fleet (v : NoticeUnit) : (s.withNotices v).fleet = s.fleet := rfl
@[simp] theorem State.withNotices_mode (v : NoticeUnit) : (s.withNotices v).mode = s.mode := rfl
@[simp] theorem State.withNotices_notices (v : NoticeUnit) : (s.withNotices v).notices = v := rfl
@[simp] theorem State.withNotices_signals (v : NoticeUnit) : (s.withNotices v).signals = s.signals := rfl
@[simp] theorem State.withNotices_freeCount (v : NoticeUnit) : (s.withNotices v).freeCount = s.freeCount := rfl
@[simp] theorem State.withNotices_pending (v : NoticeUnit) : (s.withNotices v).pending = s.pending := rfl

/-! ## State.withSignals -/

@[simp] theorem State.withSignals_time (v : Signals) : (s.withSignals v).time = s.time := rfl
@[simp] theorem State.withSignals_tables (v : Signals) : (s.withSignals v).tables = s.tables := rfl
@[simp] theorem State.withSignals_pads (v : Signals) : (s.withSignals v).pads = s.pads := rfl
@[simp] theorem State.withSignals_alloc (v : Signals) : (s.withSignals v).alloc = s.alloc := rfl
@[simp] theorem State.withSignals_groups (v : Signals) : (s.withSignals v).groups = s.groups := rfl
@[simp] theorem State.withSignals_lines (v : Signals) : (s.withSignals v).lines = s.lines := rfl
@[simp] theorem State.withSignals_fleet (v : Signals) : (s.withSignals v).fleet = s.fleet := rfl
@[simp] theorem State.withSignals_mode (v : Signals) : (s.withSignals v).mode = s.mode := rfl
@[simp] theorem State.withSignals_notices (v : Signals) : (s.withSignals v).notices = s.notices := rfl
@[simp] theorem State.withSignals_signals (v : Signals) : (s.withSignals v).signals = v := rfl
@[simp] theorem State.withSignals_freeCount (v : Signals) : (s.withSignals v).freeCount = s.freeCount := rfl
@[simp] theorem State.withSignals_pending (v : Signals) : (s.withSignals v).pending = s.pending := rfl

/-! ## State.withTime -/

@[simp] theorem State.withTime_time (v : TimeBase) : (s.withTime v).time = v := rfl
@[simp] theorem State.withTime_tables (v : TimeBase) : (s.withTime v).tables = s.tables := rfl
@[simp] theorem State.withTime_pads (v : TimeBase) : (s.withTime v).pads = s.pads := rfl
@[simp] theorem State.withTime_alloc (v : TimeBase) : (s.withTime v).alloc = s.alloc := rfl
@[simp] theorem State.withTime_groups (v : TimeBase) : (s.withTime v).groups = s.groups := rfl
@[simp] theorem State.withTime_lines (v : TimeBase) : (s.withTime v).lines = s.lines := rfl
@[simp] theorem State.withTime_fleet (v : TimeBase) : (s.withTime v).fleet = s.fleet := rfl
@[simp] theorem State.withTime_mode (v : TimeBase) : (s.withTime v).mode = s.mode := rfl
@[simp] theorem State.withTime_notices (v : TimeBase) : (s.withTime v).notices = s.notices := rfl
@[simp] theorem State.withTime_signals (v : TimeBase) : (s.withTime v).signals = s.signals := rfl
@[simp] theorem State.withTime_freeCount (v : TimeBase) : (s.withTime v).freeCount = s.freeCount := rfl
@[simp] theorem State.withTime_pending (v : TimeBase) : (s.withTime v).pending = s.pending := rfl

/-! ## State.spend -/

@[simp] theorem State.spend_time (n : Nat) : (s.spend n).time = s.time := rfl
@[simp] theorem State.spend_tables (n : Nat) : (s.spend n).tables = s.tables := rfl
@[simp] theorem State.spend_pads (n : Nat) : (s.spend n).pads = s.pads := rfl
@[simp] theorem State.spend_alloc (n : Nat) : (s.spend n).alloc = s.alloc := rfl
@[simp] theorem State.spend_groups (n : Nat) : (s.spend n).groups = s.groups := rfl
@[simp] theorem State.spend_lines (n : Nat) : (s.spend n).lines = s.lines := rfl
@[simp] theorem State.spend_fleet (n : Nat) : (s.spend n).fleet = s.fleet := rfl
@[simp] theorem State.spend_mode (n : Nat) : (s.spend n).mode = s.mode := rfl
@[simp] theorem State.spend_notices (n : Nat) : (s.spend n).notices = s.notices := rfl
@[simp] theorem State.spend_signals (n : Nat) : (s.spend n).signals = s.signals := rfl
@[simp] theorem State.spend_freeCount (n : Nat) : (s.spend n).freeCount = s.freeCount + n := rfl
@[simp] theorem State.spend_pending (n : Nat) : (s.spend n).pending = s.pending := rfl

/-! ## State.updPad -/

@[simp] theorem State.updPad_time (p : PadId) (f : Pad → Pad) :
    (s.updPad p f).time = s.time := rfl
@[simp] theorem State.updPad_tables (p : PadId) (f : Pad → Pad) :
    (s.updPad p f).tables = s.tables := rfl
@[simp] theorem State.updPad_alloc (p : PadId) (f : Pad → Pad) :
    (s.updPad p f).alloc = s.alloc := rfl
@[simp] theorem State.updPad_groups (p : PadId) (f : Pad → Pad) :
    (s.updPad p f).groups = s.groups := rfl
@[simp] theorem State.updPad_lines (p : PadId) (f : Pad → Pad) :
    (s.updPad p f).lines = s.lines := rfl
@[simp] theorem State.updPad_fleet (p : PadId) (f : Pad → Pad) :
    (s.updPad p f).fleet = s.fleet := rfl
@[simp] theorem State.updPad_mode (p : PadId) (f : Pad → Pad) :
    (s.updPad p f).mode = s.mode := rfl
@[simp] theorem State.updPad_notices (p : PadId) (f : Pad → Pad) :
    (s.updPad p f).notices = s.notices := rfl
@[simp] theorem State.updPad_signals (p : PadId) (f : Pad → Pad) :
    (s.updPad p f).signals = s.signals := rfl
@[simp] theorem State.updPad_freeCount (p : PadId) (f : Pad → Pad) :
    (s.updPad p f).freeCount = s.freeCount := rfl
@[simp] theorem State.updPad_pending (p : PadId) (f : Pad → Pad) :
    (s.updPad p f).pending = s.pending := rfl

/-! ## State.mapPads -/

@[simp] theorem State.mapPads_time (f : PadId → Pad → Pad) :
    (s.mapPads f).time = s.time := rfl
@[simp] theorem State.mapPads_tables (f : PadId → Pad → Pad) :
    (s.mapPads f).tables = s.tables := rfl
@[simp] theorem State.mapPads_alloc (f : PadId → Pad → Pad) :
    (s.mapPads f).alloc = s.alloc := rfl
@[simp] theorem State.mapPads_groups (f : PadId → Pad → Pad) :
    (s.mapPads f).groups = s.groups := rfl
@[simp] theorem State.mapPads_lines (f : PadId → Pad → Pad) :
    (s.mapPads f).lines = s.lines := rfl
@[simp] theorem State.mapPads_fleet (f : PadId → Pad → Pad) :
    (s.mapPads f).fleet = s.fleet := rfl
@[simp] theorem State.mapPads_mode (f : PadId → Pad → Pad) :
    (s.mapPads f).mode = s.mode := rfl
@[simp] theorem State.mapPads_notices (f : PadId → Pad → Pad) :
    (s.mapPads f).notices = s.notices := rfl
@[simp] theorem State.mapPads_signals (f : PadId → Pad → Pad) :
    (s.mapPads f).signals = s.signals := rfl
@[simp] theorem State.mapPads_freeCount (f : PadId → Pad → Pad) :
    (s.mapPads f).freeCount = s.freeCount := rfl
@[simp] theorem State.mapPads_pending (f : PadId → Pad → Pad) :
    (s.mapPads f).pending = s.pending := rfl

/-! ## State.updGroup -/

@[simp] theorem State.updGroup_time (g : GroupId) (f : Group → Group) :
    (s.updGroup g f).time = s.time := rfl
@[simp] theorem State.updGroup_tables (g : GroupId) (f : Group → Group) :
    (s.updGroup g f).tables = s.tables := rfl
@[simp] theorem State.updGroup_pads (g : GroupId) (f : Group → Group) :
    (s.updGroup g f).pads = s.pads := rfl
@[simp] theorem State.updGroup_alloc (g : GroupId) (f : Group → Group) :
    (s.updGroup g f).alloc = s.alloc := rfl
@[simp] theorem State.updGroup_lines (g : GroupId) (f : Group → Group) :
    (s.updGroup g f).lines = s.lines := rfl
@[simp] theorem State.updGroup_fleet (g : GroupId) (f : Group → Group) :
    (s.updGroup g f).fleet = s.fleet := rfl
@[simp] theorem State.updGroup_mode (g : GroupId) (f : Group → Group) :
    (s.updGroup g f).mode = s.mode := rfl
@[simp] theorem State.updGroup_notices (g : GroupId) (f : Group → Group) :
    (s.updGroup g f).notices = s.notices := rfl
@[simp] theorem State.updGroup_signals (g : GroupId) (f : Group → Group) :
    (s.updGroup g f).signals = s.signals := rfl
@[simp] theorem State.updGroup_freeCount (g : GroupId) (f : Group → Group) :
    (s.updGroup g f).freeCount = s.freeCount := rfl
@[simp] theorem State.updGroup_pending (g : GroupId) (f : Group → Group) :
    (s.updGroup g f).pending = s.pending := rfl

/-! ## State.mapGroups -/

@[simp] theorem State.mapGroups_time (f : GroupId → Group → Group) :
    (s.mapGroups f).time = s.time := rfl
@[simp] theorem State.mapGroups_tables (f : GroupId → Group → Group) :
    (s.mapGroups f).tables = s.tables := rfl
@[simp] theorem State.mapGroups_pads (f : GroupId → Group → Group) :
    (s.mapGroups f).pads = s.pads := rfl
@[simp] theorem State.mapGroups_alloc (f : GroupId → Group → Group) :
    (s.mapGroups f).alloc = s.alloc := rfl
@[simp] theorem State.mapGroups_lines (f : GroupId → Group → Group) :
    (s.mapGroups f).lines = s.lines := rfl
@[simp] theorem State.mapGroups_fleet (f : GroupId → Group → Group) :
    (s.mapGroups f).fleet = s.fleet := rfl
@[simp] theorem State.mapGroups_mode (f : GroupId → Group → Group) :
    (s.mapGroups f).mode = s.mode := rfl
@[simp] theorem State.mapGroups_notices (f : GroupId → Group → Group) :
    (s.mapGroups f).notices = s.notices := rfl
@[simp] theorem State.mapGroups_signals (f : GroupId → Group → Group) :
    (s.mapGroups f).signals = s.signals := rfl
@[simp] theorem State.mapGroups_freeCount (f : GroupId → Group → Group) :
    (s.mapGroups f).freeCount = s.freeCount := rfl
@[simp] theorem State.mapGroups_pending (f : GroupId → Group → Group) :
    (s.mapGroups f).pending = s.pending := rfl

/-! ## State.updLine -/

@[simp] theorem State.updLine_time (l : LineId) (f : LineCtl → LineCtl) :
    (s.updLine l f).time = s.time := rfl
@[simp] theorem State.updLine_tables (l : LineId) (f : LineCtl → LineCtl) :
    (s.updLine l f).tables = s.tables := rfl
@[simp] theorem State.updLine_pads (l : LineId) (f : LineCtl → LineCtl) :
    (s.updLine l f).pads = s.pads := rfl
@[simp] theorem State.updLine_alloc (l : LineId) (f : LineCtl → LineCtl) :
    (s.updLine l f).alloc = s.alloc := rfl
@[simp] theorem State.updLine_groups (l : LineId) (f : LineCtl → LineCtl) :
    (s.updLine l f).groups = s.groups := rfl
@[simp] theorem State.updLine_fleet (l : LineId) (f : LineCtl → LineCtl) :
    (s.updLine l f).fleet = s.fleet := rfl
@[simp] theorem State.updLine_mode (l : LineId) (f : LineCtl → LineCtl) :
    (s.updLine l f).mode = s.mode := rfl
@[simp] theorem State.updLine_notices (l : LineId) (f : LineCtl → LineCtl) :
    (s.updLine l f).notices = s.notices := rfl
@[simp] theorem State.updLine_signals (l : LineId) (f : LineCtl → LineCtl) :
    (s.updLine l f).signals = s.signals := rfl
@[simp] theorem State.updLine_freeCount (l : LineId) (f : LineCtl → LineCtl) :
    (s.updLine l f).freeCount = s.freeCount := rfl
@[simp] theorem State.updLine_pending (l : LineId) (f : LineCtl → LineCtl) :
    (s.updLine l f).pending = s.pending := rfl

/-! ## State.mapLines -/

@[simp] theorem State.mapLines_time (f : LineId → LineCtl → LineCtl) :
    (s.mapLines f).time = s.time := rfl
@[simp] theorem State.mapLines_tables (f : LineId → LineCtl → LineCtl) :
    (s.mapLines f).tables = s.tables := rfl
@[simp] theorem State.mapLines_pads (f : LineId → LineCtl → LineCtl) :
    (s.mapLines f).pads = s.pads := rfl
@[simp] theorem State.mapLines_alloc (f : LineId → LineCtl → LineCtl) :
    (s.mapLines f).alloc = s.alloc := rfl
@[simp] theorem State.mapLines_groups (f : LineId → LineCtl → LineCtl) :
    (s.mapLines f).groups = s.groups := rfl
@[simp] theorem State.mapLines_fleet (f : LineId → LineCtl → LineCtl) :
    (s.mapLines f).fleet = s.fleet := rfl
@[simp] theorem State.mapLines_mode (f : LineId → LineCtl → LineCtl) :
    (s.mapLines f).mode = s.mode := rfl
@[simp] theorem State.mapLines_notices (f : LineId → LineCtl → LineCtl) :
    (s.mapLines f).notices = s.notices := rfl
@[simp] theorem State.mapLines_signals (f : LineId → LineCtl → LineCtl) :
    (s.mapLines f).signals = s.signals := rfl
@[simp] theorem State.mapLines_freeCount (f : LineId → LineCtl → LineCtl) :
    (s.mapLines f).freeCount = s.freeCount := rfl
@[simp] theorem State.mapLines_pending (f : LineId → LineCtl → LineCtl) :
    (s.mapLines f).pending = s.pending := rfl

/-! ## One pads entry after an update

An entry is read at the number of its index, the form that simp brings every read to. -/

/-- Any entry after an update of one. -/
theorem State.updPad_get (p q : PadId) (f : Pad → Pad) :
    (s.updPad p f).pads[q.val] = if p = q then f s.pads[q.val] else s.pads[q.val] := by
  by_cases h : p = q
  · subst h; simp [State.updPad]
  · have h' : (p : Nat) ≠ q := fun e => h (Fin.ext e)
    simp [State.updPad, Vector.getElem_set_ne, h, h']

/-- The updated entry is the function of the old one. -/
@[simp] theorem State.updPad_same (p : PadId) (f : Pad → Pad) :
    (s.updPad p f).pads[p.val] = f s.pads[p.val] := by
  simp [State.updPad_get]

/-- Every other entry is unchanged. -/
theorem State.updPad_other (p q : PadId) (f : Pad → Pad) (h : p ≠ q) :
    (s.updPad p f).pads[q.val] = s.pads[q.val] := by
  simp [State.updPad_get, h]

/-- Every entry after an update of all. -/
@[simp] theorem State.mapPads_get (f : PadId → Pad → Pad) (q : PadId) :
    (s.mapPads f).pads[q.val] = f q s.pads[q.val] := by
  simp [State.mapPads]

/-! ## One groups entry after an update

An entry is read at the number of its index, the form that simp brings every read to. -/

/-- Any entry after an update of one. -/
theorem State.updGroup_get (g q : GroupId) (f : Group → Group) :
    (s.updGroup g f).groups[q.val] = if g = q then f s.groups[q.val] else s.groups[q.val] := by
  by_cases h : g = q
  · subst h; simp [State.updGroup]
  · have h' : (g : Nat) ≠ q := fun e => h (Fin.ext e)
    simp [State.updGroup, Vector.getElem_set_ne, h, h']

/-- The updated entry is the function of the old one. -/
@[simp] theorem State.updGroup_same (g : GroupId) (f : Group → Group) :
    (s.updGroup g f).groups[g.val] = f s.groups[g.val] := by
  simp [State.updGroup_get]

/-- Every other entry is unchanged. -/
theorem State.updGroup_other (g q : GroupId) (f : Group → Group) (h : g ≠ q) :
    (s.updGroup g f).groups[q.val] = s.groups[q.val] := by
  simp [State.updGroup_get, h]

/-- Every entry after an update of all. -/
@[simp] theorem State.mapGroups_get (f : GroupId → Group → Group) (q : GroupId) :
    (s.mapGroups f).groups[q.val] = f q s.groups[q.val] := by
  simp [State.mapGroups]

/-! ## One lines entry after an update

An entry is read at the number of its index, the form that simp brings every read to. -/

/-- Any entry after an update of one. -/
theorem State.updLine_get (l q : LineId) (f : LineCtl → LineCtl) :
    (s.updLine l f).lines[q.val] = if l = q then f s.lines[q.val] else s.lines[q.val] := by
  by_cases h : l = q
  · subst h; simp [State.updLine]
  · have h' : (l : Nat) ≠ q := fun e => h (Fin.ext e)
    simp [State.updLine, Vector.getElem_set_ne, h, h']

/-- The updated entry is the function of the old one. -/
@[simp] theorem State.updLine_same (l : LineId) (f : LineCtl → LineCtl) :
    (s.updLine l f).lines[l.val] = f s.lines[l.val] := by
  simp [State.updLine_get]

/-- Every other entry is unchanged. -/
theorem State.updLine_other (l q : LineId) (f : LineCtl → LineCtl) (h : l ≠ q) :
    (s.updLine l f).lines[q.val] = s.lines[q.val] := by
  simp [State.updLine_get, h]

/-- Every entry after an update of all. -/
@[simp] theorem State.mapLines_get (f : LineId → LineCtl → LineCtl) (q : LineId) :
    (s.mapLines f).lines[q.val] = f q s.lines[q.val] := by
  simp [State.mapLines]

/-! ## The end of an event -/

@[simp] theorem driveOutputs_time : (driveOutputs s).time = s.time := rfl
@[simp] theorem driveOutputs_tables : (driveOutputs s).tables = s.tables := rfl
@[simp] theorem driveOutputs_pads : (driveOutputs s).pads = s.pads := rfl
@[simp] theorem driveOutputs_alloc : (driveOutputs s).alloc = s.alloc := rfl
@[simp] theorem driveOutputs_groups : (driveOutputs s).groups = s.groups := rfl
@[simp] theorem driveOutputs_lines : (driveOutputs s).lines = s.lines := rfl
@[simp] theorem driveOutputs_fleet : (driveOutputs s).fleet = s.fleet := rfl
@[simp] theorem driveOutputs_mode : (driveOutputs s).mode = s.mode := rfl
@[simp] theorem driveOutputs_notices : (driveOutputs s).notices = s.notices := rfl
@[simp] theorem driveOutputs_freeCount : (driveOutputs s).freeCount = s.freeCount := rfl
@[simp] theorem driveOutputs_pending : (driveOutputs s).pending = s.pending := rfl
@[simp] theorem driveOutputs_level : (driveOutputs s).signals.level = s.signals.level := rfl
@[simp] theorem driveOutputs_taken : (driveOutputs s).signals.taken = s.signals.taken := rfl
@[simp] theorem driveOutputs_latch : (driveOutputs s).signals.latch = s.signals.latch := rfl

/-- Every output drives its source at the end of an event (R197). -/
@[simp] theorem driveOutputs_outputs (o : OutputId) :
    (driveOutputs s).signals.outputs[o.val] = s.driven o := by
  simp [driveOutputs]

/-- Driving the outputs changes no source. -/
@[simp] theorem driveOutputs_driven (o : OutputId) : (driveOutputs s).driven o = s.driven o := rfl

/-- What a command's event answers. -/
theorem finish_eq : finish s = .next (driveOutputs s) := rfl

end Sys2Proof.Machine
end

