-- ==== Sys2Proof/Laws/OpsFrames.lean ====
section
/-! SUPPORT. What each shared operation leaves alone: one lemma per operation and field. -/

namespace Sys2Proof.Machine

variable (s : State)

/-- A fold keeps what each of its steps keeps. -/
theorem foldl_keeps {α β : Type} (get : State → β) (f : State → α → State)
    (h : ∀ t a, get (f t a) = get t) : ∀ (l : List α) (t : State), get (l.foldl f t) = get t
  | [], _ => rfl
  | a :: l, t => by rw [List.foldl_cons, foldl_keeps get f h l, h]

/-! ### callNotice: Calling for a NOTICE touches the Fleet Line Port alone (R158). -/

@[simp] theorem callNotice_time : (callNotice s).time = s.time := by
  unfold callNotice; split <;> rfl
@[simp] theorem callNotice_tables : (callNotice s).tables = s.tables := by
  unfold callNotice; split <;> rfl
@[simp] theorem callNotice_pads : (callNotice s).pads = s.pads := by
  unfold callNotice; split <;> rfl
@[simp] theorem callNotice_alloc : (callNotice s).alloc = s.alloc := by
  unfold callNotice; split <;> rfl
@[simp] theorem callNotice_groups : (callNotice s).groups = s.groups := by
  unfold callNotice; split <;> rfl
@[simp] theorem callNotice_lines : (callNotice s).lines = s.lines := by
  unfold callNotice; split <;> rfl
@[simp] theorem callNotice_mode : (callNotice s).mode = s.mode := by
  unfold callNotice; split <;> rfl
@[simp] theorem callNotice_notices : (callNotice s).notices = s.notices := by
  unfold callNotice; split <;> rfl
@[simp] theorem callNotice_signals : (callNotice s).signals = s.signals := by
  unfold callNotice; split <;> rfl
@[simp] theorem callNotice_freeCount : (callNotice s).freeCount = s.freeCount := by
  unfold callNotice; split <;> rfl
@[simp] theorem callNotice_pending : (callNotice s).pending = s.pending := by
  unfold callNotice; split <;> rfl

/-! ### withdrawNotice: Withdrawing an empty NOTICE touches the Fleet Line Port alone (R187, R188). -/

@[simp] theorem withdrawNotice_time : (withdrawNotice s).time = s.time := by
  unfold withdrawNotice; split <;> rfl
@[simp] theorem withdrawNotice_tables : (withdrawNotice s).tables = s.tables := by
  unfold withdrawNotice; split <;> rfl
@[simp] theorem withdrawNotice_pads : (withdrawNotice s).pads = s.pads := by
  unfold withdrawNotice; split <;> rfl
@[simp] theorem withdrawNotice_alloc : (withdrawNotice s).alloc = s.alloc := by
  unfold withdrawNotice; split <;> rfl
@[simp] theorem withdrawNotice_groups : (withdrawNotice s).groups = s.groups := by
  unfold withdrawNotice; split <;> rfl
@[simp] theorem withdrawNotice_lines : (withdrawNotice s).lines = s.lines := by
  unfold withdrawNotice; split <;> rfl
@[simp] theorem withdrawNotice_mode : (withdrawNotice s).mode = s.mode := by
  unfold withdrawNotice; split <;> rfl
@[simp] theorem withdrawNotice_notices : (withdrawNotice s).notices = s.notices := by
  unfold withdrawNotice; split <;> rfl
@[simp] theorem withdrawNotice_signals : (withdrawNotice s).signals = s.signals := by
  unfold withdrawNotice; split <;> rfl
@[simp] theorem withdrawNotice_freeCount : (withdrawNotice s).freeCount = s.freeCount := by
  unfold withdrawNotice; split <;> rfl
@[simp] theorem withdrawNotice_pending : (withdrawNotice s).pending = s.pending := by
  unfold withdrawNotice; split <;> rfl

/-! ### raise: Raising a kind touches the Notice Unit and the Fleet Line Port alone (R185). -/

@[simp] theorem raise_time (k : Notice) : (raise k s).time = s.time := by
  unfold raise; dsimp only; repeat' split
  all_goals simp
@[simp] theorem raise_tables (k : Notice) : (raise k s).tables = s.tables := by
  unfold raise; dsimp only; repeat' split
  all_goals simp
@[simp] theorem raise_pads (k : Notice) : (raise k s).pads = s.pads := by
  unfold raise; dsimp only; repeat' split
  all_goals simp
@[simp] theorem raise_alloc (k : Notice) : (raise k s).alloc = s.alloc := by
  unfold raise; dsimp only; repeat' split
  all_goals simp
@[simp] theorem raise_groups (k : Notice) : (raise k s).groups = s.groups := by
  unfold raise; dsimp only; repeat' split
  all_goals simp
@[simp] theorem raise_lines (k : Notice) : (raise k s).lines = s.lines := by
  unfold raise; dsimp only; repeat' split
  all_goals simp
@[simp] theorem raise_mode (k : Notice) : (raise k s).mode = s.mode := by
  unfold raise; dsimp only; repeat' split
  all_goals simp
@[simp] theorem raise_signals (k : Notice) : (raise k s).signals = s.signals := by
  unfold raise; dsimp only; repeat' split
  all_goals simp
@[simp] theorem raise_freeCount (k : Notice) : (raise k s).freeCount = s.freeCount := by
  unfold raise; dsimp only; repeat' split
  all_goals simp
@[simp] theorem raise_pending (k : Notice) : (raise k s).pending = s.pending := by
  unfold raise; dsimp only; repeat' split
  all_goals simp

/-! ### raiseIf: As raising. -/

@[simp] theorem raiseIf_time (b : Bool) (k : Notice) : (raiseIf b k s).time = s.time := by
  unfold raiseIf; split <;> simp
@[simp] theorem raiseIf_tables (b : Bool) (k : Notice) : (raiseIf b k s).tables = s.tables := by
  unfold raiseIf; split <;> simp
@[simp] theorem raiseIf_pads (b : Bool) (k : Notice) : (raiseIf b k s).pads = s.pads := by
  unfold raiseIf; split <;> simp
@[simp] theorem raiseIf_alloc (b : Bool) (k : Notice) : (raiseIf b k s).alloc = s.alloc := by
  unfold raiseIf; split <;> simp
@[simp] theorem raiseIf_groups (b : Bool) (k : Notice) : (raiseIf b k s).groups = s.groups := by
  unfold raiseIf; split <;> simp
@[simp] theorem raiseIf_lines (b : Bool) (k : Notice) : (raiseIf b k s).lines = s.lines := by
  unfold raiseIf; split <;> simp
@[simp] theorem raiseIf_mode (b : Bool) (k : Notice) : (raiseIf b k s).mode = s.mode := by
  unfold raiseIf; split <;> simp
@[simp] theorem raiseIf_signals (b : Bool) (k : Notice) : (raiseIf b k s).signals = s.signals := by
  unfold raiseIf; split <;> simp
@[simp] theorem raiseIf_freeCount (b : Bool) (k : Notice) : (raiseIf b k s).freeCount = s.freeCount := by
  unfold raiseIf; split <;> simp
@[simp] theorem raiseIf_pending (b : Bool) (k : Notice) : (raiseIf b k s).pending = s.pending := by
  unfold raiseIf; split <;> simp

/-! ### raiseAll: As raising. -/

@[simp] theorem raiseAll_time (ks : List Notice) : (raiseAll ks s).time = s.time := by
  unfold raiseAll; exact foldl_keeps (fun t => t.time) _ (fun t k => raise_time t k) ks s
@[simp] theorem raiseAll_tables (ks : List Notice) : (raiseAll ks s).tables = s.tables := by
  unfold raiseAll; exact foldl_keeps (fun t => t.tables) _ (fun t k => raise_tables t k) ks s
@[simp] theorem raiseAll_pads (ks : List Notice) : (raiseAll ks s).pads = s.pads := by
  unfold raiseAll; exact foldl_keeps (fun t => t.pads) _ (fun t k => raise_pads t k) ks s
@[simp] theorem raiseAll_alloc (ks : List Notice) : (raiseAll ks s).alloc = s.alloc := by
  unfold raiseAll; exact foldl_keeps (fun t => t.alloc) _ (fun t k => raise_alloc t k) ks s
@[simp] theorem raiseAll_groups (ks : List Notice) : (raiseAll ks s).groups = s.groups := by
  unfold raiseAll; exact foldl_keeps (fun t => t.groups) _ (fun t k => raise_groups t k) ks s
@[simp] theorem raiseAll_lines (ks : List Notice) : (raiseAll ks s).lines = s.lines := by
  unfold raiseAll; exact foldl_keeps (fun t => t.lines) _ (fun t k => raise_lines t k) ks s
@[simp] theorem raiseAll_mode (ks : List Notice) : (raiseAll ks s).mode = s.mode := by
  unfold raiseAll; exact foldl_keeps (fun t => t.mode) _ (fun t k => raise_mode t k) ks s
@[simp] theorem raiseAll_signals (ks : List Notice) : (raiseAll ks s).signals = s.signals := by
  unfold raiseAll; exact foldl_keeps (fun t => t.signals) _ (fun t k => raise_signals t k) ks s
@[simp] theorem raiseAll_freeCount (ks : List Notice) : (raiseAll ks s).freeCount = s.freeCount := by
  unfold raiseAll; exact foldl_keeps (fun t => t.freeCount) _ (fun t k => raise_freeCount t k) ks s
@[simp] theorem raiseAll_pending (ks : List Notice) : (raiseAll ks s).pending = s.pending := by
  unfold raiseAll; exact foldl_keeps (fun t => t.pending) _ (fun t k => raise_pending t k) ks s

/-! ### captureEvent: A capture event touches the Notice Unit and the Fleet Line Port alone (R182). -/

@[simp] theorem captureEvent_time (p : PadId) (x : CaptureSource) (c : Byte) (w : Nat) : (captureEvent p x c w s).time = s.time := by
  unfold captureEvent; dsimp only; split <;> simp
@[simp] theorem captureEvent_tables (p : PadId) (x : CaptureSource) (c : Byte) (w : Nat) : (captureEvent p x c w s).tables = s.tables := by
  unfold captureEvent; dsimp only; split <;> simp
@[simp] theorem captureEvent_pads (p : PadId) (x : CaptureSource) (c : Byte) (w : Nat) : (captureEvent p x c w s).pads = s.pads := by
  unfold captureEvent; dsimp only; split <;> simp
@[simp] theorem captureEvent_alloc (p : PadId) (x : CaptureSource) (c : Byte) (w : Nat) : (captureEvent p x c w s).alloc = s.alloc := by
  unfold captureEvent; dsimp only; split <;> simp
@[simp] theorem captureEvent_groups (p : PadId) (x : CaptureSource) (c : Byte) (w : Nat) : (captureEvent p x c w s).groups = s.groups := by
  unfold captureEvent; dsimp only; split <;> simp
@[simp] theorem captureEvent_lines (p : PadId) (x : CaptureSource) (c : Byte) (w : Nat) : (captureEvent p x c w s).lines = s.lines := by
  unfold captureEvent; dsimp only; split <;> simp
@[simp] theorem captureEvent_mode (p : PadId) (x : CaptureSource) (c : Byte) (w : Nat) : (captureEvent p x c w s).mode = s.mode := by
  unfold captureEvent; dsimp only; split <;> simp
@[simp] theorem captureEvent_signals (p : PadId) (x : CaptureSource) (c : Byte) (w : Nat) : (captureEvent p x c w s).signals = s.signals := by
  unfold captureEvent; dsimp only; split <;> simp
@[simp] theorem captureEvent_freeCount (p : PadId) (x : CaptureSource) (c : Byte) (w : Nat) : (captureEvent p x c w s).freeCount = s.freeCount := by
  unfold captureEvent; dsimp only; split <;> simp
@[simp] theorem captureEvent_pending (p : PadId) (x : CaptureSource) (c : Byte) (w : Nat) : (captureEvent p x c w s).pending = s.pending := by
  unfold captureEvent; dsimp only; split <;> simp

/-! ### joinUrgent: Joining an urgent list touches the lines alone (R139). -/

@[simp] theorem joinUrgent_time (p : PadId) : (joinUrgent p s).time = s.time := by
  simp [joinUrgent]
@[simp] theorem joinUrgent_tables (p : PadId) : (joinUrgent p s).tables = s.tables := by
  simp [joinUrgent]
@[simp] theorem joinUrgent_pads (p : PadId) : (joinUrgent p s).pads = s.pads := by
  simp [joinUrgent]
@[simp] theorem joinUrgent_alloc (p : PadId) : (joinUrgent p s).alloc = s.alloc := by
  simp [joinUrgent]
@[simp] theorem joinUrgent_groups (p : PadId) : (joinUrgent p s).groups = s.groups := by
  simp [joinUrgent]
@[simp] theorem joinUrgent_fleet (p : PadId) : (joinUrgent p s).fleet = s.fleet := by
  simp [joinUrgent]
@[simp] theorem joinUrgent_mode (p : PadId) : (joinUrgent p s).mode = s.mode := by
  simp [joinUrgent]
@[simp] theorem joinUrgent_notices (p : PadId) : (joinUrgent p s).notices = s.notices := by
  simp [joinUrgent]
@[simp] theorem joinUrgent_signals (p : PadId) : (joinUrgent p s).signals = s.signals := by
  simp [joinUrgent]
@[simp] theorem joinUrgent_freeCount (p : PadId) : (joinUrgent p s).freeCount = s.freeCount := by
  simp [joinUrgent]
@[simp] theorem joinUrgent_pending (p : PadId) : (joinUrgent p s).pending = s.pending := by
  simp [joinUrgent]

/-! ### decrease: The decrease path touches the pads and the lines alone (R76). -/

@[simp] theorem decrease_time (p : PadId) (v : Nat) : (decrease p v s).time = s.time := by
  unfold decrease; dsimp only; split <;> simp
@[simp] theorem decrease_tables (p : PadId) (v : Nat) : (decrease p v s).tables = s.tables := by
  unfold decrease; dsimp only; split <;> simp
@[simp] theorem decrease_alloc (p : PadId) (v : Nat) : (decrease p v s).alloc = s.alloc := by
  unfold decrease; dsimp only; split <;> simp
@[simp] theorem decrease_groups (p : PadId) (v : Nat) : (decrease p v s).groups = s.groups := by
  unfold decrease; dsimp only; split <;> simp
@[simp] theorem decrease_fleet (p : PadId) (v : Nat) : (decrease p v s).fleet = s.fleet := by
  unfold decrease; dsimp only; split <;> simp
@[simp] theorem decrease_mode (p : PadId) (v : Nat) : (decrease p v s).mode = s.mode := by
  unfold decrease; dsimp only; split <;> simp
@[simp] theorem decrease_notices (p : PadId) (v : Nat) : (decrease p v s).notices = s.notices := by
  unfold decrease; dsimp only; split <;> simp
@[simp] theorem decrease_signals (p : PadId) (v : Nat) : (decrease p v s).signals = s.signals := by
  unfold decrease; dsimp only; split <;> simp
@[simp] theorem decrease_freeCount (p : PadId) (v : Nat) : (decrease p v s).freeCount = s.freeCount := by
  unfold decrease; dsimp only; split <;> simp
@[simp] theorem decrease_pending (p : PadId) (v : Nat) : (decrease p v s).pending = s.pending := by
  unfold decrease; dsimp only; split <;> simp

/-! ### decreaseMany: As the decrease path, with one use of the free order. -/

@[simp] theorem decreaseMany_time (x : PadId → Option Nat) : (decreaseMany x s).time = s.time := by
  simp [decreaseMany]
@[simp] theorem decreaseMany_tables (x : PadId → Option Nat) : (decreaseMany x s).tables = s.tables := by
  simp [decreaseMany]
@[simp] theorem decreaseMany_alloc (x : PadId → Option Nat) : (decreaseMany x s).alloc = s.alloc := by
  simp [decreaseMany]
@[simp] theorem decreaseMany_groups (x : PadId → Option Nat) : (decreaseMany x s).groups = s.groups := by
  simp [decreaseMany]
@[simp] theorem decreaseMany_fleet (x : PadId → Option Nat) : (decreaseMany x s).fleet = s.fleet := by
  simp [decreaseMany]
@[simp] theorem decreaseMany_mode (x : PadId → Option Nat) : (decreaseMany x s).mode = s.mode := by
  simp [decreaseMany]
@[simp] theorem decreaseMany_notices (x : PadId → Option Nat) : (decreaseMany x s).notices = s.notices := by
  simp [decreaseMany]
@[simp] theorem decreaseMany_signals (x : PadId → Option Nat) : (decreaseMany x s).signals = s.signals := by
  simp [decreaseMany]
@[simp] theorem decreaseMany_pending (x : PadId → Option Nat) : (decreaseMany x s).pending = s.pending := by
  simp [decreaseMany]

/-! ### increaseRelease: The increase release touches the pads alone (R79). -/

@[simp] theorem increaseRelease_time : (increaseRelease s).time = s.time := by
  unfold increaseRelease; split <;> simp
@[simp] theorem increaseRelease_tables : (increaseRelease s).tables = s.tables := by
  unfold increaseRelease; split <;> simp
@[simp] theorem increaseRelease_alloc : (increaseRelease s).alloc = s.alloc := by
  unfold increaseRelease; split <;> simp
@[simp] theorem increaseRelease_groups : (increaseRelease s).groups = s.groups := by
  unfold increaseRelease; split <;> simp
@[simp] theorem increaseRelease_lines : (increaseRelease s).lines = s.lines := by
  unfold increaseRelease; split <;> simp
@[simp] theorem increaseRelease_fleet : (increaseRelease s).fleet = s.fleet := by
  unfold increaseRelease; split <;> simp
@[simp] theorem increaseRelease_mode : (increaseRelease s).mode = s.mode := by
  unfold increaseRelease; split <;> simp
@[simp] theorem increaseRelease_notices : (increaseRelease s).notices = s.notices := by
  unfold increaseRelease; split <;> simp
@[simp] theorem increaseRelease_signals : (increaseRelease s).signals = s.signals := by
  unfold increaseRelease; split <;> simp
@[simp] theorem increaseRelease_freeCount : (increaseRelease s).freeCount = s.freeCount := by
  unfold increaseRelease; split <;> simp
@[simp] theorem increaseRelease_pending : (increaseRelease s).pending = s.pending := by
  unfold increaseRelease; split <;> simp

/-! ### shedPad: One pad of a walk is lowered by the decrease path (R82). -/

@[simp] theorem shedPad_time (a b : State → Nat) (m : State → PadId → Bool) (p : PadId) : (shedPad a b m s p).time = s.time := by
  unfold shedPad; split <;> simp
@[simp] theorem shedPad_tables (a b : State → Nat) (m : State → PadId → Bool) (p : PadId) : (shedPad a b m s p).tables = s.tables := by
  unfold shedPad; split <;> simp
@[simp] theorem shedPad_alloc (a b : State → Nat) (m : State → PadId → Bool) (p : PadId) : (shedPad a b m s p).alloc = s.alloc := by
  unfold shedPad; split <;> simp
@[simp] theorem shedPad_groups (a b : State → Nat) (m : State → PadId → Bool) (p : PadId) : (shedPad a b m s p).groups = s.groups := by
  unfold shedPad; split <;> simp
@[simp] theorem shedPad_fleet (a b : State → Nat) (m : State → PadId → Bool) (p : PadId) : (shedPad a b m s p).fleet = s.fleet := by
  unfold shedPad; split <;> simp
@[simp] theorem shedPad_mode (a b : State → Nat) (m : State → PadId → Bool) (p : PadId) : (shedPad a b m s p).mode = s.mode := by
  unfold shedPad; split <;> simp
@[simp] theorem shedPad_notices (a b : State → Nat) (m : State → PadId → Bool) (p : PadId) : (shedPad a b m s p).notices = s.notices := by
  unfold shedPad; split <;> simp
@[simp] theorem shedPad_signals (a b : State → Nat) (m : State → PadId → Bool) (p : PadId) : (shedPad a b m s p).signals = s.signals := by
  unfold shedPad; split <;> simp
@[simp] theorem shedPad_freeCount (a b : State → Nat) (m : State → PadId → Bool) (p : PadId) : (shedPad a b m s p).freeCount = s.freeCount := by
  unfold shedPad; split <;> simp
@[simp] theorem shedPad_pending (a b : State → Nat) (m : State → PadId → Bool) (p : PadId) : (shedPad a b m s p).pending = s.pending := by
  unfold shedPad; split <;> simp

/-! ### walk: A walk lowers pads (R82). -/

@[simp] theorem walk_time (a b : State → Nat) (m : State → PadId → Bool) : (walk a b m s).time = s.time := by
  unfold walk; exact foldl_keeps (fun t => t.time) _ (fun t p => shedPad_time t a b m p) _ s
@[simp] theorem walk_tables (a b : State → Nat) (m : State → PadId → Bool) : (walk a b m s).tables = s.tables := by
  unfold walk; exact foldl_keeps (fun t => t.tables) _ (fun t p => shedPad_tables t a b m p) _ s
@[simp] theorem walk_alloc (a b : State → Nat) (m : State → PadId → Bool) : (walk a b m s).alloc = s.alloc := by
  unfold walk; exact foldl_keeps (fun t => t.alloc) _ (fun t p => shedPad_alloc t a b m p) _ s
@[simp] theorem walk_groups (a b : State → Nat) (m : State → PadId → Bool) : (walk a b m s).groups = s.groups := by
  unfold walk; exact foldl_keeps (fun t => t.groups) _ (fun t p => shedPad_groups t a b m p) _ s
@[simp] theorem walk_fleet (a b : State → Nat) (m : State → PadId → Bool) : (walk a b m s).fleet = s.fleet := by
  unfold walk; exact foldl_keeps (fun t => t.fleet) _ (fun t p => shedPad_fleet t a b m p) _ s
@[simp] theorem walk_mode (a b : State → Nat) (m : State → PadId → Bool) : (walk a b m s).mode = s.mode := by
  unfold walk; exact foldl_keeps (fun t => t.mode) _ (fun t p => shedPad_mode t a b m p) _ s
@[simp] theorem walk_notices (a b : State → Nat) (m : State → PadId → Bool) : (walk a b m s).notices = s.notices := by
  unfold walk; exact foldl_keeps (fun t => t.notices) _ (fun t p => shedPad_notices t a b m p) _ s
@[simp] theorem walk_signals (a b : State → Nat) (m : State → PadId → Bool) : (walk a b m s).signals = s.signals := by
  unfold walk; exact foldl_keeps (fun t => t.signals) _ (fun t p => shedPad_signals t a b m p) _ s
@[simp] theorem walk_freeCount (a b : State → Nat) (m : State → PadId → Bool) : (walk a b m s).freeCount = s.freeCount := by
  unfold walk; exact foldl_keeps (fun t => t.freeCount) _ (fun t p => shedPad_freeCount t a b m p) _ s
@[simp] theorem walk_pending (a b : State → Nat) (m : State → PadId → Bool) : (walk a b m s).pending = s.pending := by
  unfold walk; exact foldl_keeps (fun t => t.pending) _ (fun t p => shedPad_pending t a b m p) _ s

/-! ### groupWalk: A group walk lowers pads (R82). -/

@[simp] theorem groupWalk_time (g : GroupId) : (groupWalk s g).time = s.time := by
  unfold groupWalk; split <;> simp
@[simp] theorem groupWalk_tables (g : GroupId) : (groupWalk s g).tables = s.tables := by
  unfold groupWalk; split <;> simp
@[simp] theorem groupWalk_alloc (g : GroupId) : (groupWalk s g).alloc = s.alloc := by
  unfold groupWalk; split <;> simp
@[simp] theorem groupWalk_groups (g : GroupId) : (groupWalk s g).groups = s.groups := by
  unfold groupWalk; split <;> simp
@[simp] theorem groupWalk_fleet (g : GroupId) : (groupWalk s g).fleet = s.fleet := by
  unfold groupWalk; split <;> simp
@[simp] theorem groupWalk_mode (g : GroupId) : (groupWalk s g).mode = s.mode := by
  unfold groupWalk; split <;> simp
@[simp] theorem groupWalk_notices (g : GroupId) : (groupWalk s g).notices = s.notices := by
  unfold groupWalk; split <;> simp
@[simp] theorem groupWalk_signals (g : GroupId) : (groupWalk s g).signals = s.signals := by
  unfold groupWalk; split <;> simp
@[simp] theorem groupWalk_freeCount (g : GroupId) : (groupWalk s g).freeCount = s.freeCount := by
  unfold groupWalk; split <;> simp
@[simp] theorem groupWalk_pending (g : GroupId) : (groupWalk s g).pending = s.pending := by
  unfold groupWalk; split <;> simp

/-! ### siteWalk: The site walk lowers pads (R83). -/

@[simp] theorem siteWalk_time : (siteWalk s).time = s.time := by
  unfold siteWalk; split <;> simp
@[simp] theorem siteWalk_tables : (siteWalk s).tables = s.tables := by
  unfold siteWalk; split <;> simp
@[simp] theorem siteWalk_alloc : (siteWalk s).alloc = s.alloc := by
  unfold siteWalk; split <;> simp
@[simp] theorem siteWalk_groups : (siteWalk s).groups = s.groups := by
  unfold siteWalk; split <;> simp
@[simp] theorem siteWalk_fleet : (siteWalk s).fleet = s.fleet := by
  unfold siteWalk; split <;> simp
@[simp] theorem siteWalk_mode : (siteWalk s).mode = s.mode := by
  unfold siteWalk; split <;> simp
@[simp] theorem siteWalk_notices : (siteWalk s).notices = s.notices := by
  unfold siteWalk; split <;> simp
@[simp] theorem siteWalk_signals : (siteWalk s).signals = s.signals := by
  unfold siteWalk; split <;> simp
@[simp] theorem siteWalk_freeCount : (siteWalk s).freeCount = s.freeCount := by
  unfold siteWalk; split <;> simp
@[simp] theorem siteWalk_pending : (siteWalk s).pending = s.pending := by
  unfold siteWalk; split <;> simp

/-! ### setFastShed: Setting the fast-shed state. -/

@[simp] theorem State.setFastShed_time (x : FastShed) : (s.setFastShed x).time = s.time := by
  rfl
@[simp] theorem State.setFastShed_tables (x : FastShed) : (s.setFastShed x).tables = s.tables := by
  rfl
@[simp] theorem State.setFastShed_pads (x : FastShed) : (s.setFastShed x).pads = s.pads := by
  rfl
@[simp] theorem State.setFastShed_groups (x : FastShed) : (s.setFastShed x).groups = s.groups := by
  rfl
@[simp] theorem State.setFastShed_lines (x : FastShed) : (s.setFastShed x).lines = s.lines := by
  rfl
@[simp] theorem State.setFastShed_fleet (x : FastShed) : (s.setFastShed x).fleet = s.fleet := by
  rfl
@[simp] theorem State.setFastShed_mode (x : FastShed) : (s.setFastShed x).mode = s.mode := by
  rfl
@[simp] theorem State.setFastShed_notices (x : FastShed) : (s.setFastShed x).notices = s.notices := by
  rfl
@[simp] theorem State.setFastShed_signals (x : FastShed) : (s.setFastShed x).signals = s.signals := by
  rfl
@[simp] theorem State.setFastShed_freeCount (x : FastShed) : (s.setFastShed x).freeCount = s.freeCount := by
  rfl
@[simp] theorem State.setFastShed_pending (x : FastShed) : (s.setFastShed x).pending = s.pending := by
  rfl

/-! ### startPass: A pass touches the pads, the lines and the fast-shed state (R82, R83). -/

@[simp] theorem startPass_time : (startPass s).time = s.time := by
  unfold startPass; rw [siteWalk_time, foldl_keeps (fun t => t.time) _ (fun t g => groupWalk_time t g)]; rfl
@[simp] theorem startPass_tables : (startPass s).tables = s.tables := by
  unfold startPass; rw [siteWalk_tables, foldl_keeps (fun t => t.tables) _ (fun t g => groupWalk_tables t g)]; rfl
@[simp] theorem startPass_groups : (startPass s).groups = s.groups := by
  unfold startPass; rw [siteWalk_groups, foldl_keeps (fun t => t.groups) _ (fun t g => groupWalk_groups t g)]; rfl
@[simp] theorem startPass_fleet : (startPass s).fleet = s.fleet := by
  unfold startPass; rw [siteWalk_fleet, foldl_keeps (fun t => t.fleet) _ (fun t g => groupWalk_fleet t g)]; rfl
@[simp] theorem startPass_mode : (startPass s).mode = s.mode := by
  unfold startPass; rw [siteWalk_mode, foldl_keeps (fun t => t.mode) _ (fun t g => groupWalk_mode t g)]; rfl
@[simp] theorem startPass_notices : (startPass s).notices = s.notices := by
  unfold startPass; rw [siteWalk_notices, foldl_keeps (fun t => t.notices) _ (fun t g => groupWalk_notices t g)]; rfl
@[simp] theorem startPass_signals : (startPass s).signals = s.signals := by
  unfold startPass; rw [siteWalk_signals, foldl_keeps (fun t => t.signals) _ (fun t g => groupWalk_signals t g)]; rfl
@[simp] theorem startPass_freeCount : (startPass s).freeCount = s.freeCount := by
  unfold startPass; rw [siteWalk_freeCount, foldl_keeps (fun t => t.freeCount) _ (fun t g => groupWalk_freeCount t g)]; rfl
@[simp] theorem startPass_pending : (startPass s).pending = s.pending := by
  unfold startPass; rw [siteWalk_pending, foldl_keeps (fun t => t.pending) _ (fun t g => groupWalk_pending t g)]; rfl

/-! ### fastShedCheck: The fast-shed check touches what a pass touches (R81). -/

@[simp] theorem fastShedCheck_time : (fastShedCheck s).time = s.time := by
  unfold fastShedCheck; repeat' split
  all_goals simp
@[simp] theorem fastShedCheck_tables : (fastShedCheck s).tables = s.tables := by
  unfold fastShedCheck; repeat' split
  all_goals simp
@[simp] theorem fastShedCheck_groups : (fastShedCheck s).groups = s.groups := by
  unfold fastShedCheck; repeat' split
  all_goals simp
@[simp] theorem fastShedCheck_fleet : (fastShedCheck s).fleet = s.fleet := by
  unfold fastShedCheck; repeat' split
  all_goals simp
@[simp] theorem fastShedCheck_mode : (fastShedCheck s).mode = s.mode := by
  unfold fastShedCheck; repeat' split
  all_goals simp
@[simp] theorem fastShedCheck_notices : (fastShedCheck s).notices = s.notices := by
  unfold fastShedCheck; repeat' split
  all_goals simp
@[simp] theorem fastShedCheck_signals : (fastShedCheck s).signals = s.signals := by
  unfold fastShedCheck; repeat' split
  all_goals simp
@[simp] theorem fastShedCheck_freeCount : (fastShedCheck s).freeCount = s.freeCount := by
  unfold fastShedCheck; repeat' split
  all_goals simp
@[simp] theorem fastShedCheck_pending : (fastShedCheck s).pending = s.pending := by
  unfold fastShedCheck; repeat' split
  all_goals simp

/-! ### checkAtPassEnd: As the fast-shed check (R84). -/

@[simp] theorem checkAtPassEnd_time : (checkAtPassEnd s).time = s.time := by
  unfold checkAtPassEnd; split <;> simp
@[simp] theorem checkAtPassEnd_tables : (checkAtPassEnd s).tables = s.tables := by
  unfold checkAtPassEnd; split <;> simp
@[simp] theorem checkAtPassEnd_groups : (checkAtPassEnd s).groups = s.groups := by
  unfold checkAtPassEnd; split <;> simp
@[simp] theorem checkAtPassEnd_fleet : (checkAtPassEnd s).fleet = s.fleet := by
  unfold checkAtPassEnd; split <;> simp
@[simp] theorem checkAtPassEnd_mode : (checkAtPassEnd s).mode = s.mode := by
  unfold checkAtPassEnd; split <;> simp
@[simp] theorem checkAtPassEnd_notices : (checkAtPassEnd s).notices = s.notices := by
  unfold checkAtPassEnd; split <;> simp
@[simp] theorem checkAtPassEnd_signals : (checkAtPassEnd s).signals = s.signals := by
  unfold checkAtPassEnd; split <;> simp
@[simp] theorem checkAtPassEnd_freeCount : (checkAtPassEnd s).freeCount = s.freeCount := by
  unfold checkAtPassEnd; split <;> simp
@[simp] theorem checkAtPassEnd_pending : (checkAtPassEnd s).pending = s.pending := by
  unfold checkAtPassEnd; split <;> simp

/-! ### storeCapacity: Storing a capacity touches the groups alone (R92). -/

@[simp] theorem storeCapacity_time (g : GroupId) : (storeCapacity g s).time = s.time := by
  simp [storeCapacity]
@[simp] theorem storeCapacity_tables (g : GroupId) : (storeCapacity g s).tables = s.tables := by
  simp [storeCapacity]
@[simp] theorem storeCapacity_pads (g : GroupId) : (storeCapacity g s).pads = s.pads := by
  simp [storeCapacity]
@[simp] theorem storeCapacity_alloc (g : GroupId) : (storeCapacity g s).alloc = s.alloc := by
  simp [storeCapacity]
@[simp] theorem storeCapacity_lines (g : GroupId) : (storeCapacity g s).lines = s.lines := by
  simp [storeCapacity]
@[simp] theorem storeCapacity_fleet (g : GroupId) : (storeCapacity g s).fleet = s.fleet := by
  simp [storeCapacity]
@[simp] theorem storeCapacity_mode (g : GroupId) : (storeCapacity g s).mode = s.mode := by
  simp [storeCapacity]
@[simp] theorem storeCapacity_notices (g : GroupId) : (storeCapacity g s).notices = s.notices := by
  simp [storeCapacity]
@[simp] theorem storeCapacity_signals (g : GroupId) : (storeCapacity g s).signals = s.signals := by
  simp [storeCapacity]
@[simp] theorem storeCapacity_freeCount (g : GroupId) : (storeCapacity g s).freeCount = s.freeCount := by
  simp [storeCapacity]
@[simp] theorem storeCapacity_pending (g : GroupId) : (storeCapacity g s).pending = s.pending := by
  simp [storeCapacity]

/-! ### recompute: Recomputing a capacity may make the fast-shed check (R92). -/

@[simp] theorem recompute_time (g : GroupId) : (recompute g s).time = s.time := by
  unfold recompute; split <;> simp
@[simp] theorem recompute_tables (g : GroupId) : (recompute g s).tables = s.tables := by
  unfold recompute; split <;> simp
@[simp] theorem recompute_fleet (g : GroupId) : (recompute g s).fleet = s.fleet := by
  unfold recompute; split <;> simp
@[simp] theorem recompute_mode (g : GroupId) : (recompute g s).mode = s.mode := by
  unfold recompute; split <;> simp
@[simp] theorem recompute_notices (g : GroupId) : (recompute g s).notices = s.notices := by
  unfold recompute; split <;> simp
@[simp] theorem recompute_signals (g : GroupId) : (recompute g s).signals = s.signals := by
  unfold recompute; split <;> simp
@[simp] theorem recompute_freeCount (g : GroupId) : (recompute g s).freeCount = s.freeCount := by
  unfold recompute; split <;> simp
@[simp] theorem recompute_pending (g : GroupId) : (recompute g s).pending = s.pending := by
  unfold recompute; split <;> simp

/-! ### storeAllCapacities: Storing every capacity touches the groups alone (R23). -/

@[simp] theorem storeAllCapacities_time : (storeAllCapacities s).time = s.time := by
  simp [storeAllCapacities]
@[simp] theorem storeAllCapacities_tables : (storeAllCapacities s).tables = s.tables := by
  simp [storeAllCapacities]
@[simp] theorem storeAllCapacities_pads : (storeAllCapacities s).pads = s.pads := by
  simp [storeAllCapacities]
@[simp] theorem storeAllCapacities_alloc : (storeAllCapacities s).alloc = s.alloc := by
  simp [storeAllCapacities]
@[simp] theorem storeAllCapacities_lines : (storeAllCapacities s).lines = s.lines := by
  simp [storeAllCapacities]
@[simp] theorem storeAllCapacities_fleet : (storeAllCapacities s).fleet = s.fleet := by
  simp [storeAllCapacities]
@[simp] theorem storeAllCapacities_mode : (storeAllCapacities s).mode = s.mode := by
  simp [storeAllCapacities]
@[simp] theorem storeAllCapacities_notices : (storeAllCapacities s).notices = s.notices := by
  simp [storeAllCapacities]
@[simp] theorem storeAllCapacities_signals : (storeAllCapacities s).signals = s.signals := by
  simp [storeAllCapacities]
@[simp] theorem storeAllCapacities_freeCount : (storeAllCapacities s).freeCount = s.freeCount := by
  simp [storeAllCapacities]
@[simp] theorem storeAllCapacities_pending : (storeAllCapacities s).pending = s.pending := by
  simp [storeAllCapacities]

/-! ### moveVoltage: An evaluation moves the voltage state and raises notices (R100). -/

@[simp] theorem moveVoltage_time (g : GroupId) : (moveVoltage g s).time = s.time := by
  unfold moveVoltage; split <;> simp
@[simp] theorem moveVoltage_tables (g : GroupId) : (moveVoltage g s).tables = s.tables := by
  unfold moveVoltage; split <;> simp
@[simp] theorem moveVoltage_pads (g : GroupId) : (moveVoltage g s).pads = s.pads := by
  unfold moveVoltage; split <;> simp
@[simp] theorem moveVoltage_alloc (g : GroupId) : (moveVoltage g s).alloc = s.alloc := by
  unfold moveVoltage; split <;> simp
@[simp] theorem moveVoltage_lines (g : GroupId) : (moveVoltage g s).lines = s.lines := by
  unfold moveVoltage; split <;> simp
@[simp] theorem moveVoltage_mode (g : GroupId) : (moveVoltage g s).mode = s.mode := by
  unfold moveVoltage; split <;> simp
@[simp] theorem moveVoltage_signals (g : GroupId) : (moveVoltage g s).signals = s.signals := by
  unfold moveVoltage; split <;> simp
@[simp] theorem moveVoltage_freeCount (g : GroupId) : (moveVoltage g s).freeCount = s.freeCount := by
  unfold moveVoltage; split <;> simp
@[simp] theorem moveVoltage_pending (g : GroupId) : (moveVoltage g s).pending = s.pending := by
  unfold moveVoltage; split <;> simp

/-! ### evaluateVoltage: An evaluation and the recomputing that follows it (R104). -/

@[simp] theorem evaluateVoltage_time (g : GroupId) : (evaluateVoltage g s).time = s.time := by
  unfold evaluateVoltage; dsimp only; split <;> simp
@[simp] theorem evaluateVoltage_tables (g : GroupId) : (evaluateVoltage g s).tables = s.tables := by
  unfold evaluateVoltage; dsimp only; split <;> simp
@[simp] theorem evaluateVoltage_mode (g : GroupId) : (evaluateVoltage g s).mode = s.mode := by
  unfold evaluateVoltage; dsimp only; split <;> simp
@[simp] theorem evaluateVoltage_signals (g : GroupId) : (evaluateVoltage g s).signals = s.signals := by
  unfold evaluateVoltage; dsimp only; split <;> simp
@[simp] theorem evaluateVoltage_freeCount (g : GroupId) : (evaluateVoltage g s).freeCount = s.freeCount := by
  unfold evaluateVoltage; dsimp only; split <;> simp
@[simp] theorem evaluateVoltage_pending (g : GroupId) : (evaluateVoltage g s).pending = s.pending := by
  unfold evaluateVoltage; dsimp only; split <;> simp

/-! ### reformShed: Re-forming a shed-input state may recompute the capacity (R106). -/

@[simp] theorem reformShed_time (g : GroupId) : (reformShed g s).time = s.time := by
  unfold reformShed; split <;> simp
@[simp] theorem reformShed_tables (g : GroupId) : (reformShed g s).tables = s.tables := by
  unfold reformShed; split <;> simp
@[simp] theorem reformShed_fleet (g : GroupId) : (reformShed g s).fleet = s.fleet := by
  unfold reformShed; split <;> simp
@[simp] theorem reformShed_mode (g : GroupId) : (reformShed g s).mode = s.mode := by
  unfold reformShed; split <;> simp
@[simp] theorem reformShed_notices (g : GroupId) : (reformShed g s).notices = s.notices := by
  unfold reformShed; split <;> simp
@[simp] theorem reformShed_signals (g : GroupId) : (reformShed g s).signals = s.signals := by
  unfold reformShed; split <;> simp
@[simp] theorem reformShed_freeCount (g : GroupId) : (reformShed g s).freeCount = s.freeCount := by
  unfold reformShed; split <;> simp
@[simp] theorem reformShed_pending (g : GroupId) : (reformShed g s).pending = s.pending := by
  unfold reformShed; split <;> simp

/-! ### reformAllSheds: Re-forming every shed-input state. -/

@[simp] theorem reformAllSheds_time : (reformAllSheds s).time = s.time := by
  simp [reformAllSheds]
@[simp] theorem reformAllSheds_tables : (reformAllSheds s).tables = s.tables := by
  simp [reformAllSheds]
@[simp] theorem reformAllSheds_pads : (reformAllSheds s).pads = s.pads := by
  simp [reformAllSheds]
@[simp] theorem reformAllSheds_alloc : (reformAllSheds s).alloc = s.alloc := by
  simp [reformAllSheds]
@[simp] theorem reformAllSheds_lines : (reformAllSheds s).lines = s.lines := by
  simp [reformAllSheds]
@[simp] theorem reformAllSheds_fleet : (reformAllSheds s).fleet = s.fleet := by
  simp [reformAllSheds]
@[simp] theorem reformAllSheds_mode : (reformAllSheds s).mode = s.mode := by
  simp [reformAllSheds]
@[simp] theorem reformAllSheds_notices : (reformAllSheds s).notices = s.notices := by
  simp [reformAllSheds]
@[simp] theorem reformAllSheds_signals : (reformAllSheds s).signals = s.signals := by
  simp [reformAllSheds]
@[simp] theorem reformAllSheds_freeCount : (reformAllSheds s).freeCount = s.freeCount := by
  simp [reformAllSheds]
@[simp] theorem reformAllSheds_pending : (reformAllSheds s).pending = s.pending := by
  simp [reformAllSheds]

/-! ### reformStop: Re-forming the stop latch (R168). -/

@[simp] theorem reformStop_time : (reformStop s).time = s.time := by
  simp [reformStop]
@[simp] theorem reformStop_tables : (reformStop s).tables = s.tables := by
  simp [reformStop]
@[simp] theorem reformStop_pads : (reformStop s).pads = s.pads := by
  simp [reformStop]
@[simp] theorem reformStop_alloc : (reformStop s).alloc = s.alloc := by
  simp [reformStop]
@[simp] theorem reformStop_groups : (reformStop s).groups = s.groups := by
  simp [reformStop]
@[simp] theorem reformStop_lines : (reformStop s).lines = s.lines := by
  simp [reformStop]
@[simp] theorem reformStop_fleet : (reformStop s).fleet = s.fleet := by
  simp [reformStop]
@[simp] theorem reformStop_notices : (reformStop s).notices = s.notices := by
  simp [reformStop]
@[simp] theorem reformStop_signals : (reformStop s).signals = s.signals := by
  simp [reformStop]
@[simp] theorem reformStop_freeCount : (reformStop s).freeCount = s.freeCount := by
  simp [reformStop]
@[simp] theorem reformStop_pending : (reformStop s).pending = s.pending := by
  simp [reformStop]

/-! ### deadlineWatch: The deadline watch marks dispatches and raises its notice (R121). -/

@[simp] theorem deadlineWatch_time : (deadlineWatch s).time = s.time := by
  simp [deadlineWatch]
@[simp] theorem deadlineWatch_tables : (deadlineWatch s).tables = s.tables := by
  simp [deadlineWatch]
@[simp] theorem deadlineWatch_alloc : (deadlineWatch s).alloc = s.alloc := by
  simp [deadlineWatch]
@[simp] theorem deadlineWatch_groups : (deadlineWatch s).groups = s.groups := by
  simp [deadlineWatch]
@[simp] theorem deadlineWatch_lines : (deadlineWatch s).lines = s.lines := by
  simp [deadlineWatch]
@[simp] theorem deadlineWatch_mode : (deadlineWatch s).mode = s.mode := by
  simp [deadlineWatch]
@[simp] theorem deadlineWatch_signals : (deadlineWatch s).signals = s.signals := by
  simp [deadlineWatch]
@[simp] theorem deadlineWatch_freeCount : (deadlineWatch s).freeCount = s.freeCount := by
  simp [deadlineWatch]
@[simp] theorem deadlineWatch_pending : (deadlineWatch s).pending = s.pending := by
  simp [deadlineWatch]

/-! ### startSweep: The start of a sweep (R59). -/

@[simp] theorem startSweep_time : (startSweep s).time = s.time := by
  simp [startSweep]
@[simp] theorem startSweep_tables : (startSweep s).tables = s.tables := by
  simp [startSweep]
@[simp] theorem startSweep_groups : (startSweep s).groups = s.groups := by
  simp [startSweep]
@[simp] theorem startSweep_lines : (startSweep s).lines = s.lines := by
  simp [startSweep]
@[simp] theorem startSweep_mode : (startSweep s).mode = s.mode := by
  simp [startSweep]
@[simp] theorem startSweep_signals : (startSweep s).signals = s.signals := by
  simp [startSweep]
@[simp] theorem startSweep_freeCount : (startSweep s).freeCount = s.freeCount := by
  simp [startSweep]
@[simp] theorem startSweep_pending : (startSweep s).pending = s.pending := by
  simp [startSweep]

/-! ### haltEffects: The entry to HALTED (R88, R170). -/

@[simp] theorem haltEffects_tables : (haltEffects s).tables = s.tables := by
  simp [haltEffects]
@[simp] theorem haltEffects_groups : (haltEffects s).groups = s.groups := by
  simp [haltEffects]
@[simp] theorem haltEffects_fleet : (haltEffects s).fleet = s.fleet := by
  simp [haltEffects]
@[simp] theorem haltEffects_notices : (haltEffects s).notices = s.notices := by
  simp [haltEffects]
@[simp] theorem haltEffects_signals : (haltEffects s).signals = s.signals := by
  simp [haltEffects]
@[simp] theorem haltEffects_freeCount : (haltEffects s).freeCount = s.freeCount := by
  simp [haltEffects]
@[simp] theorem haltEffects_pending : (haltEffects s).pending = s.pending := by
  simp [haltEffects]

/-! ### startTimer: Starting the round timer (R57). -/

@[simp] theorem startTimer_tables : (startTimer s).tables = s.tables := by
  simp [startTimer]
@[simp] theorem startTimer_pads : (startTimer s).pads = s.pads := by
  simp [startTimer]
@[simp] theorem startTimer_alloc : (startTimer s).alloc = s.alloc := by
  simp [startTimer]
@[simp] theorem startTimer_groups : (startTimer s).groups = s.groups := by
  simp [startTimer]
@[simp] theorem startTimer_lines : (startTimer s).lines = s.lines := by
  simp [startTimer]
@[simp] theorem startTimer_fleet : (startTimer s).fleet = s.fleet := by
  simp [startTimer]
@[simp] theorem startTimer_mode : (startTimer s).mode = s.mode := by
  simp [startTimer]
@[simp] theorem startTimer_notices : (startTimer s).notices = s.notices := by
  simp [startTimer]
@[simp] theorem startTimer_signals : (startTimer s).signals = s.signals := by
  simp [startTimer]
@[simp] theorem startTimer_freeCount : (startTimer s).freeCount = s.freeCount := by
  simp [startTimer]
@[simp] theorem startTimer_pending : (startTimer s).pending = s.pending := by
  simp [startTimer]

/-! ### discoveryEnd: The end of DISCOVERING (R173). -/

@[simp] theorem discoveryEnd_tables : (discoveryEnd s).tables = s.tables := by
  simp [discoveryEnd]
@[simp] theorem discoveryEnd_groups : (discoveryEnd s).groups = s.groups := by
  simp [discoveryEnd]
@[simp] theorem discoveryEnd_lines : (discoveryEnd s).lines = s.lines := by
  simp [discoveryEnd]
@[simp] theorem discoveryEnd_signals : (discoveryEnd s).signals = s.signals := by
  simp [discoveryEnd]
@[simp] theorem discoveryEnd_freeCount : (discoveryEnd s).freeCount = s.freeCount := by
  simp [discoveryEnd]
@[simp] theorem discoveryEnd_pending : (discoveryEnd s).pending = s.pending := by
  simp [discoveryEnd]

/-! ### endDiscoveryIfDone: The end of DISCOVERING, where every mark is clear (R173). -/

@[simp] theorem endDiscoveryIfDone_tables : (endDiscoveryIfDone s).tables = s.tables := by
  unfold endDiscoveryIfDone; split <;> simp
@[simp] theorem endDiscoveryIfDone_groups : (endDiscoveryIfDone s).groups = s.groups := by
  unfold endDiscoveryIfDone; split <;> simp
@[simp] theorem endDiscoveryIfDone_lines : (endDiscoveryIfDone s).lines = s.lines := by
  unfold endDiscoveryIfDone; split <;> simp
@[simp] theorem endDiscoveryIfDone_signals : (endDiscoveryIfDone s).signals = s.signals := by
  unfold endDiscoveryIfDone; split <;> simp
@[simp] theorem endDiscoveryIfDone_freeCount : (endDiscoveryIfDone s).freeCount = s.freeCount := by
  unfold endDiscoveryIfDone; split <;> simp
@[simp] theorem endDiscoveryIfDone_pending : (endDiscoveryIfDone s).pending = s.pending := by
  unfold endDiscoveryIfDone; split <;> simp

/-! ### enterDiscovering: The entry to DISCOVERING (R173). -/

@[simp] theorem enterDiscovering_tables : (enterDiscovering s).tables = s.tables := by
  simp [enterDiscovering]
@[simp] theorem enterDiscovering_groups : (enterDiscovering s).groups = s.groups := by
  simp [enterDiscovering]
@[simp] theorem enterDiscovering_signals : (enterDiscovering s).signals = s.signals := by
  simp [enterDiscovering]
@[simp] theorem enterDiscovering_freeCount : (enterDiscovering s).freeCount = s.freeCount := by
  simp [enterDiscovering]
@[simp] theorem enterDiscovering_pending : (enterDiscovering s).pending = s.pending := by
  simp [enterDiscovering]

/-! ### applyScope: Applying a scope (R177). -/

@[simp] theorem applyScope_time (x : Scope) : (applyScope x s).time = s.time := by
  simp [applyScope]
@[simp] theorem applyScope_tables (x : Scope) : (applyScope x s).tables = s.tables := by
  simp [applyScope]
@[simp] theorem applyScope_alloc (x : Scope) : (applyScope x s).alloc = s.alloc := by
  simp [applyScope]
@[simp] theorem applyScope_groups (x : Scope) : (applyScope x s).groups = s.groups := by
  simp [applyScope]
@[simp] theorem applyScope_fleet (x : Scope) : (applyScope x s).fleet = s.fleet := by
  simp [applyScope]
@[simp] theorem applyScope_notices (x : Scope) : (applyScope x s).notices = s.notices := by
  simp [applyScope]
@[simp] theorem applyScope_signals (x : Scope) : (applyScope x s).signals = s.signals := by
  simp [applyScope]
@[simp] theorem applyScope_pending (x : Scope) : (applyScope x s).pending = s.pending := by
  simp [applyScope]

/-! ### applyHeld: Applying a held scope (R86). -/

@[simp] theorem applyHeld_time : (applyHeld s).time = s.time := by
  unfold applyHeld; split <;> simp
@[simp] theorem applyHeld_tables : (applyHeld s).tables = s.tables := by
  unfold applyHeld; split <;> simp
@[simp] theorem applyHeld_alloc : (applyHeld s).alloc = s.alloc := by
  unfold applyHeld; split <;> simp
@[simp] theorem applyHeld_groups : (applyHeld s).groups = s.groups := by
  unfold applyHeld; split <;> simp
@[simp] theorem applyHeld_fleet : (applyHeld s).fleet = s.fleet := by
  unfold applyHeld; split <;> simp
@[simp] theorem applyHeld_notices : (applyHeld s).notices = s.notices := by
  unfold applyHeld; split <;> simp
@[simp] theorem applyHeld_signals : (applyHeld s).signals = s.signals := by
  unfold applyHeld; split <;> simp
@[simp] theorem applyHeld_pending : (applyHeld s).pending = s.pending := by
  unfold applyHeld; split <;> simp

/-! ### respond: A response joins the transmit queue (R155). -/

@[simp] theorem respond_time (k t : Byte) (c : ResultCode) (d : List Byte) : (respond k t c d s).time = s.time := by
  simp [respond]
@[simp] theorem respond_tables (k t : Byte) (c : ResultCode) (d : List Byte) : (respond k t c d s).tables = s.tables := by
  simp [respond]
@[simp] theorem respond_pads (k t : Byte) (c : ResultCode) (d : List Byte) : (respond k t c d s).pads = s.pads := by
  simp [respond]
@[simp] theorem respond_alloc (k t : Byte) (c : ResultCode) (d : List Byte) : (respond k t c d s).alloc = s.alloc := by
  simp [respond]
@[simp] theorem respond_groups (k t : Byte) (c : ResultCode) (d : List Byte) : (respond k t c d s).groups = s.groups := by
  simp [respond]
@[simp] theorem respond_lines (k t : Byte) (c : ResultCode) (d : List Byte) : (respond k t c d s).lines = s.lines := by
  simp [respond]
@[simp] theorem respond_mode (k t : Byte) (c : ResultCode) (d : List Byte) : (respond k t c d s).mode = s.mode := by
  simp [respond]
@[simp] theorem respond_notices (k t : Byte) (c : ResultCode) (d : List Byte) : (respond k t c d s).notices = s.notices := by
  simp [respond]
@[simp] theorem respond_signals (k t : Byte) (c : ResultCode) (d : List Byte) : (respond k t c d s).signals = s.signals := by
  simp [respond]
@[simp] theorem respond_freeCount (k t : Byte) (c : ResultCode) (d : List Byte) : (respond k t c d s).freeCount = s.freeCount := by
  simp [respond]
@[simp] theorem respond_pending (k t : Byte) (c : ResultCode) (d : List Byte) : (respond k t c d s).pending = s.pending := by
  simp [respond]

end Sys2Proof.Machine
end

