-- ==== Sys2Proof/Laws/Ops.lean ====
section
/-! SUPPORT. What each shared operation does, said once: the pad, the line or the queue it changes, and to
what. -/

namespace Sys2Proof.Machine

variable (s : State)

/-! ## Notices (R158, R185) -/

/-- A NOTICE frame waits after it has been called for. -/
@[simp] theorem callNotice_waiting : (callNotice s).fleet.noticeWaiting = true := by
  unfold callNotice
  split
  · assumption
  · simp [Fleet.noticeWaiting, TxItem.isNotice]

/-- The transmit queue after a call: as it was, or with one NOTICE at its tail. -/
theorem callNotice_tx : (callNotice s).fleet.tx =
    if s.fleet.noticeWaiting then s.fleet.tx else s.fleet.tx ++ [.notice] := by
  unfold callNotice
  split <;> simp [*]

/-- A call leaves the rest of the Fleet Line Port. -/
theorem callNotice_fleet : (callNotice s).fleet = { s.fleet with tx := (callNotice s).fleet.tx } := by
  unfold callNotice
  split <;> simp

/-- What the withdrawal of an empty NOTICE does: with no kind left unmasked no NOTICE waits, and otherwise
nothing changes (R187, R188). -/
theorem withdrawNotice_fleet : (withdrawNotice s).fleet =
    if s.notices.unmasked = 0 then { s.fleet with tx := s.fleet.tx.filter fun x => !x.isNotice }
    else s.fleet := by
  unfold withdrawNotice
  split <;> rfl

/-- A raised kind is pending (R185). -/
theorem raise_joins (k : Notice) : noticeIn k (raise k s).notices.pendingSet = true := by
  have hk : ∀ x : BitVec 11, noticeIn k (x ||| k.bit) = true := by
    intro x
    cases k <;> simp [noticeIn, Notice.bit, Notice.number]
  unfold raise
  split
  · assumption
  · dsimp only
    split <;> simp [hk]

/-- A raising changes the pending set alone of the Notice Unit. -/
theorem raise_notices (k : Notice) :
    (raise k s).notices = { s.notices with pendingSet := (raise k s).notices.pendingSet } := by
  unfold raise
  split
  · rfl
  · dsimp only
    split <;> simp

/-- A raising changes the transmit queue alone of the Fleet Line Port. -/
theorem raise_fleet (k : Notice) :
    (raise k s).fleet = { s.fleet with tx := (raise k s).fleet.tx } := by
  unfold raise
  split
  · rfl
  · dsimp only
    split
    · simp
    · rw [callNotice_fleet]; simp

/-- A capture event takes the next sequence number, whether its entry is stored or not (R182). -/
theorem captureEvent_nextSeq (p : PadId) (x : CaptureSource) (c : Byte) (w : Nat) :
    (captureEvent p x c w s).notices.nextSeq = s.notices.nextSeq + 1 := by
  unfold captureEvent
  dsimp only
  split
  · rfl
  · rw [raise_notices]; rfl

/-- A capture event on a queue with room stores its entry at the tail (R182). -/
theorem captureEvent_stored (p : PadId) (x : CaptureSource) (c : Byte) (w : Nat)
    (h : s.notices.captures.length < Config.captureDepth) :
    (captureEvent p x c w s).notices.captures = s.notices.captures ++
      [{ seq := s.notices.nextSeq, pad := p, source := x, code := c, power := w,
         time := s.time.running }] := by
  simp [captureEvent, h]

/-- A capture event on a full queue keeps the entries and counts the loss (R182). -/
theorem captureEvent_full (p : PadId) (x : CaptureSource) (c : Byte) (w : Nat)
    (h : ¬ s.notices.captures.length < Config.captureDepth) :
    (captureEvent p x c w s).notices.captures = s.notices.captures
      ∧ (captureEvent p x c w s).notices.overflow = true
      ∧ (captureEvent p x c w s).notices.overflowCount = satInc 255 s.notices.overflowCount := by
  unfold captureEvent
  simp only [h, if_false]
  rw [raise_notices]
  exact ⟨rfl, rfl, rfl⟩

/-! ## The decrease path (R76) -/

/-- Lowering sets the grant. -/
@[simp] theorem Pad.lower_grant (v : Nat) (q : Pad) : (q.lower v).grant = v := by
  unfold Pad.lower Pad.setState
  dsimp only
  split <;> split <;> rfl

/-- Lowering brings the sent setpoint to at most the new grant. -/
theorem Pad.lower_sent (v : Nat) (q : Pad) : (q.lower v).sent = min v q.sent := by
  unfold Pad.lower Pad.setState
  dsimp only
  split <;> split <;> simp <;> omega

/-- Lowering to 0 leaves CHARGING; any other lowering keeps the session's state (R76). -/
theorem Pad.lower_state (v : Nat) (q : Pad) :
    (q.lower v).state = if v = 0 ∧ q.state.served = true then .waiting else q.state := by
  unfold Pad.lower Pad.setState
  dsimp only
  split <;> split <;> simp_all

/-- One pad after the decrease path. -/
theorem decrease_get (p q : PadId) (v : Nat) :
    (decrease p v s).pads[q.val] = if p = q then s.pads[q.val].lower v else s.pads[q.val] := by
  unfold decrease
  dsimp only
  split <;> simp [State.updPad_get]

/-- Every pad after a decrease of several. -/
theorem decreaseMany_get (x : PadId → Option Nat) (q : PadId) :
    (decreaseMany x s).pads[q.val] =
      match x q with
      | some v => s.pads[q.val].lower v
      | none => s.pads[q.val] := by
  simp [decreaseMany] <;> rfl

/-- One urgent list after the decrease path: the pad joins the list of its line at the tail when its
sent setpoint falls and it is not on the list (R139). -/
theorem decrease_urgent (p : PadId) (v : Nat) (l : LineId) :
    (decrease p v s).lines[l.val].urgent =
      if v < s.pads[p.val].sent ∧ (s.padRec p).line = l ∧ p ∉ s.lines[l.val].urgent then
        s.lines[l.val].urgent ++ [p]
      else s.lines[l.val].urgent := by
  have hr : (s.updPad p (Pad.lower v)).padRec p = s.padRec p := rfl
  unfold decrease
  dsimp only [Fin.getElem_fin]
  by_cases h : v < s.pads[p.val].sent
  · rw [if_pos h]
    unfold joinUrgent
    rw [State.updLine_get, hr]
    by_cases hl : (s.padRec p).line = l
    · by_cases hm : p ∈ s.lines[l.val].urgent <;> simp [hl, hm, h]
    · simp [hl]
  · simp [h]

/-! ## The increase release (R79) -/

/-- One pad after the increase release. -/
theorem increaseRelease_get (q : PadId) :
    (increaseRelease s).pads[q.val] =
      if s.anyPending = false ∧ s.alloc.fastShed = .none ∧ s.pads[q.val].sent < s.pads[q.val].grant then
        { s.pads[q.val] with sent := s.pads[q.val].grant }
      else s.pads[q.val] := by
  unfold increaseRelease
  by_cases h1 : s.anyPending = true
  · simp [h1]
  · by_cases h2 : s.alloc.fastShed = .none
    · simp [h1, h2, Pad.holdsIncrease]
    · simp [h1, h2]

/-! ## The fast-shed check (R81) -/

/-- A check while a pass runs changes nothing. -/
theorem fastShedCheck_running (h : s.alloc.fastShed = .running) : fastShedCheck s = s := by
  simp [fastShedCheck, h]

/-- A check that finds nothing to shed returns the fast-shed state to NONE. -/
theorem fastShedCheck_clear (h : s.needsShed = false) (hr : s.alloc.fastShed ≠ .running) :
    (fastShedCheck s).alloc.fastShed = .none := by
  unfold fastShedCheck
  simp only [hr, h, if_false]
  by_cases hp : s.alloc.fastShed = .pending
  · simp [hp, State.setFastShed]
  · cases hf : s.alloc.fastShed <;> simp_all

/-- A check that finds shedding needed during a sweep leaves the pass PENDING. -/
theorem fastShedCheck_sweeping (h : s.needsShed = true) (hr : s.alloc.fastShed ≠ .running)
    (hs : s.alloc.sweep.isSome = true) : fastShedCheck s = s.setFastShed .pending := by
  simp [fastShedCheck, h, hr, hs]

/-- A check that finds shedding needed with no sweep in progress starts a pass. -/
theorem fastShedCheck_starts (h : s.needsShed = true) (hr : s.alloc.fastShed ≠ .running)
    (hs : s.alloc.sweep.isSome = false) : fastShedCheck s = startPass s := by
  simp [fastShedCheck, h, hr, hs]

/-- A walk treats the last entry of the kept list first (R82). -/
theorem walk_last (total limit : State → Nat) (mine : State → PadId → Bool) (front : List PadId) (p : PadId)
    (h : s.alloc.kept = front ++ [p]) :
    walk total limit mine s =
      front.reverse.foldl (shedPad total limit mine) (shedPad total limit mine s p) := by
  simp [walk, h]

/-- A walk touches nothing once the total is within the limit (R82). -/
theorem shedPad_within (total limit : State → Nat) (mine : State → PadId → Bool) (p : PadId)
    (h : total s ≤ limit s) : shedPad total limit mine s p = s := by
  unfold shedPad
  rw [if_neg (by omega)]

/-- A pass that starts is RUNNING. -/
@[simp] theorem startPass_running : (startPass s).alloc.fastShed = .running := by
  unfold startPass
  rw [siteWalk_alloc, foldl_keeps (fun t => t.alloc) _ (fun t g => groupWalk_alloc t g)]
  rfl

/-! ## The entry to HALTED (R88, R170) -/

/-- One pad after the entry to HALTED. -/
@[simp] theorem haltEffects_get (q : PadId) : (haltEffects s).pads[q.val] = s.pads[q.val].halt := by
  simp [haltEffects]

/-- The engine after the entry to HALTED: the mode, the timer, the sweep and the pass. -/
theorem haltEffects_engine :
    (haltEffects s).mode = { s.mode with engine := .halted }
      ∧ (haltEffects s).time = { s.time with timer := none }
      ∧ (haltEffects s).alloc =
        { s.alloc with sweep := none, fastShed := .none, sweepWaiting := false } := by
  simp [haltEffects]

/-! ## Taking a request (R153, R155) -/

/-- What the take of a request that the port may take comes to. -/
theorem takeRequest_taken (kind tag : Byte) (body : List Byte) (owner : State → Answer)
    (rest : List RxFrame) (hf : takeFrame ⟨kind, tag, body⟩ s.fleet.rx = some rest)
    (hp : s.portReady = true) :
    takeRequest kind tag body owner s =
      match (owner (s.withFleet { s.fleet with rx := rest })).response with
      | none => (owner (s.withFleet { s.fleet with rx := rest })).state
      | some (code, data) =>
        respond kind tag code data (owner (s.withFleet { s.fleet with rx := rest })).state := by
  unfold takeRequest
  simp only [hf, hp, if_true] <;>
    (generalize owner _ = a
     rcases a with ⟨t, _ | ⟨c, d⟩⟩ <;> rfl)

/-- A request that the port may not take waits: nothing changes (R153). -/
theorem takeRequest_waits (kind tag : Byte) (body : List Byte) (owner : State → Answer)
    (hp : s.portReady = false) : takeRequest kind tag body owner s = s := by
  unfold takeRequest
  split <;> simp [hp]

/-- A frame that is not the oldest of the receive queue is not taken (R153). -/
theorem takeRequest_other (kind tag : Byte) (body : List Byte) (owner : State → Answer)
    (hf : takeFrame ⟨kind, tag, body⟩ s.fleet.rx = none) : takeRequest kind tag body owner s = s := by
  simp [takeRequest, hf]

end Sys2Proof.Machine
end

