-- ==== Sys2Proof/Laws/Activation.lean ====
section
/-! SUPPORT. What an activation does to the pads and lines: without a changed pad record, nothing (R15, R18). -/

namespace Sys2Proof.Machine

variable (s : State)

/-- A pad whose record is unchanged leaves no address (R19). -/
@[simp] theorem padClass_self (r : PadRec) : (padClass r r).leaves = false := by
  unfold padClass
  cases r.enabled <;> simp [PadClass.leaves]

/-- A pad keeps its class of the same bank (R19). -/
@[simp] theorem classOf_self (b : Bank) (p : PadId) : (classOf b b p).leaves = false := padClass_self _

/-- The same bank clears no pad's figures (R15, R19). -/
@[simp] theorem clearsPads_self (b : Bank) : clearsPads b b = false := by
  simp [clearsPads]

/-- The increase release of an activation is made exactly when a pad is disabled or moved (R19, R79). -/
theorem activatePads_release (old new : Bank) :
    activatePads old new s =
      let s1 := activateLines old new
        (s.mapPads fun p q => q.activated (classOf old new p) (keepsSample old new p))
      if ∃ p : PadId, (classOf old new p).leaves = true then increaseRelease s1 else s1 := by
  simp [activatePads, clearsPads, allPads]

/-- The end of the check of a bank that passes, with no sweep and no pass in progress: the response OK, and then
the activation (R15, R17). -/
theorem endCheck_passes (tag : Byte) (hc : s.tables.commit = .checking (crc s.tables.shadow.bytes) tag)
    (hv : validate s.tables.shadow = none) (hs : s.alloc.sweep = none) (hf : s.alloc.fastShed ≠ .running) :
    endCheck s = activate false (respond kindCommit tag .ok [] (s.setCommit .pending)) := by
  unfold endCheck
  rw [hc]
  simp only [hv, ne_eq, not_true_eq_false, if_false]
  rw [if_pos]
  exact ⟨by simpa [respond, State.setCommit, State.withFleet, State.withTables] using hs, hf⟩

end Sys2Proof.Machine
end

