-- ==== Sys2Proof/Laws/Lines.lean ====
section
/-! SUPPORT. The lines: what the fleet line's receiver does with a run of bytes, what a pad line's busy state
and break do, and the characters of a pad line. -/

namespace Sys2Proof.Machine

variable (s : State)

/-! ### setReceiver: The receiver's state alone. -/

@[simp] theorem State.setReceiver_time (r : Receiver) : (s.setReceiver r).time = s.time := rfl
@[simp] theorem State.setReceiver_tables (r : Receiver) : (s.setReceiver r).tables = s.tables := rfl
@[simp] theorem State.setReceiver_pads (r : Receiver) : (s.setReceiver r).pads = s.pads := rfl
@[simp] theorem State.setReceiver_alloc (r : Receiver) : (s.setReceiver r).alloc = s.alloc := rfl
@[simp] theorem State.setReceiver_groups (r : Receiver) : (s.setReceiver r).groups = s.groups := rfl
@[simp] theorem State.setReceiver_lines (r : Receiver) : (s.setReceiver r).lines = s.lines := rfl
@[simp] theorem State.setReceiver_mode (r : Receiver) : (s.setReceiver r).mode = s.mode := rfl
@[simp] theorem State.setReceiver_signals (r : Receiver) : (s.setReceiver r).signals = s.signals := rfl
@[simp] theorem State.setReceiver_freeCount (r : Receiver) : (s.setReceiver r).freeCount = s.freeCount := rfl
@[simp] theorem State.setReceiver_pending (r : Receiver) : (s.setReceiver r).pending = s.pending := rfl
@[simp] theorem State.setReceiver_notices (r : Receiver) : (s.setReceiver r).notices = s.notices := rfl

@[simp] theorem State.setReceiver_receiver (r : Receiver) : (s.setReceiver r).fleet.receiver = r := rfl

/-! ### discardFrame: The receiver and the CORRUPT counter (R150). -/

@[simp] theorem discardFrame_time : (discardFrame s).time = s.time := rfl
@[simp] theorem discardFrame_tables : (discardFrame s).tables = s.tables := rfl
@[simp] theorem discardFrame_pads : (discardFrame s).pads = s.pads := rfl
@[simp] theorem discardFrame_alloc : (discardFrame s).alloc = s.alloc := rfl
@[simp] theorem discardFrame_groups : (discardFrame s).groups = s.groups := rfl
@[simp] theorem discardFrame_lines : (discardFrame s).lines = s.lines := rfl
@[simp] theorem discardFrame_mode : (discardFrame s).mode = s.mode := rfl
@[simp] theorem discardFrame_signals : (discardFrame s).signals = s.signals := rfl
@[simp] theorem discardFrame_freeCount : (discardFrame s).freeCount = s.freeCount := rfl
@[simp] theorem discardFrame_pending : (discardFrame s).pending = s.pending := rfl
@[simp] theorem discardFrame_notices : (discardFrame s).notices = s.notices := rfl

/-! ### joinQueue: The Fleet Line Port and, at a full queue, the Notice Unit (R152). -/

@[simp] theorem joinQueue_time (f : RxFrame) : (joinQueue f s).time = s.time := by
  unfold joinQueue; split <;> simp
@[simp] theorem joinQueue_tables (f : RxFrame) : (joinQueue f s).tables = s.tables := by
  unfold joinQueue; split <;> simp
@[simp] theorem joinQueue_pads (f : RxFrame) : (joinQueue f s).pads = s.pads := by
  unfold joinQueue; split <;> simp
@[simp] theorem joinQueue_alloc (f : RxFrame) : (joinQueue f s).alloc = s.alloc := by
  unfold joinQueue; split <;> simp
@[simp] theorem joinQueue_groups (f : RxFrame) : (joinQueue f s).groups = s.groups := by
  unfold joinQueue; split <;> simp
@[simp] theorem joinQueue_lines (f : RxFrame) : (joinQueue f s).lines = s.lines := by
  unfold joinQueue; split <;> simp
@[simp] theorem joinQueue_mode (f : RxFrame) : (joinQueue f s).mode = s.mode := by
  unfold joinQueue; split <;> simp
@[simp] theorem joinQueue_signals (f : RxFrame) : (joinQueue f s).signals = s.signals := by
  unfold joinQueue; split <;> simp
@[simp] theorem joinQueue_freeCount (f : RxFrame) : (joinQueue f s).freeCount = s.freeCount := by
  unfold joinQueue; split <;> simp
@[simp] theorem joinQueue_pending (f : RxFrame) : (joinQueue f s).pending = s.pending := by
  unfold joinQueue; split <;> simp

/-- What a good frame does to the queue: it joins at the tail, or is dropped and counted (R152). -/
theorem joinQueue_fleet (f : RxFrame) : (joinQueue f s).fleet =
    if s.fleet.rx.length < Config.rxDepth then { s.fleet with rx := s.fleet.rx ++ [f] }
    else { s.fleet with dropped := satInc 65535 s.fleet.dropped, tx := (joinQueue f s).fleet.tx } := by
  unfold joinQueue
  split
  · rfl
  · rw [raise_fleet]; rfl

/-! ### frameEnds: As joinQueue or discardFrame. -/

@[simp] theorem frameEnds_time (got : List RxByte) : (frameEnds got s).time = s.time := by
  unfold frameEnds; split <;> simp
@[simp] theorem frameEnds_tables (got : List RxByte) : (frameEnds got s).tables = s.tables := by
  unfold frameEnds; split <;> simp
@[simp] theorem frameEnds_pads (got : List RxByte) : (frameEnds got s).pads = s.pads := by
  unfold frameEnds; split <;> simp
@[simp] theorem frameEnds_alloc (got : List RxByte) : (frameEnds got s).alloc = s.alloc := by
  unfold frameEnds; split <;> simp
@[simp] theorem frameEnds_groups (got : List RxByte) : (frameEnds got s).groups = s.groups := by
  unfold frameEnds; split <;> simp
@[simp] theorem frameEnds_lines (got : List RxByte) : (frameEnds got s).lines = s.lines := by
  unfold frameEnds; split <;> simp
@[simp] theorem frameEnds_mode (got : List RxByte) : (frameEnds got s).mode = s.mode := by
  unfold frameEnds; split <;> simp
@[simp] theorem frameEnds_signals (got : List RxByte) : (frameEnds got s).signals = s.signals := by
  unfold frameEnds; split <;> simp
@[simp] theorem frameEnds_freeCount (got : List RxByte) : (frameEnds got s).freeCount = s.freeCount := by
  unfold frameEnds; split <;> simp
@[simp] theorem frameEnds_pending (got : List RxByte) : (frameEnds got s).pending = s.pending := by
  unfold frameEnds; split <;> simp

/-- The receiver hunts after a frame's end (R149). -/
@[simp] theorem frameEnds_receiver (got : List RxByte) : (frameEnds got s).fleet.receiver = .hunt := by
  unfold frameEnds
  split
  · rw [joinQueue_fleet]; split <;> rfl
  · rfl

/-! ### receiveByte: The Fleet Line Port and, at a full queue, the Notice Unit. -/

@[simp] theorem receiveByte_time (b : RxByte) : (receiveByte s b).time = s.time := by
  unfold receiveByte frameByte; dsimp only; (repeat' split) <;> simp
@[simp] theorem receiveByte_tables (b : RxByte) : (receiveByte s b).tables = s.tables := by
  unfold receiveByte frameByte; dsimp only; (repeat' split) <;> simp
@[simp] theorem receiveByte_pads (b : RxByte) : (receiveByte s b).pads = s.pads := by
  unfold receiveByte frameByte; dsimp only; (repeat' split) <;> simp
@[simp] theorem receiveByte_alloc (b : RxByte) : (receiveByte s b).alloc = s.alloc := by
  unfold receiveByte frameByte; dsimp only; (repeat' split) <;> simp
@[simp] theorem receiveByte_groups (b : RxByte) : (receiveByte s b).groups = s.groups := by
  unfold receiveByte frameByte; dsimp only; (repeat' split) <;> simp
@[simp] theorem receiveByte_lines (b : RxByte) : (receiveByte s b).lines = s.lines := by
  unfold receiveByte frameByte; dsimp only; (repeat' split) <;> simp
@[simp] theorem receiveByte_mode (b : RxByte) : (receiveByte s b).mode = s.mode := by
  unfold receiveByte frameByte; dsimp only; (repeat' split) <;> simp
@[simp] theorem receiveByte_signals (b : RxByte) : (receiveByte s b).signals = s.signals := by
  unfold receiveByte frameByte; dsimp only; (repeat' split) <;> simp
@[simp] theorem receiveByte_freeCount (b : RxByte) : (receiveByte s b).freeCount = s.freeCount := by
  unfold receiveByte frameByte; dsimp only; (repeat' split) <;> simp
@[simp] theorem receiveByte_pending (b : RxByte) : (receiveByte s b).pending = s.pending := by
  unfold receiveByte frameByte; dsimp only; (repeat' split) <;> simp

@[simp] theorem receiveBytes_time (bs : List RxByte) : (receiveBytes bs s).time = s.time :=
  foldl_keeps (fun t => t.time) _ (fun t b => receiveByte_time t b) bs s
@[simp] theorem receiveBytes_tables (bs : List RxByte) : (receiveBytes bs s).tables = s.tables :=
  foldl_keeps (fun t => t.tables) _ (fun t b => receiveByte_tables t b) bs s
@[simp] theorem receiveBytes_pads (bs : List RxByte) : (receiveBytes bs s).pads = s.pads :=
  foldl_keeps (fun t => t.pads) _ (fun t b => receiveByte_pads t b) bs s
@[simp] theorem receiveBytes_alloc (bs : List RxByte) : (receiveBytes bs s).alloc = s.alloc :=
  foldl_keeps (fun t => t.alloc) _ (fun t b => receiveByte_alloc t b) bs s
@[simp] theorem receiveBytes_groups (bs : List RxByte) : (receiveBytes bs s).groups = s.groups :=
  foldl_keeps (fun t => t.groups) _ (fun t b => receiveByte_groups t b) bs s
@[simp] theorem receiveBytes_lines (bs : List RxByte) : (receiveBytes bs s).lines = s.lines :=
  foldl_keeps (fun t => t.lines) _ (fun t b => receiveByte_lines t b) bs s
@[simp] theorem receiveBytes_mode (bs : List RxByte) : (receiveBytes bs s).mode = s.mode :=
  foldl_keeps (fun t => t.mode) _ (fun t b => receiveByte_mode t b) bs s
@[simp] theorem receiveBytes_signals (bs : List RxByte) : (receiveBytes bs s).signals = s.signals :=
  foldl_keeps (fun t => t.signals) _ (fun t b => receiveByte_signals t b) bs s
@[simp] theorem receiveBytes_freeCount (bs : List RxByte) : (receiveBytes bs s).freeCount = s.freeCount :=
  foldl_keeps (fun t => t.freeCount) _ (fun t b => receiveByte_freeCount t b) bs s
@[simp] theorem receiveBytes_pending (bs : List RxByte) : (receiveBytes bs s).pending = s.pending :=
  foldl_keeps (fun t => t.pending) _ (fun t b => receiveByte_pending t b) bs s

/-- A run of bytes is one portion after the other. -/
theorem receiveBytes_append (as bs : List RxByte) :
    receiveBytes (as ++ bs) s = receiveBytes bs (receiveBytes as s) := List.foldl_append

@[simp] theorem receiveBytes_nil : receiveBytes [] s = s := rfl

@[simp] theorem receiveBytes_cons (b : RxByte) (bs : List RxByte) :
    receiveBytes (b :: bs) s = receiveBytes bs (receiveByte s b) := rfl

/-- What a byte in the hunt does: a start byte without a framing error begins a frame, any other is ignored
(R149). -/
theorem receiveByte_hunt (b : RxByte) (h : s.fleet.receiver = .hunt) :
    receiveByte s b = if b.data = 0xA5 ∧ b.framing = false then s.setReceiver (.frame []) else s := by
  simp [receiveByte, h]

/-- What a byte within a frame does (R149, R150). -/
theorem receiveByte_frame (b : RxByte) (got : List RxByte) (h : s.fleet.receiver = .frame got) :
    receiveByte s b = frameByte (got ++ [b]) s := by
  simp [receiveByte, h]

/-- Bytes that are no start byte leave the hunt as it is (R149). -/
theorem receiveBytes_ignored (bs : List RxByte) (h : s.fleet.receiver = .hunt)
    (hb : ∀ b ∈ bs, b.data ≠ 0xA5 ∨ b.framing = true) : receiveBytes bs s = s := by
  induction bs with
  | nil => rfl
  | cons b bs ih =>
    have h1 : ¬ (b.data = 0xA5 ∧ b.framing = false) := by
      rintro ⟨ha, hf⟩
      rcases hb b (by simp) with h | h
      · exact h ha
      · simp [hf] at h
    rw [receiveBytes_cons, receiveByte_hunt s b h, if_neg h1]
    exact ih fun c hc => hb c (by simp [hc])

/-- Bytes short of the frame's end gather in the receiver (R149). -/
theorem receiveBytes_gather (bs got : List RxByte) (b : RxByte) (h : s.fleet.receiver = .frame (b :: got))
    (hn : b.data.toNat ≤ Config.bodyLimit) (hl : (b :: got).length + bs.length < b.data.toNat + 5) :
    receiveBytes bs s = s.setReceiver (.frame (b :: got ++ bs)) := by
  induction bs generalizing s got with
  | nil =>
    rw [receiveBytes_nil, List.append_nil, ← h]
    rfl
  | cons c bs ih =>
    have h1 : receiveByte s c = s.setReceiver (.frame (b :: got ++ [c])) := by
      rw [receiveByte_frame s c _ h]
      unfold frameByte
      simp only [List.cons_append, List.map_cons, byteAt, List.getD_cons_zero, List.length_cons,
        List.length_append, List.length_nil] at hl ⊢
      rw [if_neg (by omega), if_neg (by omega)]
    rw [receiveBytes_cons, h1, ih _ (got ++ [c]) rfl (by simp at hl ⊢; omega)]
    simp [State.setReceiver, State.withFleet]

/-! ## A line held busy, and breaks (R131, R142) -/

/-- An idle line is not changed by falling idle. -/
@[simp] theorem LineCtl.fallIdle_idle (c : LineCtl) (h : c.busy = false) : c.fallIdle = c := by
  simp [LineCtl.fallIdle, h]

/-- What falling idle does to a line held busy: a break that waited starts. -/
theorem LineCtl.fallIdle_busy (c : LineCtl) (h : c.busy = true) :
    c.fallIdle =
      if c.breakPending = true ∧ c.inFlight = none ∧ c.breaking = false then
        { c with busy := false, breakPending := false, breaking := true }
      else { c with busy := false } := by
  simp [LineCtl.fallIdle, LineCtl.startBreak, h]

/-- A line that has fallen idle is not busy. -/
@[simp] theorem LineCtl.fallIdle_notBusy (c : LineCtl) : c.fallIdle.busy = false := by
  cases h : c.busy
  · simp [h]
  · rw [LineCtl.fallIdle_busy c h]; split <;> rfl

/-! ## Characters (R128, R129, R148) -/

/-- An undamaged byte of the fleet line carries the byte that was sent. -/
@[simp] theorem cleanByte_data (b : Byte) : (cleanByte b).data = b := by
  ext i hi
  simp only [RxByte.data, cleanByte, fleetChar, BitVec.getElem_extractLsb', BitVec.getLsbD_append,
    Nat.add_comm 1 i]
  rw [if_neg (by omega), if_pos (by omega), Nat.add_sub_cancel]
  exact BitVec.getLsbD_eq_getElem hi

/-- An undamaged byte of the fleet line has its stop bit at mark. -/
@[simp] theorem cleanByte_framing (b : Byte) : (cleanByte b).framing = false := by
  revert b; decide +kernel

/-- An undamaged byte of the fleet line has its start bit at space. -/
@[simp] theorem cleanByte_starts (b : Byte) : (cleanByte b).starts = true := by
  revert b; decide +kernel

/-- Three equal samples are taken as they are. -/
@[simp] theorem cleanChar_bits (n : Bool) (b : Byte) : (cleanChar n b).bits = sentChar n b := by
  simp [cleanChar, RxChar.bits]

end Sys2Proof.Machine
end

