-- ==== Sys2Proof/Laws/SessionFrames.lean ====
section
/-! SUPPORT. What the handling of replies leaves alone: one lemma per operation and field. -/

namespace Sys2Proof.Machine

variable (s : State)


/-! ### complete: A session becomes COMPLETE (R41). -/

@[simp] theorem complete_time (p : PadId) : (complete p s).time = s.time := by
  simp [complete]
@[simp] theorem complete_tables (p : PadId) : (complete p s).tables = s.tables := by
  simp [complete]
@[simp] theorem complete_alloc (p : PadId) : (complete p s).alloc = s.alloc := by
  simp [complete]
@[simp] theorem complete_groups (p : PadId) : (complete p s).groups = s.groups := by
  simp [complete]
@[simp] theorem complete_mode (p : PadId) : (complete p s).mode = s.mode := by
  simp [complete]
@[simp] theorem complete_signals (p : PadId) : (complete p s).signals = s.signals := by
  simp [complete]
@[simp] theorem complete_freeCount (p : PadId) : (complete p s).freeCount = s.freeCount := by
  simp [complete]
@[simp] theorem complete_pending (p : PadId) : (complete p s).pending = s.pending := by
  simp [complete]

/-! ### completionCheck: The completion check (R41). -/

@[simp] theorem completionCheck_time (p : PadId) : (completionCheck p s).time = s.time := by
  unfold completionCheck; split <;> simp
@[simp] theorem completionCheck_tables (p : PadId) : (completionCheck p s).tables = s.tables := by
  unfold completionCheck; split <;> simp
@[simp] theorem completionCheck_alloc (p : PadId) : (completionCheck p s).alloc = s.alloc := by
  unfold completionCheck; split <;> simp
@[simp] theorem completionCheck_groups (p : PadId) : (completionCheck p s).groups = s.groups := by
  unfold completionCheck; split <;> simp
@[simp] theorem completionCheck_mode (p : PadId) : (completionCheck p s).mode = s.mode := by
  unfold completionCheck; split <;> simp
@[simp] theorem completionCheck_signals (p : PadId) : (completionCheck p s).signals = s.signals := by
  unfold completionCheck; split <;> simp
@[simp] theorem completionCheck_freeCount (p : PadId) : (completionCheck p s).freeCount = s.freeCount := by
  unfold completionCheck; split <;> simp
@[simp] theorem completionCheck_pending (p : PadId) : (completionCheck p s).pending = s.pending := by
  unfold completionCheck; split <;> simp

/-! ### enterFaulted: The common entry to FAULTED (R52). -/

@[simp] theorem enterFaulted_time (p : PadId) (x : CaptureSource) (c : Byte) (w : Nat) : (enterFaulted p x c w s).time = s.time := by
  simp [enterFaulted]
@[simp] theorem enterFaulted_tables (p : PadId) (x : CaptureSource) (c : Byte) (w : Nat) : (enterFaulted p x c w s).tables = s.tables := by
  simp [enterFaulted]
@[simp] theorem enterFaulted_alloc (p : PadId) (x : CaptureSource) (c : Byte) (w : Nat) : (enterFaulted p x c w s).alloc = s.alloc := by
  simp [enterFaulted]
@[simp] theorem enterFaulted_groups (p : PadId) (x : CaptureSource) (c : Byte) (w : Nat) : (enterFaulted p x c w s).groups = s.groups := by
  simp [enterFaulted]
@[simp] theorem enterFaulted_mode (p : PadId) (x : CaptureSource) (c : Byte) (w : Nat) : (enterFaulted p x c w s).mode = s.mode := by
  simp [enterFaulted]
@[simp] theorem enterFaulted_signals (p : PadId) (x : CaptureSource) (c : Byte) (w : Nat) : (enterFaulted p x c w s).signals = s.signals := by
  simp [enterFaulted]
@[simp] theorem enterFaulted_freeCount (p : PadId) (x : CaptureSource) (c : Byte) (w : Nat) : (enterFaulted p x c w s).freeCount = s.freeCount := by
  simp [enterFaulted]
@[simp] theorem enterFaulted_pending (p : PadId) (x : CaptureSource) (c : Byte) (w : Nat) : (enterFaulted p x c w s).pending = s.pending := by
  simp [enterFaulted]

/-! ### enterSilent: The entry to SILENT (R48). -/

@[simp] theorem enterSilent_time (p : PadId) : (enterSilent p s).time = s.time := by
  unfold enterSilent; dsimp only; split <;> simp
@[simp] theorem enterSilent_tables (p : PadId) : (enterSilent p s).tables = s.tables := by
  unfold enterSilent; dsimp only; split <;> simp
@[simp] theorem enterSilent_mode (p : PadId) : (enterSilent p s).mode = s.mode := by
  unfold enterSilent; dsimp only; split <;> simp
@[simp] theorem enterSilent_signals (p : PadId) : (enterSilent p s).signals = s.signals := by
  unfold enterSilent; dsimp only; split <;> simp
@[simp] theorem enterSilent_freeCount (p : PadId) : (enterSilent p s).freeCount = s.freeCount := by
  unfold enterSilent; dsimp only; split <;> simp
@[simp] theorem enterSilent_pending (p : PadId) : (enterSilent p s).pending = s.pending := by
  unfold enterSilent; dsimp only; split <;> simp

/-! ### endProbing: The end of probing (R37). -/

@[simp] theorem endProbing_time (p : PadId) : (endProbing p s).time = s.time := by
  unfold endProbing; split <;> simp
@[simp] theorem endProbing_tables (p : PadId) : (endProbing p s).tables = s.tables := by
  unfold endProbing; split <;> simp
@[simp] theorem endProbing_alloc (p : PadId) : (endProbing p s).alloc = s.alloc := by
  unfold endProbing; split <;> simp
@[simp] theorem endProbing_groups (p : PadId) : (endProbing p s).groups = s.groups := by
  unfold endProbing; split <;> simp
@[simp] theorem endProbing_mode (p : PadId) : (endProbing p s).mode = s.mode := by
  unfold endProbing; split <;> simp
@[simp] theorem endProbing_signals (p : PadId) : (endProbing p s).signals = s.signals := by
  unfold endProbing; split <;> simp
@[simp] theorem endProbing_freeCount (p : PadId) : (endProbing p s).freeCount = s.freeCount := by
  unfold endProbing; split <;> simp
@[simp] theorem endProbing_pending (p : PadId) : (endProbing p s).pending = s.pending := by
  unfold endProbing; split <;> simp

/-! ### probeFailed: A failed probe attempt (R37). -/

@[simp] theorem probeFailed_time (p : PadId) : (probeFailed p s).time = s.time := by
  unfold probeFailed; dsimp only; split <;> simp
@[simp] theorem probeFailed_tables (p : PadId) : (probeFailed p s).tables = s.tables := by
  unfold probeFailed; dsimp only; split <;> simp
@[simp] theorem probeFailed_alloc (p : PadId) : (probeFailed p s).alloc = s.alloc := by
  unfold probeFailed; dsimp only; split <;> simp
@[simp] theorem probeFailed_groups (p : PadId) : (probeFailed p s).groups = s.groups := by
  unfold probeFailed; dsimp only; split <;> simp
@[simp] theorem probeFailed_mode (p : PadId) : (probeFailed p s).mode = s.mode := by
  unfold probeFailed; dsimp only; split <;> simp
@[simp] theorem probeFailed_signals (p : PadId) : (probeFailed p s).signals = s.signals := by
  unfold probeFailed; dsimp only; split <;> simp
@[simp] theorem probeFailed_freeCount (p : PadId) : (probeFailed p s).freeCount = s.freeCount := by
  unfold probeFailed; dsimp only; split <;> simp
@[simp] theorem probeFailed_pending (p : PadId) : (probeFailed p s).pending = s.pending := by
  unfold probeFailed; dsimp only; split <;> simp

/-! ### handleCaps: A good CAPS (R35). -/

@[simp] theorem handleCaps_time (p : PadId) (c : CapsFields) : (handleCaps p c s).time = s.time := by
  unfold handleCaps; repeat' split
  all_goals simp
@[simp] theorem handleCaps_tables (p : PadId) (c : CapsFields) : (handleCaps p c s).tables = s.tables := by
  unfold handleCaps; repeat' split
  all_goals simp
@[simp] theorem handleCaps_alloc (p : PadId) (c : CapsFields) : (handleCaps p c s).alloc = s.alloc := by
  unfold handleCaps; repeat' split
  all_goals simp
@[simp] theorem handleCaps_groups (p : PadId) (c : CapsFields) : (handleCaps p c s).groups = s.groups := by
  unfold handleCaps; repeat' split
  all_goals simp
@[simp] theorem handleCaps_mode (p : PadId) (c : CapsFields) : (handleCaps p c s).mode = s.mode := by
  unfold handleCaps; repeat' split
  all_goals simp
@[simp] theorem handleCaps_signals (p : PadId) (c : CapsFields) : (handleCaps p c s).signals = s.signals := by
  unfold handleCaps; repeat' split
  all_goals simp
@[simp] theorem handleCaps_freeCount (p : PadId) (c : CapsFields) : (handleCaps p c s).freeCount = s.freeCount := by
  unfold handleCaps; repeat' split
  all_goals simp
@[simp] theorem handleCaps_pending (p : PadId) (c : CapsFields) : (handleCaps p c s).pending = s.pending := by
  unfold handleCaps; repeat' split
  all_goals simp

/-! ### handleFailed: A failed transaction (R48). -/

@[simp] theorem handleFailed_time (p : PadId) (q : LineRequest) : (handleFailed p q s).time = s.time := by
  unfold handleFailed; dsimp only; repeat' split
  all_goals simp
@[simp] theorem handleFailed_tables (p : PadId) (q : LineRequest) : (handleFailed p q s).tables = s.tables := by
  unfold handleFailed; dsimp only; repeat' split
  all_goals simp
@[simp] theorem handleFailed_mode (p : PadId) (q : LineRequest) : (handleFailed p q s).mode = s.mode := by
  unfold handleFailed; dsimp only; repeat' split
  all_goals simp
@[simp] theorem handleFailed_signals (p : PadId) (q : LineRequest) : (handleFailed p q s).signals = s.signals := by
  unfold handleFailed; dsimp only; repeat' split
  all_goals simp
@[simp] theorem handleFailed_freeCount (p : PadId) (q : LineRequest) : (handleFailed p q s).freeCount = s.freeCount := by
  unfold handleFailed; dsimp only; repeat' split
  all_goals simp
@[simp] theorem handleFailed_pending (p : PadId) (q : LineRequest) : (handleFailed p q s).pending = s.pending := by
  unfold handleFailed; dsimp only; repeat' split
  all_goals simp

/-! ### depart: A departure (R45). -/

@[simp] theorem depart_time (p : PadId) : (depart p s).time = s.time := by
  simp [depart]
@[simp] theorem depart_tables (p : PadId) : (depart p s).tables = s.tables := by
  simp [depart]
@[simp] theorem depart_alloc (p : PadId) : (depart p s).alloc = s.alloc := by
  simp [depart]
@[simp] theorem depart_groups (p : PadId) : (depart p s).groups = s.groups := by
  simp [depart]
@[simp] theorem depart_lines (p : PadId) : (depart p s).lines = s.lines := by
  simp [depart]
@[simp] theorem depart_fleet (p : PadId) : (depart p s).fleet = s.fleet := by
  simp [depart]
@[simp] theorem depart_mode (p : PadId) : (depart p s).mode = s.mode := by
  simp [depart]
@[simp] theorem depart_notices (p : PadId) : (depart p s).notices = s.notices := by
  simp [depart]
@[simp] theorem depart_signals (p : PadId) : (depart p s).signals = s.signals := by
  simp [depart]
@[simp] theorem depart_freeCount (p : PadId) : (depart p s).freeCount = s.freeCount := by
  simp [depart]
@[simp] theorem depart_pending (p : PadId) : (depart p s).pending = s.pending := by
  simp [depart]

/-! ### swap: A vehicle swap (R46). -/

@[simp] theorem swap_time (p : PadId) (d : Byte) : (swap p d s).time = s.time := by
  simp [swap]
@[simp] theorem swap_tables (p : PadId) (d : Byte) : (swap p d s).tables = s.tables := by
  simp [swap]
@[simp] theorem swap_alloc (p : PadId) (d : Byte) : (swap p d s).alloc = s.alloc := by
  simp [swap]
@[simp] theorem swap_groups (p : PadId) (d : Byte) : (swap p d s).groups = s.groups := by
  simp [swap]
@[simp] theorem swap_lines (p : PadId) (d : Byte) : (swap p d s).lines = s.lines := by
  simp [swap]
@[simp] theorem swap_fleet (p : PadId) (d : Byte) : (swap p d s).fleet = s.fleet := by
  simp [swap]
@[simp] theorem swap_mode (p : PadId) (d : Byte) : (swap p d s).mode = s.mode := by
  simp [swap]
@[simp] theorem swap_notices (p : PadId) (d : Byte) : (swap p d s).notices = s.notices := by
  simp [swap]
@[simp] theorem swap_signals (p : PadId) (d : Byte) : (swap p d s).signals = s.signals := by
  simp [swap]
@[simp] theorem swap_freeCount (p : PadId) (d : Byte) : (swap p d s).freeCount = s.freeCount := by
  simp [swap]
@[simp] theorem swap_pending (p : PadId) (d : Byte) : (swap p d s).pending = s.pending := by
  simp [swap]

/-! ### endSilence: The end of a silence (R50). -/

@[simp] theorem endSilence_time (p : PadId) (r : Report) : (endSilence p r s).time = s.time := by
  unfold endSilence; dsimp only; repeat' split
  all_goals simp
@[simp] theorem endSilence_tables (p : PadId) (r : Report) : (endSilence p r s).tables = s.tables := by
  unfold endSilence; dsimp only; repeat' split
  all_goals simp
@[simp] theorem endSilence_alloc (p : PadId) (r : Report) : (endSilence p r s).alloc = s.alloc := by
  unfold endSilence; dsimp only; repeat' split
  all_goals simp
@[simp] theorem endSilence_groups (p : PadId) (r : Report) : (endSilence p r s).groups = s.groups := by
  unfold endSilence; dsimp only; repeat' split
  all_goals simp
@[simp] theorem endSilence_mode (p : PadId) (r : Report) : (endSilence p r s).mode = s.mode := by
  unfold endSilence; dsimp only; repeat' split
  all_goals simp
@[simp] theorem endSilence_signals (p : PadId) (r : Report) : (endSilence p r s).signals = s.signals := by
  unfold endSilence; dsimp only; repeat' split
  all_goals simp
@[simp] theorem endSilence_freeCount (p : PadId) (r : Report) : (endSilence p r s).freeCount = s.freeCount := by
  unfold endSilence; dsimp only; repeat' split
  all_goals simp
@[simp] theorem endSilence_pending (p : PadId) (r : Report) : (endSilence p r s).pending = s.pending := by
  unfold endSilence; dsimp only; repeat' split
  all_goals simp

/-! ### reportTransition: Step 1 of a REPORT (R26). -/

@[simp] theorem reportTransition_time (p : PadId) (q : LineRequest) (r : Report) : (reportTransition p q r s).time = s.time := by
  unfold reportTransition; dsimp only; repeat' split
  all_goals simp
@[simp] theorem reportTransition_tables (p : PadId) (q : LineRequest) (r : Report) : (reportTransition p q r s).tables = s.tables := by
  unfold reportTransition; dsimp only; repeat' split
  all_goals simp
@[simp] theorem reportTransition_alloc (p : PadId) (q : LineRequest) (r : Report) : (reportTransition p q r s).alloc = s.alloc := by
  unfold reportTransition; dsimp only; repeat' split
  all_goals simp
@[simp] theorem reportTransition_groups (p : PadId) (q : LineRequest) (r : Report) : (reportTransition p q r s).groups = s.groups := by
  unfold reportTransition; dsimp only; repeat' split
  all_goals simp
@[simp] theorem reportTransition_mode (p : PadId) (q : LineRequest) (r : Report) : (reportTransition p q r s).mode = s.mode := by
  unfold reportTransition; dsimp only; repeat' split
  all_goals simp
@[simp] theorem reportTransition_signals (p : PadId) (q : LineRequest) (r : Report) : (reportTransition p q r s).signals = s.signals := by
  unfold reportTransition; dsimp only; repeat' split
  all_goals simp
@[simp] theorem reportTransition_freeCount (p : PadId) (q : LineRequest) (r : Report) : (reportTransition p q r s).freeCount = s.freeCount := by
  unfold reportTransition; dsimp only; repeat' split
  all_goals simp
@[simp] theorem reportTransition_pending (p : PadId) (q : LineRequest) (r : Report) : (reportTransition p q r s).pending = s.pending := by
  unfold reportTransition; dsimp only; repeat' split
  all_goals simp

/-! ### overdrawCheck: The overdraw check (R117). -/

@[simp] theorem overdrawCheck_time (p : PadId) (r : Report) : (overdrawCheck p r s).time = s.time := by
  unfold overdrawCheck; dsimp only; repeat' split
  all_goals simp
@[simp] theorem overdrawCheck_tables (p : PadId) (r : Report) : (overdrawCheck p r s).tables = s.tables := by
  unfold overdrawCheck; dsimp only; repeat' split
  all_goals simp
@[simp] theorem overdrawCheck_alloc (p : PadId) (r : Report) : (overdrawCheck p r s).alloc = s.alloc := by
  unfold overdrawCheck; dsimp only; repeat' split
  all_goals simp
@[simp] theorem overdrawCheck_groups (p : PadId) (r : Report) : (overdrawCheck p r s).groups = s.groups := by
  unfold overdrawCheck; dsimp only; repeat' split
  all_goals simp
@[simp] theorem overdrawCheck_mode (p : PadId) (r : Report) : (overdrawCheck p r s).mode = s.mode := by
  unfold overdrawCheck; dsimp only; repeat' split
  all_goals simp
@[simp] theorem overdrawCheck_signals (p : PadId) (r : Report) : (overdrawCheck p r s).signals = s.signals := by
  unfold overdrawCheck; dsimp only; repeat' split
  all_goals simp
@[simp] theorem overdrawCheck_freeCount (p : PadId) (r : Report) : (overdrawCheck p r s).freeCount = s.freeCount := by
  unfold overdrawCheck; dsimp only; repeat' split
  all_goals simp
@[simp] theorem overdrawCheck_pending (p : PadId) (r : Report) : (overdrawCheck p r s).pending = s.pending := by
  unfold overdrawCheck; dsimp only; repeat' split
  all_goals simp

/-! ### confirmDecrease: The confirmation of a decrease (R78). -/

@[simp] theorem confirmDecrease_time (p : PadId) (r : Report) : (confirmDecrease p r s).time = s.time := by
  unfold confirmDecrease; split <;> simp
@[simp] theorem confirmDecrease_tables (p : PadId) (r : Report) : (confirmDecrease p r s).tables = s.tables := by
  unfold confirmDecrease; split <;> simp
@[simp] theorem confirmDecrease_alloc (p : PadId) (r : Report) : (confirmDecrease p r s).alloc = s.alloc := by
  unfold confirmDecrease; split <;> simp
@[simp] theorem confirmDecrease_groups (p : PadId) (r : Report) : (confirmDecrease p r s).groups = s.groups := by
  unfold confirmDecrease; split <;> simp
@[simp] theorem confirmDecrease_lines (p : PadId) (r : Report) : (confirmDecrease p r s).lines = s.lines := by
  unfold confirmDecrease; split <;> simp
@[simp] theorem confirmDecrease_fleet (p : PadId) (r : Report) : (confirmDecrease p r s).fleet = s.fleet := by
  unfold confirmDecrease; split <;> simp
@[simp] theorem confirmDecrease_mode (p : PadId) (r : Report) : (confirmDecrease p r s).mode = s.mode := by
  unfold confirmDecrease; split <;> simp
@[simp] theorem confirmDecrease_notices (p : PadId) (r : Report) : (confirmDecrease p r s).notices = s.notices := by
  unfold confirmDecrease; split <;> simp
@[simp] theorem confirmDecrease_signals (p : PadId) (r : Report) : (confirmDecrease p r s).signals = s.signals := by
  unfold confirmDecrease; split <;> simp
@[simp] theorem confirmDecrease_freeCount (p : PadId) (r : Report) : (confirmDecrease p r s).freeCount = s.freeCount := by
  unfold confirmDecrease; split <;> simp
@[simp] theorem confirmDecrease_pending (p : PadId) (r : Report) : (confirmDecrease p r s).pending = s.pending := by
  unfold confirmDecrease; split <;> simp

/-! ### takeVoltage: Step 4 of a REPORT (R98). -/

@[simp] theorem takeVoltage_time (p : PadId) (r : Report) : (takeVoltage p r s).time = s.time := by
  unfold takeVoltage; split <;> simp
@[simp] theorem takeVoltage_tables (p : PadId) (r : Report) : (takeVoltage p r s).tables = s.tables := by
  unfold takeVoltage; split <;> simp
@[simp] theorem takeVoltage_mode (p : PadId) (r : Report) : (takeVoltage p r s).mode = s.mode := by
  unfold takeVoltage; split <;> simp
@[simp] theorem takeVoltage_signals (p : PadId) (r : Report) : (takeVoltage p r s).signals = s.signals := by
  unfold takeVoltage; split <;> simp
@[simp] theorem takeVoltage_freeCount (p : PadId) (r : Report) : (takeVoltage p r s).freeCount = s.freeCount := by
  unfold takeVoltage; split <;> simp
@[simp] theorem takeVoltage_pending (p : PadId) (r : Report) : (takeVoltage p r s).pending = s.pending := by
  unfold takeVoltage; split <;> simp

/-! ### handleReport: A good REPORT (R26). -/

@[simp] theorem handleReport_time (p : PadId) (q : LineRequest) (r : Report) : (handleReport p q r s).time = s.time := by
  simp [handleReport]
@[simp] theorem handleReport_tables (p : PadId) (q : LineRequest) (r : Report) : (handleReport p q r s).tables = s.tables := by
  simp [handleReport]
@[simp] theorem handleReport_mode (p : PadId) (q : LineRequest) (r : Report) : (handleReport p q r s).mode = s.mode := by
  simp [handleReport]
@[simp] theorem handleReport_signals (p : PadId) (q : LineRequest) (r : Report) : (handleReport p q r s).signals = s.signals := by
  simp [handleReport]
@[simp] theorem handleReport_freeCount (p : PadId) (q : LineRequest) (r : Report) : (handleReport p q r s).freeCount = s.freeCount := by
  simp [handleReport]
@[simp] theorem handleReport_pending (p : PadId) (q : LineRequest) (r : Report) : (handleReport p q r s).pending = s.pending := by
  simp [handleReport]

/-! ### handleFault: A good FAULT_REPORT (R51). -/

@[simp] theorem handleFault_time (p : PadId) (c d : Byte) (w : Nat) : (handleFault p c d w s).time = s.time := by
  unfold handleFault; dsimp only; split <;> simp
@[simp] theorem handleFault_tables (p : PadId) (c d : Byte) (w : Nat) : (handleFault p c d w s).tables = s.tables := by
  unfold handleFault; dsimp only; split <;> simp
@[simp] theorem handleFault_alloc (p : PadId) (c d : Byte) (w : Nat) : (handleFault p c d w s).alloc = s.alloc := by
  unfold handleFault; dsimp only; split <;> simp
@[simp] theorem handleFault_groups (p : PadId) (c d : Byte) (w : Nat) : (handleFault p c d w s).groups = s.groups := by
  unfold handleFault; dsimp only; split <;> simp
@[simp] theorem handleFault_mode (p : PadId) (c d : Byte) (w : Nat) : (handleFault p c d w s).mode = s.mode := by
  unfold handleFault; dsimp only; split <;> simp
@[simp] theorem handleFault_signals (p : PadId) (c d : Byte) (w : Nat) : (handleFault p c d w s).signals = s.signals := by
  unfold handleFault; dsimp only; split <;> simp
@[simp] theorem handleFault_freeCount (p : PadId) (c d : Byte) (w : Nat) : (handleFault p c d w s).freeCount = s.freeCount := by
  unfold handleFault; dsimp only; split <;> simp
@[simp] theorem handleFault_pending (p : PadId) (c d : Byte) (w : Nat) : (handleFault p c d w s).pending = s.pending := by
  unfold handleFault; dsimp only; split <;> simp

end Sys2Proof.Machine
end

