-- ==== Sys2Proof/WellFormed.lean ====
section
/-! DEFINITION. Which terms of Instr the outside world can produce: a fleet frame's body has at most 240
bytes, a row named after a setting or a kind carries that setting or kind, a reply has an address
character, and a row of the fleet line's receiver has bytes, each with its start bit. A meaning is total all
the same; these checks say which terms stand for events of the part. -/

namespace Sys2Proof

/-- A body a fleet frame can carry (R148). -/
def bodyFits (body : List Byte) : Bool := decide (body.length ≤ Config.bodyLimit)

/-- A SET_MODE body of a row: one that the length refuses, one whose setting is none of the six, or one
that carries the row's own setting (R171, R201). -/
def settingFits (setting : Nat) (body : List Byte) : Bool :=
  bodyFits body
    && (decide (body.length ≠ 3) || decide (5 < (Machine.byteAt body 0).toNat)
      || (Machine.byteAt body 0).toNat == setting)

/-- A reply: it begins with an address character no later than its 300th character, and holds no more
than 300 characters from it on (R130, R131). -/
def replyFits (reply : List RxChar) : Bool :=
  reply.any RxChar.ninth
    && decide ((reply.dropWhile fun c => !c.ninth).length ≤ Config.replyLimit)

/-- A reply whose kind character is the row's (R202). -/
def replyOfKind (kind : Byte) (reply : List RxChar) : Bool :=
  replyFits reply && Machine.replyKind reply == kind

/-- The parts of a frame as its sender lays it out: at most a length, a kind and a tag, a body of at most 240
bytes, and two bytes of check (R148). -/
def partsFit (head body check : List RxByte) : Bool :=
  decide (head.length ≤ 3) && decide (body.length ≤ Config.bodyLimit) && decide (check.length ≤ 2)

/-- The last byte of a run has a value above 240 (R150). -/
def endsAboveLimit (bytes : List RxByte) : Bool :=
  match bytes.getLast? with
  | none => false
  | some b => decide (Config.bodyLimit < b.data.toNat)

/-- Bytes arrive, and each began with a start bit (R148). -/
def bytesStart (bytes : List RxByte) : Bool := !bytes.isEmpty && bytes.all RxByte.starts

/-- A well-formed command. -/
def Instr.wellFormed : Instr → Bool
  | .powerOn => true
  | .resetInput => true
  | .tick => true
  | .roundTimerExpiry => true
  | .headroomTurnsStale _ => true
  | .issueStage => true
  | .fastShedPassEnd => true
  | .dispatch _ body => bodyFits body
  | .release _ body => bodyFits body
  | .padLimit _ body => bodyFits body
  | .clearPad _ body => bodyFits body
  | .headroom _ body => bodyFits body
  | .clearInput _ body => bodyFits body
  | .openWindow _ body => bodyFits body
  | .writeRecords _ body => bodyFits body
  | .readRecords _ body => bodyFits body
  | .commit _ body => bodyFits body
  | .commitCheckEnd => true
  | .discard _ body => bodyFits body
  | .setModeHalt _ body => settingFits 0 body
  | .setModeResume _ body => settingFits 1 body
  | .setModeFine _ body => settingFits 2 body
  | .setModeStepped _ body => settingFits 3 body
  | .setModeFull _ body => settingFits 4 body
  | .setModePartial _ body => settingFits 5 body
  | .restart _ body => bodyFits body
  | .readCapture _ body => bodyFits body
  | .ackNotices _ body => bodyFits body
  | .setNoticeMask _ body => bodyFits body
  | .readStatus _ body => bodyFits body
  | .readPad _ body => bodyFits body
  | .readFeeder _ body => bodyFits body
  | .readLine _ body => bodyFits body
  | .badKindRequest kind _ body => bodyFits body && !Machine.requestKinds.contains kind
  | .fleetFrameReceived before head body check after =>
    partsFit head body check && bytesStart (before ++ head ++ body ++ check ++ after)
  | .fleetLengthAbove240 bytes => bytesStart bytes && endsAboveLimit bytes
  | .fleetFrameAbort => true
  | .frameTransmitStart => true
  | .frameTransmitEnd => true
  | .transactionStart _ => true
  | .replyTimeout _ => true
  | .report _ reply => replyOfKind Machine.lineReport reply
  | .faultReport _ reply => replyOfKind Machine.lineFault reply
  | .caps _ reply => replyOfKind Machine.lineCaps reply
  | .replyFailed _ reply => replyFits reply
  | .lineBreakEnd _ => true
  | .inputLineChange _ _ => true
  | .inputEdgeTaken _ => true

end Sys2Proof
end

