-- ==== Sys2Proof/Tests/Slice0.lean ====
section
/-! SUPPORT. Tests on fixed values, from the worked cases of spec/, and for every statement of
Certificates/Slice0/Obligations.lean that has hypotheses a state and operands that meet them. -/

namespace Sys2Proof.Tests
open Sys2Proof Sys2Proof.Machine

-- One theorem at a time: each holds a whole state in the kernel.
set_option Elab.async false

/-! ## Small states -/

/-- The state a command leaves. -/
def after (c : Instr) (s : State) : State :=
  match exec c s with
  | .next t => t
  | .fault _ => s
  | .refused _ => s

/-- One request frame waits alone in the receive queue. -/
def asks (kind tag : Byte) (body : List Byte) (s : State) : State :=
  s.withFleet { s.fleet with rx := [⟨kind, tag, body⟩] }

theorem asks_takesNext (kind tag : Byte) (body : List Byte) (s : State)
    (hc : s.tables.commit.isChecking = false) (hr : s.fleet.restartWaiting = false)
    (hn : s.fleet.responses < Config.responseLimit) :
    (asks kind tag body s).takesNext kind tag body [] := ⟨rfl, hc, hr, hn⟩

theorem four_free : 0 < Config.responseLimit := by decide

/-- The four pads of the worked case of chapter 3, with the pad, its flags, class and ceiling. -/
def casePad (flags cls : Byte) (drop : Byte) (ceiling : Nat) : List Byte :=
  [1, flags, 2, drop, 2, cls] ++ bytes2 ceiling ++ [0, 0, 0, 0]

/-- A site record: limit 2000, period 50, hold 2, miss limit 3, 2 attempts, 40 ms, H and T 4, step 25,
defaults 90 and 15, hold time 30 s. -/
def caseSite : List Byte :=
  bytes2 2000 ++ bytes2 50 ++ [2, 3, 2, 20, 4, 4, 25] ++ bytes2 90 ++ bytes2 15 ++ bytes2 30
    ++ List.replicate 15 0

/-- Feeder group 2: rated 600, fallback 100, shed 150, ramp 60, tolerance 10, overdraw limit 3, NOTIFY_AND_SHED,
warn 380 released at 390, shed 360 released at 375. -/
def caseFeeder : List Byte :=
  [1, 51, 10] ++ bytes2 600 ++ bytes2 100 ++ bytes2 150 ++ bytes2 60 ++ [124, 134, 104, 119, 85]

/-- The bank of the worked case: pads 5, 9, 12 and 20 on line C in group 2. -/
def caseBank : Bank :=
  ((((((Bank.zero.store .site 0 caseSite).store .feeder 2 caseFeeder).store .pad 12
    (casePad 1 0 12 150)).store .pad 9 (casePad 0 1 9 200)).store .pad 5
    (casePad 0 1 5 200)).store .pad 20 (casePad 1 1 4 200)).store .line 0 [2, 0, 0, 0]

/-- The power-on state with the worked case's bank in force. -/
def loaded : State :=
  State.reset.withTables
    { State.reset.tables with
      active := caseBank, shadow := caseBank, loaded := Vector.replicate 4 true }

/-- A capability record of a vehicle with a minimum and no tiers. -/
def capsWith (vmin : Nat) : Capability :=
  { vmax := 400, vmin := vmin, vehicleId := none, battery := none, tiers := [], source := .vehicle
    tiersIgnored := false }

/-- A report of a present vehicle at docking count 0. -/
def reportWith (accept : Nat) : Report :=
  { present := true, closed := true, ready := true, docking := 0, applied := 0, metered := 0
    voltage := 398, energy := 0, accept := accept, charge := 50 }

/-- A pad of the worked case in a session state. -/
def padWith (x : SessionState) (vmin accept sent grant : Nat) : Pad :=
  { Pad.initial with
    state := x, caps := some (capsWith vmin), report := some (reportWith accept), inDocking := true
    sent := sent, grant := grant, stayed := x.served }

/-- The worked case's bank with one pad of it in a session state, at rest. -/
def inState (p : PadId) (x : SessionState) : State :=
  loaded.updPad p fun _ => padWith x 20 300 0 0

/-- The state with the engine mode `x`. -/
def inMode (x : EngineMode) (s : State) : State := s.withMode { s.mode with engine := x }

/-- One dispatch record with what remains of it. -/
def ordered (d : Ticks) (e : Nat) (q : Pad) : Pad :=
  { q with dispatch := some { target := e, base := 0, deadline := d, missed := false }, remaining := e }

/-- The four pads as the worked case in FINE resolution starts. -/
def caseStart : State :=
  (((loaded.updPad 12 fun _ => padWith .charging 10 400 100 100).updPad 9
    (fun _ => ordered 7200 6000 (padWith .waiting 25 180 0 0))).updPad 5
    (fun _ => ordered 18000 4000 (padWith .charging 20 400 150 150))).updPad 20
    (fun _ => padWith .charging 30 400 120 120)

/-- Group 2 with an effective capacity. -/
def withCapacity (n : Nat) (s : State) : State :=
  s.updGroup 2 fun x => { x with headroom := n, hstate := .fresh, capacity := n }

/-- The grants after the release of the second worked case, as kept. -/
def caseShed : State :=
  inMode .running
    (((((loaded.updPad 12 fun _ => padWith .charging 10 400 80 80).updPad 9
      (fun _ => padWith .charging 25 400 120 120)).updPad 5
      (fun _ => padWith .charging 20 400 200 200)).updPad 20
      (fun _ => padWith .charging 30 400 200 200)).withAlloc
      { loaded.alloc with kept := [12, 9, 5, 20] })

/-- The shed case with a pass RUNNING. -/
def passing (cap : Nat) (wait : Bool) : State :=
  (withCapacity cap caseShed).withAlloc { caseShed.alloc with fastShed := .running, sweepWaiting := wait }

/-- The loaded part with IN0 given a function and a sense, its pin HIGH and its taken level LOW. -/
def edgeAt (f x : Byte) : State :=
  (loaded.withTables { loaded.tables with active := caseBank.store .line 0 [f, 2, x, 0] }).withSignals
    { loaded.signals with level := loaded.signals.level.set 0 true }

/-- Line C idle with these lists and marks. -/
def idleLine (final : List Nat) (urgent : List PadId) (marked : Bool) (s : State) : State :=
  s.updLine 2 fun c =>
    { c with
      breaking := false, final := final, urgent := urgent, finalOffered := marked, urgentOffered := marked }

/-- A transaction for pad 5 at its drop. -/
def toFive (q : LineRequest) : Transaction :=
  { drop := 5, pad := some 5, request := q, slot := .normal, timeout := 20, inDiscovery := true }

/-- That transaction in flight on line C. -/
def polling (q : LineRequest) (s : State) : State :=
  s.updLine 2 fun c => { c with breaking := false, inFlight := some (toFive q) }

/-! ## The worked cases of the spec -/

/-- R199: the check value. -/
theorem test_crc_check_value :
    crc [0x31, 0x32, 0x33, 0x34, 0x35, 0x36, 0x37, 0x38, 0x39] = 0x29B1 := by decide +kernel

/-- Chapter 11, the REPORT of pad 17's charger at drop 2: its characters and how it is judged. -/
theorem test_report_frame :
    reportBody
        { present := true, closed := true, ready := true, docking := 42, applied := 60, metered := 58
          voltage := 398, energy := 1100, accept := 180, charge := 47 }
      = [0x07, 0x2A, 0x00, 0x3C, 0x00, 0x3A, 0x01, 0x8E, 0x04, 0x4C, 0x00, 0xB4, 0x2F]
    ∧ ((goodReply 2 lineReport
        [0x07, 0x2A, 0x00, 0x3C, 0x00, 0x3A, 0x01, 0x8E, 0x04, 0x4C, 0x00, 0xB4, 0x2F]).map
          RxChar.data).take 2 = [0x82, 0x11]
    ∧ (goodReply 2 lineReport
        [0x07, 0x2A, 0x00, 0x3C, 0x00, 0x3A, 0x01, 0x8E, 0x04, 0x4C, 0x00, 0xB4, 0x2F]).length = 17
    ∧ (reportOf [0x0F, 0x2A, 0x00, 0x3C, 0x00, 0x3A, 0x01, 0x8E, 0x04, 0x4C, 0x00, 0xB4, 0x2F]).voltage
        = 398 := by decide +kernel

/-- A POLL in flight to drop 9. -/
def pollNine : Transaction :=
  { drop := 9, pad := none, request := .poll, slot := .normal, timeout := 20, inDiscovery := false }

/-- Chapter 6, the classification examples: GOOD, NOISY, CORRUPT, WRONG_REPLY by kind and by drop, and a
character before the address character. -/
theorem test_classification :
    classify pollNine (goodReply 9 lineReport (reportBody (reportWith 0))) = .good
    ∧ classify pollNine ((goodReply 9 lineReport (reportBody (reportWith 0))).map fun c =>
        { c with third := c.third ^^^ 2#11 }) = .noisy
    ∧ classify pollNine ((goodReply 9 lineReport (reportBody (reportWith 0))).map fun c =>
        { c with second := c.second &&& 1023#11, third := c.third &&& 1023#11 }) = .corrupt
    ∧ classify pollNine (goodReply 9 lineReport (reportBody (reportWith 0)) ++ [cleanChar false 0])
        = .corrupt
    ∧ classify pollNine (goodReply 9 lineFault [3, 0, 10, 1]) = .good
    ∧ classify pollNine (goodReply 9 lineCaps (List.replicate 12 0)) = .wrongReply
    ∧ classify pollNine (goodReply 10 lineReport (reportBody (reportWith 0))) = .wrongReply
    ∧ classify pollNine (cleanChar false 9 :: goodReply 9 lineReport (reportBody (reportWith 0)))
        = .corrupt
    ∧ classify pollNine [] = .noReply := by decide +kernel

/-- Section 3.5, the table of need figures. -/
theorem test_need_figures :
    needOf { state := .waiting, inScope := true, caps := none, deadline := some 7000, remaining := 1234
             accept := none, limit := none, sent := 0, reservation := 0 } 0 150 = 64
    ∧ urgencyOf 64 150 = 109
    ∧ needOf { state := .waiting, inScope := true, caps := none, deadline := some 36000, remaining := 500
               accept := none, limit := none, sent := 0, reservation := 0 } 0 120 = 5
    ∧ urgencyOf 5 120 = 10
    ∧ needOf { state := .waiting, inScope := true, caps := none, deadline := some 0, remaining := 2000
               accept := none, limit := none, sent := 0, reservation := 0 } 5 90 = 90
    ∧ urgencyOf 90 90 = 256 := by decide +kernel

/-- Section 3.6, the ranks with H = 4, T = 4 and o = 3, and after the sweep. -/
theorem test_ranks :
    rankOf 4 4 3 2 = 2 ∧ rankOf 4 4 3 4 = 57 ∧ rankOf 4 4 3 7 = 4 ∧ rankOf 4 4 3 59 = 56
    ∧ rankOf 4 4 3 61 = 61 ∧ rankOf 4 4 4 8 = 4 ∧ rankOf 4 4 4 7 = 59 := by decide +kernel

/-- The worked case of four pads in FINE resolution. -/
theorem test_fine_grants :
    sweepGrants (takeSnapshot (withCapacity 600 caseStart)) 0
      = [(12, 150), (9, 60), (5, 200), (20, 180)] := by decide +kernel

/-- The same pads in STEPPED resolution with a step of 25. -/
theorem test_stepped_grants :
    sweepGrants { takeSnapshot (withCapacity 600 caseStart) with resolution := .stepped } 0
      = [(12, 150), (9, 50), (5, 200), (20, 175)] := by decide +kernel

/-- Rounding to tiers: 95 and 110 to 80, 140 to 120, 30 to nothing. -/
theorem test_tiers :
    roundGrant .fine 25 { capsWith 30 with tiers := [40, 80, 120] } 95 = 80
    ∧ roundGrant .fine 25 { capsWith 30 with tiers := [40, 80, 120] } 110 = 80
    ∧ roundGrant .fine 25 { capsWith 30 with tiers := [40, 80, 120] } 140 = 120
    ∧ roundGrant .fine 25 { capsWith 30 with tiers := [40, 80, 120] } 30 = 0
    ∧ (({ capsWith 30 with tiers := [40, 80, 120] } : Capability).effMin = 40) := by decide +kernel

/-- The worked case of a fast shed: pads 20 and 5 give way, 9 and 12 keep their grants. -/
theorem test_fast_shed :
    (startPass (withCapacity 380 caseShed)).pads[20].grant = 0
    ∧ (startPass (withCapacity 380 caseShed)).pads[20].prior = 200
    ∧ (startPass (withCapacity 380 caseShed)).pads[20].state = .waiting
    ∧ (startPass (withCapacity 380 caseShed)).pads[5].grant = 180
    ∧ (startPass (withCapacity 380 caseShed)).pads[9].grant = 120
    ∧ (startPass (withCapacity 380 caseShed)).lines[2].urgent = [20, 5] := by decide +kernel

/-- The notice sets of R200: bit k for kind k. -/
theorem test_notice_bytes :
    noticeBytes Notice.requestDropped.bit = [0x04, 0x00]
    ∧ noticeBytes (Notice.padFault.bit ||| Notice.commitDone.bit) = [0x00, 0x81] := by decide

/-! ## One step of a command -/

/-- R171, R172: RESUME from a loaded, halted part makes it DISCOVERING. -/
theorem test_resume :
    (after (.setModeResume 7 [1, 0, 0]) (asks 0x18 7 [1, 0, 0] loaded)).mode.engine = .discovering
    ∧ (after (.setModeResume 7 [1, 0, 0]) (asks 0x18 7 [1, 0, 0] State.reset)).fleet.tx
        = [.response ⟨0x80, 7, [0x18, 0x18]⟩] := by decide +kernel

/-- R39: a DISPATCH to a WAITING pad forms its record. -/
theorem test_dispatch :
    (after (.dispatch 7 [5, 1, 0, 0, 60]) (asks 0x01 7 [5, 1, 0, 0, 60] (inState 5 .waiting))).pads[5].dispatch
      = some { target := 256, base := 0, deadline := 600, missed := false } := by decide +kernel

/-- R34: a REPORT of a vehicle on an EMPTY pad begins probing. -/
theorem test_report_begins_probing :
    (after (.report 2 (goodReply 5 lineReport (reportBody { reportWith 100 with docking := 9 })))
        (polling .poll (inState 5 .empty))).pads[5].state = .probing := by decide +kernel

/-- R51: a FAULT_REPORT faults a CHARGING pad and is captured. -/
theorem test_fault_report :
    (after (.faultReport 2 (goodReply 5 lineFault [3, 0, 10, 1]))
        (polling .poll (inState 5 .charging))).pads[5].fault = some 3
    ∧ ((after (.faultReport 2 (goodReply 5 lineFault [3, 0, 10, 1]))
        (polling .poll (inState 5 .charging))).notices.captures.map CaptureEntry.power) = [10] := by
  decide +kernel

/-- R95: a group of hold time 30 s is FRESH at an age of 300 and STALE at 301. -/
theorem test_stale :
    (after (.headroomTurnsStale 2)
        ((withCapacity 500 loaded).updGroup 2 fun x => { x with age := 300 })).groups[2].hstate = .fresh
    ∧ (after (.headroomTurnsStale 2)
        ((withCapacity 500 loaded).updGroup 2 fun x => { x with age := 301 })).groups[2].hstate
      = .stale := by decide +kernel

/-- R38, R119: RELEASE from PROBING clears at once what an unconfirmed decrease has left. -/
theorem test_release_from_probing :
    (after (.release 7 [5]) (asks 0x02 7 [5] ((inState 5 .probing).updPad 5 fun q =>
      { q with decPending := true, prior := 90 }))).pads[5].decPending = false
    ∧ (after (.release 7 [5]) (asks 0x02 7 [5] ((inState 5 .probing).updPad 5 fun q =>
      { q with decPending := true, prior := 90 }))).pads[5].prior = 0 := by decide +kernel

/-- R187: a waiting NOTICE that no kind is left for is withdrawn in the ACK_NOTICES event. -/
theorem test_ack_withdraws :
    (after (.ackNotices 7 [0, 128]) (asks 0x21 7 [0, 128] (raise .commitDone loaded))).fleet.tx
      = [.response ⟨0x80, 7, [0x21, 0x00, 0, 0, 0, 0]⟩] := by decide +kernel

/-- Undamaged bytes of the fleet line. -/
def clean (bs : List Byte) : List RxByte := bs.map cleanByte

/-- R148: a start bit at space, the data bits least significant first, a stop bit at mark; a byte whose stop bit
is taken as space has a framing error. -/
theorem test_fleet_byte :
    fleetChar 0xA5 = 0b1101001010#10 ∧ fleetChar 0x01 = 0b1000000010#10
    ∧ (RxByte.mk 0b0101001010#10).data = 0xA5 ∧ (RxByte.mk 0b0101001010#10).framing = true := by decide

/-- R148, chapter 11: the first bytes of a response on the fleet line, and a line at rest. -/
theorem test_fleet_line :
    (loaded.withFleet { loaded.fleet with sending := some ⟨0x80, 7, [0x18, 0x18]⟩ }).fleet.line.take 4
      = (clean [0xA5, 0x02, 0x80, 0x07]).map RxByte.bits ∧ loaded.fleet.line = [] := by decide +kernel

/-- R149 to R151: a RELEASE of pad 5 comes in two portions, a gap breaks another
off, and a gap in the hunt is nothing. -/
theorem test_receiver :
    (after (.fleetFrameReceived [] (clean [0x02, 0x07]) (clean [0x05])
        (clean (crcBytes (crc [0x01, 0x02, 0x07, 0x05]))) [])
      (after (.fleetFrameReceived (clean [0x00, 0xA5]) (clean [0x01]) [] [] []) loaded)).fleet.rx
      = [⟨0x02, 7, [5]⟩]
    ∧ (after .fleetFrameAbort
        (after (.fleetFrameReceived (clean [0xA5, 0x01]) [] [] [] []) loaded)).fleet.corrupt = 1
    ∧ (after .fleetFrameAbort loaded).fleet.corrupt = 0 := by decide +kernel

/-- R131: a reply of 300 characters leaves its line busy, and the break that waits starts when the line has
fallen idle. -/
theorem test_busy_line :
    (after (.replyFailed 2 (cleanChar true 133 :: List.replicate 299 (cleanChar false 0)))
      ((polling .poll loaded).updLine 2 LineCtl.askBreak)).lines[2].breaking = false
    ∧ (after (.transactionStart 2)
      (after (.replyFailed 2 (cleanChar true 133 :: List.replicate 299 (cleanChar false 0)))
        ((polling .poll loaded).updLine 2 LineCtl.askBreak))).lines[2].breaking = true := by decide +kernel

/-- R136, R202: a POLL carries the sent setpoint, the setpoint validity and the round period. -/
theorem test_poll_frame :
    (pollFrame 5 180 2 50).take 7 = [0x05, 0x01, 0x00, 0xB4, 0x02, 0x00, 0x32]
    ∧ (pollFrame 5 180 2 50).length = 9 := by decide +kernel

/-- No row of the opcode table has bits, so no word spells a command. -/
theorem test_no_word_spells_a_command : decodeTableWord 16 0 = none ∧ decodeTableWord 8 0x18 = none := by
  decide

/-! ## WellFormed refuses an ill-formed term of each check -/

theorem test_wellFormed_body :
    (Instr.release 1 [5]).wellFormed = true
    ∧ (Instr.release 1 (List.replicate 241 0)).wellFormed = false := by decide +kernel

theorem test_wellFormed_setting :
    (Instr.setModeFine 1 [2, 0, 0]).wellFormed = true
    ∧ (Instr.setModeFine 1 [3, 0, 0]).wellFormed = false := by decide +kernel

theorem test_wellFormed_kind :
    (Instr.badKindRequest 0x55 1 []).wellFormed = true
    ∧ (Instr.badKindRequest 0x01 1 []).wellFormed = false := by decide +kernel

theorem test_wellFormed_length :
    (Instr.fleetLengthAbove240 (clean [0xA5, 241])).wellFormed = true
    ∧ (Instr.fleetLengthAbove240 (clean [241, 240])).wellFormed = false
    ∧ (Instr.fleetLengthAbove240 []).wellFormed = false := by decide +kernel

theorem test_wellFormed_parts :
    (Instr.fleetFrameReceived (clean [0xA5]) (clean [0, 0, 0]) [] [] []).wellFormed = true
    ∧ (Instr.fleetFrameReceived (clean [0xA5]) (clean [0, 0, 0, 0]) [] [] []).wellFormed = false
    ∧ (Instr.fleetFrameReceived [] [] (List.replicate 241 (cleanByte 0)) [] []).wellFormed = false
    ∧ (Instr.fleetFrameReceived [] [] [] (clean [0, 0, 0]) []).wellFormed = false
    ∧ (Instr.fleetFrameReceived [] [] [] [] []).wellFormed = false := by decide +kernel

theorem test_wellFormed_start :
    (Instr.fleetFrameReceived [RxByte.mk 0b1101001010#10] [] [] [] []).wellFormed = true
    ∧ (Instr.fleetFrameReceived [RxByte.mk 0b1101001011#10] [] [] [] []).wellFormed = false := by decide +kernel

theorem test_wellFormed_reply :
    (Instr.report 0 (goodReply 5 lineReport (reportBody (reportWith 0)))).wellFormed = true
    ∧ (Instr.report 0 (goodReply 5 lineFault [3, 0, 10, 1])).wellFormed = false
    ∧ (Instr.replyFailed 0 [cleanChar false 1]).wellFormed = false
    ∧ (Instr.replyFailed 0 (cleanChar true 1 :: List.replicate 300 (cleanChar false 1))).wellFormed
        = false := by decide +kernel

/-! ## Witnesses: a state and operands that meet each statement's hypotheses, clause by clause -/

theorem witness_StepRunsTheFrontCommand :
    ((State.reset.pending = []) ∧ ({ State.reset with pending := [.tick] } : State).pending = .tick :: []) := by
  decide

theorem witness_RequestsWaitAndAreTaken :
    requestOf (.release 7 [5]) = some ⟨0x02, 7, [5]⟩
    ∧ (loaded.withTables { loaded.tables with commit := .checking 0 1 }).tables.commit.isChecking = true
    ∧ (loaded.withFleet { loaded.fleet with restartWaiting := true }).fleet.restartWaiting = true
    ∧ Config.responseLimit ≤ (loaded.withFleet
        { loaded.fleet with tx := List.replicate 4 (.response ⟨0x80, 0, []⟩) }).fleet.responses
    ∧ (asks 0x02 8 [5] loaded).fleet.rx = ⟨0x02, 8, [5]⟩ :: []
    ∧ (⟨0x02, 8, [5]⟩ : RxFrame) ≠ ⟨0x02, 7, [5]⟩
    ∧ loaded.fleet.rx = [] ∧ loaded.portReady = true := by decide +kernel

theorem witness_LengthAndKindAreChecked :
    (asks 0x02 7 [5, 6] loaded).takesNext 0x02 7 [5, 6] []
    ∧ (0x02 : Byte) ∈ requestKinds ∧ lengthAllowed 0x02 none 2 = false
    ∧ (asks 0x55 7 [] loaded).takesNext 0x55 7 [] [] ∧ (0x55 : Byte) ∉ requestKinds
    ∧ (∀ f ∈ ([(0x01, [64, 0, 0, 0, 0]), (0x02, [64]), (0x03, [64, 0, 0, 0]), (0x04, [64]), (0x29, [64]),
        (0x08, [8, 0, 0]), (0x0C, [8]), (0x2A, [8]), (0x2B, [4]), (0x18, [6, 0, 0])] : List (Byte × List Byte)),
      (asks f.1 7 f.2 loaded).takesNext f.1 7 f.2 []
      ∧ lengthAllowed f.1 (asks f.1 7 f.2 loaded).tables.window f.2.length = true)
    ∧ 63 < (64 : Byte).toNat ∧ 7 < (8 : Byte).toNat ∧ 3 < (4 : Byte).toNat ∧ 5 < (6 : Byte).toNat := by
  unfold State.takesNext
  decide +kernel

theorem witness_RefusalChangesNoState :
    (asks 0x02 7 [0] loaded).takesNext 0x02 7 [0] []
    ∧ exec (.release 7 [0]) (asks 0x02 7 [0] loaded) = .next (after (.release 7 [0]) (asks 0x02 7 [0] loaded))
    ∧ (after (.release 7 [0]) (asks 0x02 7 [0] loaded)).fleet.tx
        = (asks 0x02 7 [0] loaded).fleet.tx ++ [.response ⟨kindResponse, 7, 0x02 :: 0x13 :: []⟩] :=
  ⟨asks_takesNext _ _ _ _ rfl rfl (by decide), rfl, by decide +kernel⟩

theorem witness_TakenRequestReceivesOneResponse :
    requestOf (.release 7 [5]) = some ⟨0x02, 7, [5]⟩
    ∧ (asks 0x02 7 [5] loaded).takesNext 0x02 7 [5] [] := by
  unfold State.takesNext
  decide +kernel

theorem witness_DispatchFormsItsRecord :
    (∀ x ∈ [SessionState.probing, .waiting, .charging, .complete, .disabled, .empty, .releasing, .silent,
        .faulted],
      (asks 0x01 7 [5, 0, 1, 0, 60] (inState 5 x)).takesNext 0x01 7 [byte1 (5 : PadId).val, 0, 1, 0, 60] []
      ∧ (asks 0x01 7 [5, 0, 1, 0, 60] (inState 5 x)).pads[(5 : PadId)].state = x)
    ∧ be16 0 1 = 1 := by
  unfold State.takesNext
  decide +kernel

theorem witness_DispatchOfNothingCompletes :
    ∀ x ∈ [SessionState.waiting, .charging, .complete],
      (asks 0x01 7 [5, 0, 0, 0, 60] (inState 5 x)).takesNext 0x01 7 [byte1 (5 : PadId).val, 0, 0, 0, 60] []
      ∧ (asks 0x01 7 [5, 0, 0, 0, 60] (inState 5 x)).pads[(5 : PadId)].state = x := by
  unfold State.takesNext
  decide +kernel

theorem witness_ReleaseActsByState :
    (asks 0x02 7 [] loaded).takesNext 0x02 7 [] []
    ∧ (asks 0x02 7 [64] loaded).takesNext 0x02 7 [64] [] ∧ 63 < (64 : Byte).toNat
    ∧ (∀ x ∈ [SessionState.probing, .waiting, .charging, .complete, .disabled, .empty, .releasing, .silent,
        .faulted],
      (asks 0x02 7 [5] (inState 5 x)).takesNext 0x02 7 [byte1 (5 : PadId).val] []
      ∧ (asks 0x02 7 [5] (inState 5 x)).pads[(5 : PadId)].state = x)
    ∧ (normalTurn (inState 5 .releasing) 2 (inState 5 .releasing).lines[(2 : LineId)]).map Turn.drop
        = some 4 := by
  unfold State.takesNext
  decide +kernel

theorem witness_PadLimitSetsAndClears :
    (∀ b ∈ [[5, 0, 0, 0], [5, 1, 0, 201], [5, 1, 0, 200], [5, 2, 0, 0], [5, 1, 1, 145]],
      (asks 0x03 7 b loaded).takesNext 0x03 7 b [])
    ∧ be16 0 201 ≤ 400 ∧ (loaded.padRec 5).enabled = true ∧ (loaded.padRec 5).ceiling = 200
    ∧ be16 0 200 ≤ (loaded.padRec 5).ceiling ∧ 400 < be16 1 145 := by
  unfold State.takesNext
  decide +kernel

theorem witness_ClearPadLeavesFaulted :
    (asks 0x04 7 [5] (inState 5 .faulted)).takesNext 0x04 7 [byte1 (5 : PadId).val] []
    ∧ (inState 5 .faulted).pads[(5 : PadId)].report = some (reportWith 300)
    ∧ (reportWith 300).present = true
    ∧ (reportWith 300).docking = (inState 5 .faulted).pads[(5 : PadId)].docking
    ∧ (reportWith 300).docking ≠ ((inState 5 .faulted).updPad 5 fun q => { q with docking := 1 }).pads[(5 : PadId)].docking
    ∧ ((inState 5 .faulted).updPad 5 fun q => { q with report := none }).pads[(5 : PadId)].report = none
    ∧ (inState 5 .empty).pads[(5 : PadId)].state ≠ .faulted := by
  unfold State.takesNext
  decide +kernel

theorem witness_EffectiveCapacityTable :
    (feederView (recordOf 16 caseFeeder)).enabled = true
    ∧ (feederView (recordOf 16 [])).enabled = false
    ∧ (feederView (recordOf 16 caseFeeder)).fallback ≤ (feederView (recordOf 16 caseFeeder)).rated
    ∧ ({ Group.initial with vstate := .shed } : Group).shedActive = true
    ∧ Group.initial.shedActive = false := by decide +kernel

theorem witness_HeadroomRaisesCapacity :
    (asks 0x08 7 [2, 2, 88] loaded).takesNext 0x08 7 [byte1 (2 : GroupId).val, 2, 88] []
    ∧ loaded.tables.allLoaded = true ∧ (loaded.feederRec 2).enabled = true
    ∧ loaded.groups[(2 : GroupId)].capacity ≤ 600
    ∧ (asks 0x08 7 [8, 0, 0] loaded).takesNext 0x08 7 [8, 0, 0] [] ∧ 7 < (8 : Byte).toNat
    ∧ State.reset.tables.allLoaded = false ∧ (loaded.feederRec 7).enabled = false := by
  unfold State.takesNext
  decide +kernel

theorem witness_HeadroomFallMakesTheCheck :
    (asks 0x08 7 [2, 1, 124] (withCapacity 600 caseShed)).takesNext 0x08 7 [byte1 (2 : GroupId).val, 1, 124] []
    ∧ (withCapacity 600 caseShed).tables.allLoaded = true
    ∧ ((withCapacity 600 caseShed).feederRec 2).enabled = true
    ∧ min (be16 1 124) ((withCapacity 600 caseShed).feederRec 2).rated
        < (withCapacity 600 caseShed).groups[(2 : GroupId)].capacity
    ∧ (withCapacity 600 caseShed).groups[(2 : GroupId)].shedActive = false
    ∧ (after (.headroom 7 [2, 1, 124])
        (((asks 0x08 7 [2, 1, 124] (withCapacity 600 caseShed))).withAlloc
          { caseShed.alloc with sweep := some (takeSnapshot caseShed) })).needsShed = true := by
  unfold State.takesNext
  decide +kernel

/-- The shed case's check finds group 2 over its new figure and starts a pass over a kept list that holds every
grant; with no grant there is nothing to shed. -/
theorem witness_HeadroomFallMakesTheCheck_pass :
    ((withCapacity 600 caseShed).withGroups ((withCapacity 600 caseShed).groups.set (2 : GroupId)
      (after (.headroom 7 [2, 1, 124]) (asks 0x08 7 [2, 1, 124] (withCapacity 600 caseShed))).groups[(2 : GroupId)])).needsShed
      = true
    ∧ (withCapacity 600 caseShed).alloc.sweep = none ∧ (withCapacity 600 caseShed).alloc.fastShed ≠ .running
    ∧ (∀ p : PadId, 0 < (withCapacity 600 caseShed).pads[p].grant → p ∈ (withCapacity 600 caseShed).alloc.kept)
    ∧ ((withCapacity 600 loaded).withGroups ((withCapacity 600 loaded).groups.set (2 : GroupId)
      (after (.headroom 7 [2, 1, 124]) (asks 0x08 7 [2, 1, 124] (withCapacity 600 loaded))).groups[(2 : GroupId)])).needsShed
      = false
    ∧ ((withCapacity 600 loaded).setFastShed .pending).alloc.fastShed = .pending
    ∧ (passing 600 false).alloc.fastShed = .running := by decide +kernel

theorem witness_OldHeadroomTurnsStale :
    ((withCapacity 500 loaded).updGroup 2 fun x => { x with age := 301 }).groups[(2 : GroupId)].hstate = .fresh
    ∧ 10 * loaded.site.holdTime < 301 := by decide +kernel

theorem witness_VoltageStateMoves :
    (feederView (recordOf 16 caseFeeder)).monitor = .notifyAndShed
    ∧ (feederView (recordOf 16 [1, 49])).monitor = .notify
    ∧ (feederView (recordOf 16 [1, 50])).monitor = .shedOnly
    ∧ (feederView (recordOf 16 [1, 48])).monitor = .off := by decide +kernel

theorem witness_OpenWindowReplacesTheWindow :
    (∀ b ∈ [[2, 0, 63, 0], [4, 0, 0, 0], [2, 0, 0, 2], [2, 1, 0, 0], [0, 0, 1, 0]],
      (asks 0x10 7 b loaded).takesNext 0x10 7 b [])
    ∧ (63 : Byte).toNat < TableId.pad.records ∧ 3 < (4 : Byte).toNat ∧ 1 < (2 : Byte).toNat
    ∧ (0 : Byte).toNat < (1 : Byte).toNat ∧ TableId.site.records ≤ (1 : Byte).toNat := by
  unfold State.takesNext
  decide +kernel

/-- A window on the last two line records. -/
def lineWindow (cursor : Nat) : Window :=
  { table := .line, first := 14, last := 15, cursor := cursor, bank := .shadow }

/-- The loaded part with that window open. -/
def windowed (cursor : Nat) : State := loaded.withTables { loaded.tables with window := some (lineWindow cursor) }

theorem witness_WriteStoresAtTheCursor :
    (∀ c ∈ [14, 15], (asks 0x11 7 [1, 2, 3, 4] (windowed c)).takesNext 0x11 7 [1, 2, 3, 4] []
      ∧ (windowed c).tables.window = some (lineWindow c) ∧ (windowed c).tables.commit ≠ .pending)
    ∧ [1, 2, 3, 4].length = (lineWindow 15).table.size ∧ (15 : Nat) < TableId.line.records
    ∧ (asks 0x11 7 (List.replicate 16 [1, 2, 3, 4]).flatten (windowed 15)).takesNext 0x11 7
        (List.replicate 16 [1, 2, 3, 4]).flatten []
    ∧ (∀ r ∈ List.replicate 16 ([1, 2, 3, 4] : List Byte), r.length = (lineWindow 15).table.size)
    ∧ (asks 0x11 7 [] loaded).takesNext 0x11 7 [] [] ∧ loaded.tables.window = none
    ∧ ((windowed 15).withTables { (windowed 15).tables with commit := .pending }).tables.window
        = some (lineWindow 15) :=
  ⟨fun _ _ => ⟨asks_takesNext _ _ _ _ rfl rfl four_free, rfl, by
      simp [windowed, loaded, State.reset, State.afterPowerOn, State.withTables]⟩,
    rfl, by unfold State.takesNext; decide +kernel⟩

theorem witness_ReadReturnsTheRecordAtTheCursor :
    (∀ k ∈ [0, 1, 16, 17], (asks 0x12 7 [k] (windowed 15)).takesNext 0x12 7 [k] [])
    ∧ loaded.tables.window = none ∧ (windowed 15).tables.window = some (lineWindow 15)
    ∧ TableId.line.readLimit < (17 : Byte).toNat ∧ (16 : Byte).toNat ≤ TableId.line.readLimit
    ∧ ∃ cur : Nat → Nat, cur 0 = (lineWindow 15).cursor
        ∧ ∀ i : Nat, cur (i + 1) =
            if cur i = (lineWindow 15).last then (lineWindow 15).first else cur i + 1 :=
  ⟨fun _ _ => asks_takesNext _ _ _ _ rfl rfl (by decide), rfl, rfl, by decide, by decide,
    fun i => Nat.rec 15 (fun _ c => if c = 15 then 14 else c + 1) i, rfl, fun _ => rfl⟩

/-- The loaded part with a commit in a state. -/
def committing (x : CommitState) : State := loaded.withTables { loaded.tables with commit := x }

theorem witness_CommitBeginsAndDiscardRestores :
    (asks 0x13 7 [1, 2] (committing .pending)).takesNext 0x13 7 [1, 2] []
    ∧ (asks 0x13 7 [1, 2] (committing .idle)).takesNext 0x13 7 [1, 2] []
    ∧ (asks 0x14 7 [] (committing .pending)).takesNext 0x14 7 [] []
    ∧ (asks 0x14 7 [] (committing .idle)).takesNext 0x14 7 [] [] := by
  unfold State.takesNext
  decide +kernel

/-- The worked case's bank passes validation, and the all-zero bank does not. -/
theorem witness_CommitCheckEnds :
    (committing (.checking (crc caseBank.bytes) 7)).tables.commit
        = .checking (crc (committing (.checking (crc caseBank.bytes) 7)).tables.shadow.bytes) 7
    ∧ crc caseBank.bytes ≠ crc caseBank.bytes + 1
    ∧ validate caseBank = none ∧ (validate Bank.zero).isSome = true
    ∧ loaded.alloc.sweep = none ∧ loaded.alloc.fastShed ≠ .running
    ∧ (passing 600 false).alloc.fastShed = .running :=
  ⟨rfl, by simp, by decide +kernel⟩

/-- A shadow bank under which pad 12 is disabled, pad 9 moved, pad 20 kept and pad 33 newly enabled. -/
def movedBank : Bank :=
  ((caseBank.store .pad 12 (List.replicate 12 0)).store .pad 9 (casePad 0 1 10 200)).store .pad 33
    (casePad 0 1 11 200)

/-- The loaded, halted part with that shadow bank under its check. -/
def moving : State :=
  loaded.withTables
    { loaded.tables with shadow := movedBank, commit := .checking (crc movedBank.bytes) 7 }

/-- The part of the second worked case in RUNNING at the end of the check of the shadow bank `b`, with
pad 12 holding an unconfirmed decrease, pad 20 a held increase, both a sample, and IN0 taken HIGH. -/
def checked (b : Bank) : State :=
  ((((withCapacity 500 (inMode .running loaded)).updPad 12 fun _ =>
      { padWith .charging 10 400 40 40 with decPending := true, prior := 80, sample := some 398 }).updPad 20
      fun _ => { padWith .charging 30 400 100 150 with sample := some 370 }).withSignals
      { loaded.signals with taken := loaded.signals.taken.set 0 true }).withTables
    { loaded.tables with shadow := b, commit := .checking (crc b.bytes) 7 }

/-- What the end of the check leaves of a state whose shadow bank passes. -/
def passed (s : State) : State := driveOutputs (activate false (respond kindCommit 7 .ok [] (s.setCommit .pending)))

theorem after_check (s : State) (hc : s.tables.commit = .checking (crc s.tables.shadow.bytes) 7)
    (hv : validate s.tables.shadow = none) (hs : s.alloc.sweep = none) (hf : s.alloc.fastShed ≠ .running) :
    after .commitCheckEnd s = passed s :=
  congrArg driveOutputs (endCheck_passes s 7 hc hv hs hf)

/-- R15, R19, R79: pad 12 is newly disabled and held the last decrease, so the increase of pad 20 is released;
the same bank activated clears nothing and releases nothing. -/
theorem test_activation_release :
    (passed (checked (caseBank.store .pad 12 (List.replicate 12 0)))).pads[20].sent = 150
    ∧ (passed (checked (caseBank.store .pad 12 (List.replicate 12 0)))).lines[2].final = [12]
    ∧ (passed ((checked caseBank).updPad 12 fun q => { q with decPending := false })).pads[20].sent
      = 100 := by decide +kernel

/-- Feeder group 2 with another tolerance. -/
def otherFeeder : Bank := caseBank.store .feeder 2 (caseFeeder.set 2 9)

/-- IN0 a LEVEL_HIGH input of another function. -/
def otherInput (f : Byte) : Bank := caseBank.store .line 0 [f, 2, 3, 0]

/-- A headroom hold time of 20 s. -/
def otherSite : Bank := caseBank.store .site 0 (caseSite.set 16 20)

theorem witness_ActivationTreatsPadsByClass_eachTable :
    (∀ b : Bank, (checked b).tables.commit = .checking (crc (checked b).tables.shadow.bytes) 7)
    ∧ (∀ b ∈ [movedBank, otherFeeder, otherInput 2, otherInput 3, otherSite, caseBank], validate b = none)
    ∧ (checked movedBank).alloc.sweep = none ∧ (checked movedBank).alloc.fastShed ≠ .running
    ∧ (checked movedBank).leavesAddress 12 = true
    ∧ (checked movedBank).leavesAddress 9 = true
    ∧ ((checked movedBank).padRec 9).line = 2
    ∧ (checked movedBank).staysAtAddress 20 = true
    ∧ ((checked movedBank).padRec 33).enabled = false
    ∧ (movedBank.padRec 33).enabled = true
    ∧ (checked otherFeeder).recordStays .feeder 2 = false
    ∧ (checked movedBank).recordStays .feeder 2 = true
    ∧ (checked (otherInput 3)).recordStays .line 0 = false
    ∧ ((otherInput 3).inputRec 0).function = .notify ∧ ((otherInput 2).inputRec 0).function = .stop
    ∧ ((otherInput 3).inputRec 0).sense.activeLevel
        = some (checked (otherInput 3)).signals.taken[(0 : InputId)]
    ∧ (siteView otherSite.site).holdTime = 20 ∧ loaded.site.holdTime = 30
    ∧ (checked otherSite).groups[(2 : GroupId)].hstate = .fresh
    ∧ (passed (checked movedBank)).minVoltage 2 = some 370
    ∧ (passed ((checked movedBank).updPad 20 fun q =>
        { q with sample := none })).minVoltage 2 = none
    ∧ (passed (checked movedBank)).alloc.fastShed = .none
    ∧ (passed (checked movedBank)).mode.engine = .running
    ∧ (passed (checked caseBank)).alloc.fastShed = .none
    ∧ (passed (checked caseBank)).mode.engine = .running
    ∧ (passed (checked (otherInput 2))).mode.engine = .halted :=
  ⟨fun _ => rfl, by decide +kernel⟩

/-- Pad 12's sample leaves group 2. -/
theorem witness_ActivationTreatsPadsByClass_sample : (checked movedBank).sampleLeaves 2 :=
  ⟨12, by decide +kernel⟩

theorem witness_ActivationTreatsPadsByClass :
    moving.tables.commit = .checking (crc moving.tables.shadow.bytes) 7
    ∧ validate moving.tables.shadow = none
    ∧ classOf caseBank movedBank 12 = .disabled ∧ classOf caseBank movedBank 9 = .moved
    ∧ classOf caseBank movedBank 33 = .enabled ∧ classOf caseBank movedBank 20 = .kept
    ∧ classOf caseBank movedBank 0 = .absent
    ∧ moving.mode.engine = .halted ∧ moving.alloc.sweep = none ∧ moving.alloc.fastShed = .none
    ∧ ∀ q : PadId, moving.pads[q].grant = 0 ∧ moving.pads[q].sent = 0 := by
  refine ⟨rfl, ?_⟩
  decide +kernel

/-- The case's part in RUNNING with its timer expired, and with a pass RUNNING as well. -/
def expired (x : FastShed) : State :=
  ((inMode .running caseStart).withTime { running := 9000, timer := some 0 }).withAlloc
    { caseStart.alloc with fastShed := x }

theorem witness_ExpiryStartsTheSweep :
    (expired .none).mode.engine = .running ∧ (expired .none).time.timer = some 0
    ∧ (expired .none).alloc.sweep = none ∧ (expired .none).alloc.fastShed ≠ .running
    ∧ (expired .running).alloc.fastShed = .running
    ∧ timeLeft 7200 (expired .none).time.running = 0 ∧ 0 < (expired .none).pads[(9 : PadId)].remaining := by
  decide +kernel

/-- The worked case at its issue. -/
def atIssue : State :=
  (inMode .running (withCapacity 600 caseStart)).withAlloc
    { caseStart.alloc with sweep := some (takeSnapshot (withCapacity 600 caseStart)) }

theorem witness_IssueStageIssuesTheGrants :
    atIssue.alloc.sweep = some (takeSnapshot (withCapacity 600 caseStart)) ∧ atIssue.mode.engine = .running
    ∧ atIssue.tables.commit ≠ .pending ∧ atIssue.mode.held = none ∧ atIssue.alloc.fastShed ≠ .running
    ∧ (after .issueStage atIssue).alloc.fastShed = .none
    ∧ atIssue.pads[(12 : PadId)].stayed = true ∧ atIssue.pads[(0 : PadId)].stayed = false
    ∧ (after .issueStage atIssue).pads[(12 : PadId)].sent = 150
    ∧ (atIssue.withTables { loaded.tables with commit := .pending }).tables.commit = .pending := by decide +kernel

/-- The worked case at its issue with a scope change held. -/
def atHeldIssue : State := atIssue.withMode { atIssue.mode with held := some (.range 0 10) }

theorem witness_IssueStageIssuesTheGrants_held :
    (∀ m : Nat, ((0 : PadId), m) ∉ sweepGrants (takeSnapshot (withCapacity 600 caseStart)) 0)
    ∧ ((12 : PadId), 150) ∈ sweepGrants (takeSnapshot (withCapacity 600 caseStart)) 0
    ∧ atHeldIssue.mode.held = some (.range 0 10) ∧ atHeldIssue.mode.engine = .running
    ∧ atHeldIssue.pads[(12 : PadId)].inScope = true ∧ 0 < atHeldIssue.pads[(12 : PadId)].sent
    ∧ (after .issueStage atHeldIssue).pads[(12 : PadId)].inScope = false
    ∧ (after .issueStage atHeldIssue).pads[(12 : PadId)].prior = 150
    ∧ (after .issueStage atHeldIssue).pads[(5 : PadId)].inScope = true
    ∧ (after .issueStage atHeldIssue).alloc.fastShed = .none
    ∧ (after .issueStage atIssue).anyPending = false := by
  rw [show sweepGrants (takeSnapshot (withCapacity 600 caseStart)) 0 = _ from test_fine_grants]
  exact ⟨by simp, by decide +kernel⟩

theorem witness_PassEndReleasesOrRepeats :
    (passing 380 false).needsShed = true ∧ (passing 600 false).needsShed = false
    ∧ (∀ p : PadId, 0 < (passing 380 false).pads[p].grant → p ∈ (passing 380 false).alloc.kept)
    ∧ (passing 600 true).needsShed = false ∧ (passing 600 true).alloc.sweepWaiting = true
    ∧ (passing 600 true).alloc.fastShed = .running ∧ (passing 600 true).tables.commit ≠ .pending
    ∧ ((passing 600 true).withTables { loaded.tables with commit := .pending }).tables.commit = .pending := by
  decide +kernel

theorem witness_EventWithoutOccasionChangesNothing :
    loaded.mode.engine ≠ .running ∧ loaded.alloc.sweep = none ∧ loaded.alloc.fastShed ≠ .running
    ∧ loaded.tables.commit.isChecking = false ∧ loaded.fleet.sending = none ∧ loaded.fleet.tx = []
    ∧ loaded.groups[(2 : GroupId)].hstate ≠ .fresh ∧ loaded.lines[(2 : LineId)].inFlight = none
    ∧ loaded.lines[(2 : LineId)].mayStart = false ∧ loaded.lines[(2 : LineId)].busy = false
    ∧ loaded.fleet.receiver = .hunt ∧ (polling .poll loaded).lines[(2 : LineId)].busy = false
    ∧ (polling .poll loaded).lines[(2 : LineId)].breaking = false
    ∧ loaded.signals.level[(0 : InputId)] = loaded.signals.taken[(0 : InputId)] := by decide +kernel

theorem witness_RemainingTimeOfADeadline :
    ((5 : Ticks) - 5).toNat < 2 ^ 31 ∧ 2 ^ 31 ≤ ((5 : Ticks) - 6).toNat
    ∧ (5 : Ticks) + BitVec.ofNat 32 (2 ^ 31) = 2147483653 := by decide

theorem witness_NeedAndUrgency :
    timeLeft 7200 0 = 7200 ∧ timeLeft 0 5 = 0
    ∧ (ordered 7200 6000 (padWith .waiting 25 180 0 0)).snap.deadline = some 7200
    ∧ 0 < (ordered 7200 6000 (padWith .waiting 25 180 0 0)).snap.remaining := by decide

theorem witness_GrantOrderListSorted :
    4 + 4 ≤ 64 ∧ 0 + 0 ≤ 64 ∧ 32 + 32 ≤ 64
    ∧ (orderList (takeSnapshot (withCapacity 600 caseStart)) 0).map Entry.pad = [12, 9, 5, 20] := by
  decide +kernel

theorem witness_NewGrantsFitTheCapacities :
    (∀ g : GroupId, (poolOf (takeSnapshot caseStart)).group[g] = (takeSnapshot caseStart).capacity[g]
      - padSum fun p => if ((takeSnapshot caseStart).bank.padRec p).group = g then
          (takeSnapshot caseStart).pads[p].reservation else 0)
    ∧ (poolOf (takeSnapshot caseStart)).site = (siteView (takeSnapshot caseStart).bank.site).limit
      - padSum (fun p => (takeSnapshot caseStart).pads[p].reservation)
    ∧ 0 < newGrant (sweepGrants (takeSnapshot (withCapacity 600 caseStart)) 0) 12
    ∧ (takeSnapshot (withCapacity 600 caseStart)).pads[(9 : PadId)].sent = 0
    ∧ (capsWith 10).tiers = [] := by decide +kernel

theorem witness_PassLeavesNothingOver :
    (∀ p : PadId, 0 < (withCapacity 380 caseShed).pads[p].grant →
      p ∈ (withCapacity 380 caseShed).alloc.kept)
    ∧ (withCapacity 380 caseShed).needsShed = true
    ∧ (withCapacity 380 caseShed).alloc.kept = [12, 9, 5] ++ [20]
    ∧ (withCapacity 380 caseShed).pads[(20 : PadId)].caps = some (capsWith 30)
    ∧ roundGrant .fine loaded.site.step (capsWith 30) (200 - 220) < (capsWith 30).effMin
    ∧ (capsWith 20).effMin ≤ roundGrant .fine loaded.site.step (capsWith 20) (200 - 20)
    ∧ loaded.alloc.kept = [] ∧ (capsWith 30).tiers = []
    ∧ (∀ j ∈ ({ capsWith 30 with tiers := [40, 80] } : Capability).tiers, 40 ≤ j) := by decide +kernel

theorem witness_HaltTakesAllPower :
    (asks 0x18 7 [0, 0, 0] caseShed).takesNext 0x18 7 [0, 0, 0] [] ∧ caseShed.mode.engine ≠ .halted
    ∧ (asks 0x18 7 [0, 0, 0] loaded).takesNext 0x18 7 [0, 0, 0] [] ∧ loaded.mode.engine = .halted
    ∧ caseShed.tables.commit ≠ .pending
    ∧ (asks 0x18 7 [0, 0, 0] atHeldIssue).takesNext 0x18 7 [0, 0, 0] [] ∧ atHeldIssue.alloc.sweep.isSome = true
    ∧ (asks 0x18 7 [0, 0, 0] (passing 600 false)).takesNext 0x18 7 [0, 0, 0] []
    ∧ ((passing 600 false).withTables { loaded.tables with commit := .pending }).tables.commit = .pending := by
  unfold State.takesNext
  decide +kernel

theorem witness_ResumeBeginsDiscovery :
    (∀ s ∈ [State.reset, loaded, caseShed], s.fleet = State.reset.fleet ∧ s.tables.commit = .idle)
    ∧ State.reset.tables.allLoaded = false
    ∧ loaded.tables.allLoaded = true ∧ loaded.mode.stopLatch = false ∧ loaded.stopLevel = false
    ∧ (loaded.withMode { loaded.mode with stopLatch := true }).mode.stopLatch = true
    ∧ (edgeAt 2 4).stopLevel = true ∧ (edgeAt 2 3).stopLevel = false ∧ (edgeAt 2 0).stopLevel = false
    ∧ ((edgeAt 2 3).withSignals { loaded.signals with taken := loaded.signals.taken.set 0 true }).stopLevel = true
    ∧ loaded.mode.engine = .halted ∧ loaded.members 2 ≠ [] ∧ caseShed.mode.engine ≠ .halted
    ∧ (∀ l : LineId, (State.reset.withTables
        { loaded.tables with active := Bank.zero }).members l = []) := by decide +kernel

theorem witness_ResolutionIsStored :
    (asks 0x18 7 [2, 0, 0] loaded).takesNext 0x18 7 [2, 0, 0] []
    ∧ (asks 0x18 7 [3, 0, 0] loaded).takesNext 0x18 7 [3, 0, 0] [] := by
  unfold State.takesNext
  decide +kernel

theorem witness_ScopeIsHeldOrApplied :
    (∀ b ∈ [[4, 0, 0], [5, 0, 63], [5, 63, 63], [5, 64, 64], [5, 1, 0]],
      (asks 0x18 7 b caseShed).takesNext 0x18 7 b []) ∧ (0 : PadId) ≤ 63 ∧ (63 : PadId) ≤ 63
    ∧ atIssue.alloc.sweep.isSome = true ∧ caseShed.alloc.sweep = none ∧ caseShed.mode.scope = .full
    ∧ caseShed.mode.scope ≠ .range 0 63
    ∧ caseShed.pads[(12 : PadId)].inScope = true ∧ (Scope.range 13 63).holds 12 = false := by
  unfold State.takesNext
  decide +kernel

/-- R177: a scope of pads 13 to 63 takes the grant of pad 12 and leaves that of pad 20. -/
theorem witness_ScopeIsHeldOrApplied_marks :
    let s := asks 0x18 7 [5, 13, 63] (withCapacity 600 caseShed)
    let t := after (.setModePartial 7 [5, 13, 63]) s
    t.pads[(12 : PadId)].inScope = false ∧ 0 < s.pads[(12 : PadId)].grant ∧ 0 < s.pads[(12 : PadId)].sent
    ∧ t.pads[(12 : PadId)].prior = 80 ∧ t.pads[(13 : PadId)].inScope = true
    ∧ t.pads[(20 : PadId)].grant = 200 ∧ s.alloc.fastShed ≠ .pending
    ∧ t.alloc.fastShed = s.alloc.fastShed := by decide +kernel

theorem witness_RestartTakesEffectAtItsResponsesEnd :
    (asks 0x19 7 [] caseShed).takesNext 0x19 7 [] []
    ∧ (caseShed.withFleet { caseShed.fleet with sending := some ⟨kindResponse, 7, [0x19, 0x00]⟩ }).fleet.sending
        = some ⟨kindResponse, 7, [0x19, 0x00]⟩
    ∧ (⟨kindNotice, 0, [0, 1]⟩ : TxFrame).isRestart = false
    ∧ loaded.lines[(2 : LineId)].breaking = true
    ∧ (idleLine [7] [5] true loaded).lines[(2 : LineId)].breaking = false
    ∧ (idleLine [7] [5] true loaded).lines[(2 : LineId)].inFlight = none
    ∧ (idleLine [7] [5] true loaded).lines[(2 : LineId)].busy = false
    ∧ (∀ i : InputId, ((loaded.inputRec i).sense = .levelHigh → loaded.signals.taken[i] = false)
        ∧ ((loaded.inputRec i).sense = .levelLow → loaded.signals.taken[i] = true))
    ∧ ((edgeAt 3 4).inputRec 0).function ≠ .none ∧ ((edgeAt 3 4).inputRec 0).sense = .levelLow
    ∧ (edgeAt 3 4).signals.taken[(0 : InputId)] = false
    ∧ ((edgeAt 3 3).inputRec 0).sense = .levelHigh
    ∧ ({ loaded.signals with taken := loaded.signals.taken.set 0 true } : Signals).taken[(0 : InputId)] = true := by
  unfold State.takesNext
  decide +kernel

/-- R190, R198: the pending set is emptied and takes the INPUT_EVENT of the level-sensed input. -/
theorem test_restart_level :
    (after .frameTransmitEnd ((raise .padFault (edgeAt 3 4)).withFleet
      { loaded.fleet with tx := [.notice], sending := some ⟨kindResponse, 7, [0x19, 0x00]⟩ })).notices.pendingSet
      = 0x100#11
    ∧ (after .frameTransmitEnd ((raise .padFault loaded).withFleet
      { loaded.fleet with tx := [.notice], sending := some ⟨kindResponse, 7, [0x19, 0x00]⟩ })).fleet.tx
      = [] := by decide +kernel

theorem witness_FleetFramesComeAndGo :
    loaded.fleet.receiver = .hunt
    ∧ (∀ b ∈ [RxByte.mk 0b0101001010#10, cleanByte 0], b.data ≠ 0xA5 ∨ b.framing = true)
    ∧ (cleanByte 0xA5).data = 0xA5 ∧ (cleanByte 0xA5).framing = false
    ∧ (clean [1, 2, 7]).length = 3 ∧ byteAt ((clean [1, 2, 7] ++ clean [5]).map RxByte.data) 0
        = byte1 (clean [5]).length
    ∧ (clean (crcBytes (crc [1, 2, 7, 5]))).map RxByte.data
        = crcBytes (crc ((clean [1, 2, 7] ++ clean [5]).map RxByte.data))
    ∧ (clean [1, 2]).map RxByte.data ≠ crcBytes (crc ((clean [1, 2, 7] ++ clean [5]).map RxByte.data))
    ∧ (loaded.setReceiver (.frame [])).fleet.receiver = .frame []
    ∧ ([5] : List Byte).length ≤ 240 ∧ loaded.fleet.rx.length < 4
    ∧ 4 ≤ (loaded.withFleet { loaded.fleet with rx := List.replicate 4 ⟨1, 2, []⟩ }).fleet.rx.length
    ∧ 240 < (241 : Byte).toNat
    ∧ loaded.fleet.sending = none
    ∧ (loaded.withFleet { loaded.fleet with sending := some ⟨0x80, 7, []⟩ }).fleet.sending = some ⟨0x80, 7, []⟩
    ∧ (loaded.withFleet { loaded.fleet with tx := [.response ⟨0x80, 7, []⟩] }).fleet.tx
        = .response ⟨0x80, 7, []⟩ :: []
    ∧ (raise .commitDone loaded).fleet.tx = .notice :: []
    ∧ (raise .commitDone loaded).notices.pendingSet &&& ~~~(raise .commitDone loaded).notices.mask ≠ 0
    ∧ (callNotice loaded).fleet.tx = .notice :: []
    ∧ (callNotice loaded).notices.pendingSet &&& ~~~(callNotice loaded).notices.mask = 0
    ∧ (raise .commitDone loaded).notices.pendingSet.getLsbD Notice.commitDone.number = true
    ∧ loaded.notices.pendingSet.getLsbD Notice.commitDone.number = false := by
  decide +kernel

/-- R185, R186: an unmasked kind calls for a NOTICE, once; a masked one for none. -/
theorem test_raise :
    (raise .inputEvent (raise .commitDone loaded)).fleet.tx = [.notice]
    ∧ (raise .commitDone (loaded.withNotices { loaded.notices with mask := 0x80 })).fleet.tx = []
    ∧ (raise .commitDone (loaded.withNotices { loaded.notices with mask := 0x80 })).notices.pendingSet = 0x80 := by
  decide +kernel

theorem witness_ReadsReturnTheirData :
    (asks 0x28 7 [] loaded).takesNext 0x28 7 [] []
    ∧ (asks 0x29 7 [63] loaded).takesNext 0x29 7 [byte1 (63 : PadId).val] []
    ∧ (asks 0x2A 7 [7] loaded).takesNext 0x2A 7 [byte1 (7 : GroupId).val] []
    ∧ (asks 0x2B 7 [3] loaded).takesNext 0x2B 7 [byte1 (3 : LineId).val] [] := by
  unfold State.takesNext
  decide +kernel

theorem witness_CapturesAndNoticeSets :
    (asks 0x20 7 [] loaded).takesNext 0x20 7 [] [] ∧ loaded.notices.captures = []
    ∧ (captureEvent 5 .charger 3 10 loaded).notices.captures
        = { seq := 0, pad := 5, source := .charger, code := 3, power := 10, time := 0 } :: []
    ∧ (asks 0x21 7 [7, 255] loaded).takesNext 0x21 7 [7, 255] [] ∧ be16 7 255 < 2048
    ∧ (asks 0x22 7 [8, 0] loaded).takesNext 0x22 7 [8, 0] [] ∧ 2048 ≤ be16 8 0 := by
  unfold State.takesNext
  decide +kernel

theorem witness_EdgesAreTakenAndCleared :
    (inMode .running (edgeAt 2 0)).mode.engine ≠ .halted
    ∧ (inMode .running (edgeAt 2 0)).signals = (edgeAt 2 0).signals
    ∧ ((edgeAt 2 0).withMode atHeldIssue.mode).mode.held = some (.range 0 10)
    ∧ ((edgeAt 2 0).withAlloc atHeldIssue.alloc).alloc.sweep.isSome = true
    ∧ (edgeAt 2 0).signals.level[(0 : InputId)] ≠ (edgeAt 2 0).signals.taken[(0 : InputId)]
    ∧ ((edgeAt 0 0).inputRec 0).function = .none
    ∧ ((edgeAt 2 0).inputRec 0).function = .stop ∧ ((edgeAt 2 0).inputRec 0).sense.isEdge = true
    ∧ ((edgeAt 2 0).inputRec 0).sense.matches true = true
    ∧ ((edgeAt 2 1).inputRec 0).sense.matches true = false
    ∧ (edgeAt 2 0).signals.latch[(0 : InputId)] = false
    ∧ ((edgeAt 1 3).inputRec 0).sense.activeLevel = some true
    ∧ ((edgeAt 1 4).inputRec 0).sense.activeLevel = some (!true)
    ∧ ((edgeAt 1 3).inputRec 0).function = .shed ∧ ((edgeAt 3 3).inputRec 0).function = .notify
    ∧ (edgeAt 2 0).tables.commit ≠ .pending
    ∧ ((edgeAt 2 0).withSignals
        { loaded.signals with latch := loaded.signals.latch.set 0 true }).signals.latch[(0 : InputId)] = true := by
  decide +kernel

theorem witness_TurnsArePickedAndBreaksEnd :
    (idleLine [7] [] false loaded).lines[(2 : LineId)].mayStart = true
    ∧ (idleLine [7] [5] true loaded).lines[(2 : LineId)].finalOffered = true ∧ loaded.members 2 ≠ []
    ∧ (idleLine [] [5] false loaded).lines[(2 : LineId)].urgent = 5 :: []
    ∧ loaded.lines[(2 : LineId)].position = none ∧ 4 ∈ loaded.members 2 ∧ (∀ m ∈ loaded.members 2, 4 ≤ m)
    ∧ 5 ∈ loaded.members 2 ∧ (∀ m ∈ loaded.members 2, 4 < m → 5 ≤ m) ∧ (∀ m ∈ loaded.members 2, m ≤ 12)
    ∧ (loaded.padRec 20).enabled = true ∧ (loaded.padRec 20).line = 2 ∧ (loaded.padRec 20).drop = 4
    ∧ (∀ q : PadId, q < 20 → (loaded.padRec q).enabled = true → (loaded.padRec q).line = 2 →
        (loaded.padRec q).drop ≠ 4)
    ∧ loaded.members 0 = []
    ∧ loaded.lines[(2 : LineId)].breaking = true ∧ loaded.lines[(2 : LineId)].breakPending = false
    ∧ (loaded.updLine 2 LineCtl.askBreak).lines[(2 : LineId)].breakPending = true
    ∧ (loaded.updLine 2 LineCtl.askBreak).lines[(2 : LineId)].inFlight = none
    ∧ (loaded.updLine 2 fun c => { c with breaking := false, busy := true, breakPending := true }).lines[(2 : LineId)]
        = { loaded.lines[(2 : LineId)] with breaking := false, busy := true, breakPending := true }
    ∧ loaded.lines[(2 : LineId)].inFlight = none := by decide +kernel

theorem witness_AllowedReplies :
    replyChars (goodReply 10 lineReport (reportBody (reportWith 0))) ≠ []
    ∧ replyCorrupt (goodReply 10 lineReport (reportBody (reportWith 0))) = false
    ∧ replyKind (goodReply 10 lineReport (reportBody (reportWith 0))) = lineReport
    ∧ (byteAt (replyData (goodReply 10 lineReport (reportBody (reportWith 0)))) 0).toNat % 128
        ≠ pollNine.drop
    ∧ allowed pollNine.request lineCaps = false := by decide +kernel

/-- A reply of the charger at drop 9. -/
def nineSays (kind : Byte) (body : List Byte) : List RxChar := goodReply 9 kind body

/-- One character of a reply taken otherwise than it was sent: in all three samples, or in one alone. -/
def spoilt (i : Nat) (x : LineChar) (all : Bool) (rx : List RxChar) : List RxChar :=
  rx.modify i fun c =>
    if all then { first := c.first ^^^ x, second := c.second ^^^ x, third := c.third ^^^ x }
    else { c with second := c.second ^^^ x }

/-- The causes of CORRUPT, each alone: a stop bit taken as space, a second address character, a data bit (so the
check), too few and too many body bytes, a kind that is none of the five, 300 characters. -/
def corruptReplies : List (List RxChar) :=
  [spoilt 5 0x400 true (nineSays lineReport (reportBody (reportWith 0))),
   spoilt 5 0x200 true (nineSays lineReport (reportBody (reportWith 0))),
   spoilt 5 0x004 true (nineSays lineReport (reportBody (reportWith 0))),
   nineSays lineReport [7], nineSays lineFault [3, 0, 10, 1, 0], nineSays 0x03 [],
   nineSays lineCaps (List.replicate 11 0 ++ [1]),
   nineSays lineFault [3, 0, 10, 1] ++ List.replicate 292 (cleanChar false 0)]

/-- R130 to R132: in none of them a character precedes the address character, and with one before it a reply that
is otherwise good is CORRUPT too. -/
theorem witness_AllowedReplies_corrupt :
    (∀ rx ∈ corruptReplies, (∃ a rest, rx = a :: rest ∧ a.ninth = true) ∧ CorruptReply [] (rx.take 300))
    ∧ (∀ rx ∈ corruptReplies, classify pollNine rx = .corrupt)
    ∧ (cleanChar false 9).ninth = false
    ∧ CorruptReply [cleanChar false 9] (nineSays lineFault [3, 0, 10, 1])
    ∧ ¬ CorruptReply [] (nineSays lineFault [3, 0, 10, 1]) := by
  refine ⟨?_, ?_, ?_⟩
  · intro rx h
    fin_cases h <;> exact ⟨⟨_, _, rfl, by decide +kernel⟩, by unfold CorruptReply; decide +kernel⟩
  · decide +kernel
  · unfold CorruptReply
    decide +kernel

/-- R132, R133: a kind not allowed, an address without the reply mark, and another drop's; a sample that disagrees;
and the two replies to a PROBE. -/
theorem witness_AllowedReplies_used :
    (∀ x ∈ [(nineSays lineCaps (List.replicate 12 0), LineOutcome.wrongReply),
        (goodReply (128 + 9) lineFault [3, 0, 10, 1], .wrongReply), (goodReply 10 lineFault [3, 0, 10, 1], .wrongReply),
        (spoilt 5 0x004 false (nineSays lineFault [3, 0, 10, 1]), .noisy), (nineSays lineFault [3, 0, 10, 1], .good)],
      ¬ CorruptReply [] (x.1.take 300) ∧ classify pollNine x.1 = x.2)
    ∧ ((goodReply (128 + 9) lineFault [3, 0, 10, 1]).map RxChar.data).take 1 = [0x09]
    ∧ classify { pollNine with request := .probe } (nineSays lineFault [3, 0, 10, 1]) = .wrongReply
    ∧ classify { pollNine with request := .probe } (nineSays lineCaps (List.replicate 12 0)) = .good
    ∧ classify pollNine [cleanChar false 137] = .noReply := by
  unfold CorruptReply
  decide +kernel

theorem witness_UndamagedReplyIsGood :
    pollNine.drop < 128 ∧ allowed .poll lineReport = true ∧ allowed .poll lineFault = true
    ∧ allowed .probe lineCaps = true ∧ (reportBody (reportWith 0)).length = 13
    ∧ (List.replicate 12 (0 : Byte)).length = 12 + 2 * (byteAt (List.replicate 12 0) 11).toNat
    ∧ 1 < (([0, 90, 0, 20, 3, 0, 0, 0, 7, 1, 0, 2, 0, 30, 0, 60] : List Byte).getD 11 0).toNat := by decide

/-- In every session state but DISABLED pad 5 is there for the transaction's end. -/
theorem polling_awaits (q : LineRequest) (x : SessionState) (hx : x ≠ .disabled) :
    (polling q (inState 5 x)).awaits 2 (toFive q) 5 :=
  ⟨rfl, rfl, rfl, show loaded.onLine 2 5 = true by decide +kernel,
    show (loaded.padRec 5).drop = 5 by decide +kernel, hx, Or.inl (by show EngineMode.halted ≠ .discovering; decide)⟩

/-- A transaction in flight for a WAITING pad 5, with a sample of each pad named. -/
def sampled (ps : List PadId) : State :=
  (polling .poll (inState 5 .waiting)).mapPads fun p q =>
    { q with sample := if p ∈ ps then some 398 else none }

theorem witness_FailedTransactionsAreCounted :
    (∀ x, x ≠ .disabled → (polling .poll (inState 5 x)).awaits 2 (toFive .poll) 5)
    ∧ classify (toFive .poll) (goodReply 6 lineReport (reportBody (reportWith 0))) = .wrongReply
    ∧ classify (toFive .poll) [cleanChar true 133] = .corrupt
    ∧ min 255 (2 + 1) = loaded.site.missLimit ∧ min 255 (1 + 1) < loaded.site.missLimit
    ∧ SessionState.maySilence .waiting = true
    ∧ (toFive .poll).request = .poll ∧ (toFive .probe).request = .probe
    ∧ (polling .probe (inState 5 .probing)).awaits 2 (toFive .probe) 5
    ∧ 0 + 1 < loaded.site.probeAttempts ∧ loaded.site.probeAttempts ≤ 1 + 1
    ∧ (loaded.padRec 5).assumeDefault = false
    ∧ (padView (recordOf 12 (casePad 2 1 5 200))).assumeDefault = true
    ∧ (replyChars (cleanChar true 133 :: List.replicate 299 (cleanChar false 0))).length = 300
    ∧ (sampled [5, 9]).inGroup 2 9 = true ∧ (sampled [5, 9]).pads[(5 : PadId)].sample.isSome = true
    ∧ (sampled [5, 9]).pads[(9 : PadId)].sample.isSome = true
    ∧ (∀ q : PadId, q ≠ 5 → (sampled [5]).pads[q].sample = none)
    ∧ ((polling .poll loaded).updLine 2 LineCtl.askBreak).lines[(2 : LineId)].breakPending = true
    ∧ ((polling .poll loaded).updLine 2 LineCtl.askBreak).lines[(2 : LineId)].breaking = false
    ∧ (polling .poll loaded).marksRemain 2 (toFive .poll) :=
  ⟨polling_awaits _, by unfold State.awaits State.marksRemain; decide +kernel⟩

/-- A reply of pad 5's charger reporting a vehicle with these figures. -/
def saying (r : Report) : List RxChar := goodReply 5 lineReport (reportBody r)

/-- Five ends of a transaction for pad 5: by the timeout, and by a reply of each outcome that a reply has. -/
theorem witness_FailedTransactionsAreCounted_ends :
    endsTransaction (.replyTimeout 2) 2 []
    ∧ endsTransaction (.report 2 (saying (reportWith 0))) 2 (saying (reportWith 0))
    ∧ endsTransaction (.caps 2 (spoilt 3 0x002 false (goodReply 5 lineCaps (List.replicate 12 0)))) 2
        (spoilt 3 0x002 false (goodReply 5 lineCaps (List.replicate 12 0)))
    ∧ endsTransaction (.faultReport 2 (goodReply 5 lineFault [3, 0, 10, 1])) 2 (goodReply 5 lineFault [3, 0, 10, 1])
    ∧ endsTransaction (.replyFailed 2 [cleanChar true 133]) 2 [cleanChar true 133]
    ∧ replyChars [cleanChar false 133] = [] := by
  unfold endsTransaction
  decide +kernel

/-- R20, R134, R141, R143: an abandoned transaction, one for no pad, a pad at another drop or line, and a DISABLED
one; a good reply then changes the line alone. -/
def discarding : List State :=
  [(polling .poll (inState 5 .waiting)).updLine 2 fun c => { c with abandon := true, breakPending := true },
   (polling .poll (inState 5 .waiting)).updLine 2 fun c => { c with inFlight := some { toFive .poll with pad := none } },
   (polling .poll (inState 5 .waiting)).updLine 2 fun c => { c with inFlight := some { toFive .poll with pad := some 9 } },
   (polling .poll (inState 5 .waiting)).updLine 2 fun c => { c with inFlight := some { toFive .poll with pad := some 7 } },
   polling .poll (inState 5 .disabled)]

theorem witness_FailedTransactionsAreCounted_discarded :
    (∀ s ∈ discarding, ∃ tx, s.lines[(2 : LineId)].inFlight = some tx ∧ s.discards 2 tx ∧ s.marksRemain 2 tx
      ∧ classify tx (saying (reportWith 0)) = .good)
    ∧ discarding.map (fun s => ((after (.report 2 (saying (reportWith 0))) s).lines[(2 : LineId)].good,
          (after (.report 2 (saying (reportWith 0))) s).lines[(2 : LineId)].breaking))
        = [(0, true), (1, false), (1, false), (1, false), (1, false)]
    ∧ ∀ s ∈ discarding, (after (.report 2 (saying (reportWith 0))) s).pads = s.pads := by
  refine ⟨?_, by decide +kernel, by decide +kernel⟩
  intro s h
  fin_cases h <;>
    exact ⟨_, rfl, by unfold State.discards; decide +kernel, by unfold State.marksRemain; decide +kernel,
      by decide +kernel⟩

theorem reports_reach (x : SessionState) (hx : x ≠ .disabled) {r : Report}
    (hr : (classify (toFive .poll) (saying r)).isGood = true ∧ replyKind (saying r) = lineReport) :
    (polling .poll (inState 5 x)).replyReaches 2 (toFive .poll) (saying r) 5 lineReport :=
  ⟨polling_awaits _ _ hx, hr⟩

theorem witness_ReportMovesTheSession :
    (∀ x, x ≠ .disabled →
      (polling .poll (inState 5 x)).replyReaches 2 (toFive .poll) (saying (reportWith 0)) 5 lineReport
      ∧ (polling .poll (inState 5 x)).replyReaches 2 (toFive .poll)
          (saying { reportWith 0 with present := false }) 5 lineReport
      ∧ (polling .poll (inState 5 x)).replyReaches 2 (toFive .poll)
          (saying { reportWith 0 with docking := 9 }) 5 lineReport
      ∧ (polling .poll (inState 5 x)).pads[(5 : PadId)].state = x
      ∧ (polling .poll (inState 5 x)).pads[(5 : PadId)].docking = 0
      ∧ (polling .poll (inState 5 x)).pads[(5 : PadId)].caps.isSome = true
      ∧ (polling .poll (inState 5 x)).pads[(5 : PadId)].dispatch = none)
    ∧ (reportOf (replyBody (saying (reportWith 0)))).present = true
    ∧ (reportOf (replyBody (saying (reportWith 0)))).docking = 0
    ∧ (reportOf (replyBody (saying { reportWith 0 with present := false }))).present = false
    ∧ (reportOf (replyBody (saying { reportWith 0 with docking := 9 }))).docking = 9
    ∧ (polling .probe (inState 5 .probing)).replyReaches 2 (toFive .probe) (saying (reportWith 0)) 5 lineReport
    ∧ (polling .probe (inState 5 .probing)).pads[(5 : PadId)].attempts + 1 < loaded.site.probeAttempts
    ∧ loaded.site.probeAttempts ≤ 1 + 1
    ∧ (polling .probe (inState 5 .probing)).inGroup 2 5 = true :=
  ⟨fun x hx => ⟨reports_reach x hx (by decide +kernel), reports_reach x hx (by decide +kernel),
      reports_reach x hx (by decide +kernel), by cases x <;> decide +kernel⟩,
    by unfold State.replyReaches State.awaits State.marksRemain; decide +kernel⟩

/-- Pad 5 SILENT with a dispatch of 60 tenths of a kWh, of which `e` remain, and an overdraw count. -/
def silentFive (e od : Nat) : State :=
  polling .poll ((inState 5 .silent).updPad 5 fun q =>
    { ordered 7200 60 q with remaining := e, overdraw := od })

theorem witness_ReportMovesTheSession_silent :
    (∀ x ∈ [(60, 0), (0, 0), (60, 2)], ∀ r ∈ [reportWith 0, { reportWith 0 with energy := 60 },
        { reportWith 0 with metered := 11 }],
      (silentFive x.1 x.2).awaits 2 (toFive .poll) 5 ∧ (silentFive x.1 x.2).pads[(5 : PadId)].state = .silent
      ∧ (silentFive x.1 x.2).pads[(5 : PadId)].caps.isSome = true
      ∧ (silentFive x.1 x.2).pads[(5 : PadId)].remaining = x.1
      ∧ (classify (toFive .poll) (saying r)).isGood = true ∧ replyKind (saying r) = lineReport
      ∧ reportOf (replyBody (saying r)) = r)
    ∧ (after (.report 2 (saying (reportWith 0))) (silentFive 60 0)).pads[(5 : PadId)].state = .waiting
    ∧ (after (.report 2 (saying { reportWith 0 with metered := 11 })) (silentFive 60 2)).pads[(5 : PadId)].state
        = .faulted := by
  unfold State.awaits State.marksRemain
  decide +kernel

/-- Pad 5 in a session state with a dispatch of 60 tenths of a kWh and an unconfirmed decrease. -/
def settling (x : SessionState) : State :=
  polling .poll ((inState 5 x).updPad 5 fun q => { ordered 7200 60 q with decPending := true, prior := 90 })

/-- R42, R53, R78, R114, R116: the energy of a COMPLETE, a FAULTED, a PROBING and a RELEASING pad follows the report,
the confirmation comes, and no draw is counted in the first three. -/
theorem witness_ReportSettlesTheFigures_others :
    (∀ x ∈ [SessionState.complete, .faulted, .probing, .releasing], ∀ r ∈ [{ reportWith 0 with energy := 25 },
        { reportWith 0 with metered := 101 }, { reportWith 0 with present := false },
        { reportWith 0 with docking := 9 }],
      (settling x).awaits 2 (toFive .poll) 5 ∧ (settling x).pads[(5 : PadId)].state = x
      ∧ (settling x).pads[(5 : PadId)].grant = 0 ∧ (settling x).pads[(5 : PadId)].docking = 0
      ∧ (settling x).pads[(5 : PadId)].dispatch.isSome = true
      ∧ (classify (toFive .poll) (saying r)).isGood = true ∧ replyKind (saying r) = lineReport
      ∧ reportOf (replyBody (saying r)) = r)
    ∧ (∀ x ∈ [SessionState.complete, .faulted, .probing],
      let q := (after (.report 2 (saying { reportWith 0 with energy := 25, metered := 101 })) (settling x)).pads[(5 : PadId)]
      q.state = x ∧ q.delivered = 25 ∧ q.remaining = 35 ∧ q.decPending = false ∧ q.overdraw = 0) := by
  unfold State.awaits State.marksRemain
  decide +kernel

theorem witness_ReportSettlesTheFigures_releasing :
    (∀ m ∈ [10, 11],
      (polling .poll (inState 5 .releasing)).replyReaches 2 (toFive .poll)
          (saying { reportWith 0 with metered := m }) 5 lineReport
      ∧ reportOf (replyBody (saying { reportWith 0 with metered := m })) = { reportWith 0 with metered := m })
    ∧ (polling .poll (inState 5 .releasing)).pads[(5 : PadId)].state = .releasing
    ∧ (loaded.feederRec (loaded.padRec 5).group).overdrawLimit ≤ 2 + 1
    ∧ (after (.report 2 (saying { reportWith 0 with metered := 11 })) ((polling .poll (inState 5 .releasing)).updPad 5
        fun q => { q with overdraw := 2 })).pads[(5 : PadId)].state = .faulted := by
  unfold State.replyReaches State.awaits State.marksRemain
  decide +kernel

theorem witness_ReportSettlesTheFigures :
    (∀ x ∈ [SessionState.waiting, .charging],
      (polling .poll (inState 5 x)).replyReaches 2 (toFive .poll) (saying { reportWith 0 with metered := 10 }) 5
          lineReport
      ∧ (polling .poll (inState 5 x)).replyReaches 2 (toFive .poll)
          (saying { reportWith 0 with metered := 11 }) 5 lineReport
      ∧ (polling .poll (inState 5 x)).pads[(5 : PadId)].sent = 0
      ∧ (polling .poll (inState 5 x)).pads[(5 : PadId)].docking = 0)
    ∧ (reportOf (replyBody (saying { reportWith 0 with metered := 11 }))).metered = 11
    ∧ (reportOf (replyBody (saying { reportWith 0 with metered := 10 }))).metered = 10
    ∧ (reportOf (replyBody (saying { reportWith 0 with metered := 10 }))).present = true
    ∧ (reportOf (replyBody (saying { reportWith 0 with metered := 10 }))).docking = 0
    ∧ (loaded.feederRec (loaded.padRec 5).group).tolerance = 10
    ∧ (loaded.feederRec (loaded.padRec 5).group).overdrawLimit = 3 := by
  refine ⟨fun x hx => ?_, by decide +kernel⟩
  have hd : x ≠ .disabled := by rintro rfl; simp at hx
  exact ⟨reports_reach x hd (by decide +kernel), reports_reach x hd (by decide +kernel), rfl, rfl⟩

theorem witness_FaultReportFaultsThePad :
    (∀ x, x ≠ .disabled →
      (polling .poll (inState 5 x)).replyReaches 2 (toFive .poll) (goodReply 5 lineFault [3, 0, 10, 1]) 5
        lineFault)
    ∧ loaded.notices.captures.length < 8 :=
  ⟨fun x hx => ⟨polling_awaits _ x hx, by decide +kernel⟩, by decide +kernel⟩

/-- A CAPS of pad 5's charger with a maximum, a minimum of 20 and no tiers. -/
def stating (vmax : Nat) : List RxChar :=
  goodReply 5 lineCaps (bytes2 vmax ++ [0, 20, 0, 0, 0, 0, 0, 0, 0, 0])

theorem witness_CapsEndsProbing :
    (∀ x, x ≠ .disabled →
      (polling .probe (inState 5 x)).replyReaches 2 (toFive .probe) (stating 400) 5 lineCaps
      ∧ (polling .probe (inState 5 x)).replyReaches 2 (toFive .probe) (stating 401) 5 lineCaps
      ∧ (polling .probe (inState 5 x)).pads[(5 : PadId)].attempts = 0
      ∧ (polling .probe (inState 5 x)).pads[(5 : PadId)].dispatch = none)
    ∧ (capsOf (replyBody (stating 400))).passes = true ∧ (capsOf (replyBody (stating 401))).passes = false
    ∧ loaded.site.probeAttempts = 2 ∧ (loaded.padRec 5).assumeDefault = false :=
  ⟨fun x hx => ⟨⟨polling_awaits _ x hx, by decide +kernel⟩, ⟨polling_awaits _ x hx, by decide +kernel⟩,
      rfl, rfl⟩, by decide +kernel⟩

/-- A CAPS that names a battery of 50 against a target of 60, of which 20 are delivered. -/
theorem witness_CapsEndsProbing_battery :
    (capsOf (replyBody (goodReply 5 lineCaps [1, 144, 0, 20, 2, 0, 0, 0, 0, 0, 50, 0]))).battery = some 50
    ∧ (polling .probe ((inState 5 .probing).updPad 5 (ordered 7200 60))).replyReaches 2 (toFive .probe)
        (goodReply 5 lineCaps [1, 144, 0, 20, 2, 0, 0, 0, 0, 0, 50, 0]) 5 lineCaps
    ∧ (after (.caps 2 (goodReply 5 lineCaps [1, 144, 0, 20, 2, 0, 0, 0, 0, 0, 50, 0]))
        (polling .probe ((inState 5 .probing).updPad 5 fun q =>
          { ordered 7200 60 q with delivered := 20, remaining := 40 }))).pads[(5 : PadId)].remaining = 30 := by
  unfold State.replyReaches State.awaits State.marksRemain
  decide +kernel

/-- Line C in DISCOVERING with its mark set and a normal poll to its highest drop in flight. -/
def lastPoll (other : Bool) : State :=
  (((inMode .discovering loaded).updLine 2 fun c =>
    { c with
      breaking := false, discovery := true
      inFlight := some
        { drop := 12, pad := some 12, request := .poll, slot := .normal, timeout := 20
          inDiscovery := true } })).updLine 1 fun c => { c with discovery := other }

theorem witness_LastMarkEndsDiscovery :
    (lastPoll false).mode.engine = .discovering ∧ (lastPoll false).lines[(2 : LineId)].discovery = true
    ∧ (∀ m ∈ (lastPoll false).members 2, m ≤ 12)
    ∧ (∀ k : LineId, k ≠ 2 → (lastPoll false).lines[k].discovery = false)
    ∧ (lastPoll true).lines[(1 : LineId)].discovery = true := by decide +kernel

/-- R144, R173: a good reply ends DISCOVERING as the timeout does; with the poll not counting for the mark, no sweep
and no pass follows it. -/
theorem witness_LastMarkEndsDiscovery_reply :
    endsTransaction (.faultReport 2 (goodReply 12 lineFault [3, 0, 10, 1])) 2 (goodReply 12 lineFault [3, 0, 10, 1])
    ∧ (after (.faultReport 2 (goodReply 12 lineFault [3, 0, 10, 1])) (lastPoll false)).mode.engine = .running
    ∧ (after (.faultReport 2 (goodReply 12 lineFault [3, 0, 10, 1])) ((lastPoll false).updLine 2 fun c =>
        { c with inFlight := c.inFlight.map fun x => { x with inDiscovery := false } })).alloc.sweep = none
    ∧ (after (.faultReport 2 (goodReply 12 lineFault [3, 0, 10, 1])) ((lastPoll false).updLine 2 fun c =>
        { c with inFlight := c.inFlight.map fun x => { x with inDiscovery := false } })).alloc.fastShed = .none := by
  unfold endsTransaction
  decide +kernel

/-- Lines B and C in DISCOVERING at the end of the check of the shadow bank `b`, IN0 taken HIGH, line C with its
normal poll in flight or past its position. -/
def seeking (flying : Bool) (b : Bank) : State :=
  (((lastPoll true).updLine 2 fun c =>
    { c with inFlight := if flying then c.inFlight else none, position := some 9 }).withSignals
      { loaded.signals with taken := loaded.signals.taken.set 0 true }).withTables
    { loaded.tables with shadow := b, commit := .checking (crc b.bytes) 7 }

/-- A shadow bank that takes pad 12, the one pad above drop 9, from line C. -/
def shorterBank : Bank := caseBank.store .pad 12 (List.replicate 12 0)

/-- R144, R174: the mark of line B goes, having no member; that of line C stands while its poll is in flight or pad
12 lies above, and goes with pad 12, which ends DISCOVERING; a STOP input that becomes active halts. -/
theorem witness_LastMarkEndsDiscovery_activation :
    (∀ (flying : Bool) (b : Bank),
      (seeking flying b).tables.commit = .checking (crc (seeking flying b).tables.shadow.bytes) 7)
    ∧ (∀ b ∈ [caseBank, shorterBank, otherInput 2], validate b = none)
    ∧ (seeking true caseBank).alloc.sweep = none ∧ (seeking true caseBank).alloc.fastShed ≠ .running
    ∧ (seeking true caseBank).mode.engine = .discovering
    ∧ (seeking true caseBank).lines[(1 : LineId)].discovery = true
    ∧ (seeking false (otherInput 2)).recordStays .line 0 = false
    ∧ ((passed (seeking true shorterBank)).lines.map LineCtl.discovery).toList = [false, false, true, false]
    ∧ ((passed (seeking false caseBank)).lines.map LineCtl.discovery).toList = [false, false, true, false]
    ∧ (passed (seeking false shorterBank)).mode.engine = .running
    ∧ (passed (seeking false (otherInput 2))).mode.engine = .halted :=
  ⟨fun _ _ => rfl, by decide +kernel⟩

/-- The shed case before its capacity falls, no reset state, with one tick waiting. -/
def steady : State := { withCapacity 600 caseShed with pending := [.tick] }

theorem steady_steps : ∃ t : State, step steady = .next t := ⟨_, rfl⟩

theorem witness_StepsKeepSessionsSound : SessionsSound steady ∧ KeptListCovers steady := by
  unfold SessionsSound FiguresOrdered DisabledMatches GrantsMatch StaysServed FaultMatches EnergyMatches
    KeptListCovers
  decide +kernel

theorem witness_StepsKeepPowerOffUnlessRunning :
    IdleUnlessRunning steady ∧ IdleUnlessRunning { loaded with pending := [.tick] }
    ∧ loaded.mode.engine ≠ .running := by
  unfold IdleUnlessRunning
  decide +kernel

theorem witness_StepsKeepSweepAlone :
    IdleUnlessRunning steady ∧ SweepAlone steady ∧ KeptListSound steady
    ∧ SweepAlone { atIssue with pending := [.issueStage] } := by
  refine ⟨?_, ⟨fun x h => ?_, fun _ => rfl⟩, ?_, ⟨fun x h => ?_, fun _ => rfl⟩⟩
  · unfold IdleUnlessRunning; decide +kernel
  · exact absurd h (by rw [show steady.alloc.sweep = none from rfl]; simp)
  · unfold KeptListSound; decide +kernel
  · have hx : x = takeSnapshot (withCapacity 600 caseStart) := (Option.some.inj h).symm
    subst hx
    exact ⟨by decide +kernel, rfl⟩

theorem witness_StepsKeepCapacityFresh : CapacityFresh steady ∧ InputsFollowed steady := by
  unfold CapacityFresh InputsFollowed
  decide +kernel

theorem witness_StepsKeepWithinLimits : WithinLimits steady ∧ steady.alloc.fastShed = .none := by
  unfold WithinLimits
  decide +kernel

theorem witness_StepsKeepQueuesAndLists :
    QueuesBounded steady ∧ ListsDistinct steady ∧ BreaksOrdered steady
    ∧ PortSound ((raise .commitDone steady).setReceiver (.frame (clean [1, 2]))) := by
  refine ⟨?_, ?_, ?_, by decide +kernel, fun got h => Or.inr ?_⟩
  · unfold QueuesBounded; decide +kernel
  · unfold ListsDistinct; decide +kernel
  · unfold BreaksOrdered; decide +kernel
  · obtain rfl := Receiver.frame.inj h
    exact ⟨cleanByte 1, clean [2], by decide⟩

end Sys2Proof.Tests
end

/-! PROOFS. What `timeLeft`, `ceilDiv`, `needOf`, `urgencyOf` and `step` answer, case by case, and the
statements of the allocation round that follow from it. -/

namespace Sys2Proof.Machine

/-! ## One step -/

theorem step_of_pending_nil {s : State} (h : s.pending = []) : step s = .next s := by
  simp [step, h]

theorem step_of_pending_cons {s : State} {c : Instr} {rest : List Instr} (h : s.pending = c :: rest) :
    step s = exec c { s with pending := rest } := by
  simp [step, h]

/-- Settles O1: the two cases of the queue. -/
theorem stepRunsTheFrontCommand : Obligations.StepRunsTheFrontCommand := by
  unfold Obligations.StepRunsTheFrontCommand
  exact ⟨fun _ _ _ => step_of_pending_cons, fun _ => step_of_pending_nil⟩

/-! ## The remaining time (R64) -/

section
variable {deadline now : Ticks}

theorem timeLeft_of_lt (h : (deadline - now).toNat < 2 ^ 31) :
    timeLeft deadline now = (deadline - now).toNat :=
  if_pos h

theorem timeLeft_of_le (h : 2 ^ 31 ≤ (deadline - now).toNat) : timeLeft deadline now = 0 :=
  if_neg (Nat.not_lt.mpr h)

/-- From a deadline that `k` ticks have passed the difference wraps round to `2^32 - k`. -/
theorem toNat_sub_add_ofNat (deadline : Ticks) {k : Nat} (hpos : 0 < k) (hk : k ≤ 2 ^ 31) :
    (deadline - (deadline + BitVec.ofNat 32 k)).toNat = 2 ^ 32 - k := by
  have hlt := deadline.isLt
  simp only [BitVec.toNat_sub, BitVec.toNat_add, BitVec.toNat_ofNat]
  omega

/-- A deadline equal to now, or passed by up to 2^31 ticks, leaves nothing. -/
theorem timeLeft_of_passed (deadline : Ticks) {k : Nat} (hk : k ≤ 2 ^ 31) :
    timeLeft deadline (deadline + BitVec.ofNat 32 k) = 0 := by
  rcases Nat.eq_zero_or_pos k with rfl | hpos
  · have hdiff : (deadline - (deadline + BitVec.ofNat 32 0)).toNat = 0 := by simp
    rw [timeLeft_of_lt (by omega), hdiff]
  · have hdiff := toNat_sub_add_ofNat deadline hpos hk
    exact timeLeft_of_le (by omega)

end

/-- Settles O29: the two branches of `timeLeft`, and the difference that a passed deadline leaves. -/
theorem remainingTimeOfADeadline : Obligations.RemainingTimeOfADeadline := by
  unfold Obligations.RemainingTimeOfADeadline
  intro deadline now
  refine ⟨timeLeft_of_lt, timeLeft_of_le, ?_⟩
  rintro k hk rfl
  exact timeLeft_of_passed deadline hk

/-! ## The need (R65) -/

/-- The least whole number by which `t` reaches `x`, as the Galois connection that Mathlib states for `⌈/⌉`. -/
theorem ceilDiv_le_iff {x t k : Nat} (ht : 0 < t) : ceilDiv x t ≤ k ↔ x ≤ k * t := by
  have hlib : ceilDiv x t = x ⌈/⌉ t := (Nat.ceilDiv_eq_add_pred_div x t).symm
  rw [hlib, ceilDiv_le_iff_le_mul ht, mul_comm]

theorem le_ceilDiv_mul (x : Nat) {t : Nat} (ht : 0 < t) : x ≤ ceilDiv x t * t :=
  (ceilDiv_le_iff ht).mp le_rfl

section
variable {q : PadSnap} {now dl : Ticks} {d : Nat}

theorem needOf_of_nothing_due (h : q.deadline = none ∨ q.remaining = 0) : needOf q now d = 0 := by
  unfold needOf
  cases hdl : q.deadline with
  | none => rfl
  | some dl =>
    have hrem : q.remaining = 0 := h.resolve_left (by simp [hdl])
    simp [hrem]

theorem needOf_of_past_deadline (hdl : q.deadline = some dl) (hrem : 0 < q.remaining)
    (ht : timeLeft dl now = 0) : needOf q now d = d := by
  simp [needOf, hdl, hrem.ne', ht]

theorem needOf_of_time_left (hdl : q.deadline = some dl) (hrem : 0 < q.remaining)
    (ht : 0 < timeLeft dl now) :
    needOf q now d = min d (ceilDiv (360 * q.remaining) (timeLeft dl now)) := by
  simp [needOf, hdl, hrem.ne', ht.ne']

/-- The cases of R65 cover every snapshot, and none asks for more than the demand ceiling. -/
theorem needOf_le (q : PadSnap) (now : Ticks) (d : Nat) : needOf q now d ≤ d := by
  cases hdl : q.deadline with
  | none => simp [needOf_of_nothing_due (.inl hdl)]
  | some dl =>
    rcases Nat.eq_zero_or_pos q.remaining with hrem | hrem
    · simp [needOf_of_nothing_due (.inr hrem)]
    · rcases Nat.eq_zero_or_pos (timeLeft dl now) with ht | ht
      · exact (needOf_of_past_deadline hdl hrem ht).le
      · exact needOf_of_time_left hdl hrem ht ▸ min_le_left _ _

end

/-! ## The urgency (R66) -/

theorem urgencyOf_mul_le (n d : Nat) : urgencyOf n d * d ≤ 256 * n :=
  Nat.div_mul_le_self _ _

theorem lt_urgencyOf_succ_mul (n : Nat) {d : Nat} (hd : 0 < d) : 256 * n < (urgencyOf n d + 1) * d :=
  Nat.lt_mul_of_div_lt (Nat.lt_succ_self _) hd

theorem urgencyOf_le {n d : Nat} (hn : n ≤ d) : urgencyOf n d ≤ 256 :=
  Nat.div_le_of_le_mul (by omega)

/-- Settles O30: the cases of R65 one by one, the rounded-up quotient by its least-number property, and R66's
rounded-down quotient. -/
theorem needAndUrgency : Obligations.NeedAndUrgency := by
  unfold Obligations.NeedAndUrgency
  intro q now d
  refine ⟨needOf_of_nothing_due, fun _ => needOf_of_past_deadline, ?_, needOf_le q now d, ?_⟩
  · intro dl hdl hrem ht
    exact ⟨ceilDiv (360 * q.remaining) (timeLeft dl now), needOf_of_time_left hdl hrem ht,
      le_ceilDiv_mul _ ht, fun _ => (ceilDiv_le_iff ht).mpr⟩
  · intro n hd hn
    exact ⟨urgencyOf_mul_le n d, lt_urgencyOf_succ_mul n hd, urgencyOf_le hn⟩

end Sys2Proof.Machine

/-! PROOFS. What `voltageMove` answers in each monitor mode. -/

namespace Sys2Proof.Machine

/-! ## The moves of the voltage state (R102, R103) -/

section
variable {r : FeederRec} {x : VoltageState} {v : Nat}

theorem voltageMove_of_off (hmode : r.monitor = .off) : voltageMove r x v = (x, []) := by
  simp [voltageMove, hmode]

/-- The states of NOTIFY are NORMAL and WARN; each has one way out, and SHED has none. -/
theorem voltageMove_of_notify (hmode : r.monitor = .notify) :
    voltageMove r x v =
      if x = .normal ∧ v < r.warnLevel then (.warn, [.feederWarn])
      else if x = .warn ∧ r.warnRelease ≤ v then (.normal, []) else (x, []) := by
  cases x <;> simp [voltageMove, hmode]

/-- The states of SHED_ONLY are NORMAL and SHED; each has one way out, and WARN has none. -/
theorem voltageMove_of_shedOnly (hmode : r.monitor = .shedOnly) :
    voltageMove r x v =
      if x = .normal ∧ v < r.shedLevel then (.shed, [.feederShed])
      else if x = .shed ∧ r.shedRelease ≤ v then (.normal, []) else (x, []) := by
  cases x <;> simp [voltageMove, hmode]

theorem voltageMove_normal_of_notifyAndShed (hmode : r.monitor = .notifyAndShed) :
    voltageMove r .normal v =
      if v < r.shedLevel then (.shed, [.feederWarn, .feederShed])
      else if v < r.warnLevel then (.warn, [.feederWarn]) else (.normal, []) := by
  simp [voltageMove, hmode]

theorem voltageMove_warn_of_notifyAndShed (hmode : r.monitor = .notifyAndShed) :
    voltageMove r .warn v =
      if v < r.shedLevel then (.shed, [.feederShed])
      else if r.warnRelease ≤ v then (.normal, []) else (.warn, []) := by
  simp [voltageMove, hmode]

/-- The model asks for the release first and then where `v` lands; R102 gives each landing a row of its own. -/
theorem voltageMove_shed_of_notifyAndShed (hmode : r.monitor = .notifyAndShed) :
    voltageMove r .shed v =
      if r.shedRelease ≤ v ∧ v < r.warnLevel then (.warn, [.feederWarn])
      else if r.shedRelease ≤ v then (.normal, []) else (.shed, []) := by
  by_cases hrelease : r.shedRelease ≤ v <;> simp [voltageMove, hmode, hrelease]

end

/-- Settles O17: R102's table state by state, and R103's three modes. -/
theorem voltageStateMoves : Obligations.VoltageStateMoves := by
  unfold Obligations.VoltageStateMoves
  intro r x v
  refine ⟨fun hmode => ?_, voltageMove_of_notify, voltageMove_of_shedOnly, voltageMove_of_off⟩
  cases x with
  | normal => exact voltageMove_normal_of_notifyAndShed hmode
  | warn => exact voltageMove_warn_of_notifyAndShed hmode
  | shed => exact voltageMove_shed_of_notifyAndShed hmode

end Sys2Proof.Machine

/-! PROOFS. Every command as what it does before its event ends: the request it carries and that request's owner,
or the event it names; and one step in these terms. -/

namespace Sys2Proof.Machine

/-! ## A command's effect -/

/-- The owner of the request that a command carries. -/
def ownerOf : Instr → State → Answer
  | .dispatch _ b => dispatchRequest b
  | .release _ b => releaseRequest b
  | .padLimit _ b => padLimitRequest b
  | .clearPad _ b => clearPadRequest b
  | .headroom _ b => headroomRequest b
  | .clearInput _ b => clearInputRequest b
  | .openWindow _ b => openWindow b
  | .writeRecords _ b => writeRecords b
  | .readRecords _ b => readRecords b
  | .commit t b => commit t b
  | .discard _ b => discard b
  | .setModeHalt _ b | .setModeResume _ b | .setModeFine _ b | .setModeStepped _ b
  | .setModeFull _ b | .setModePartial _ b => setModeRequest b
  | .restart _ b => restartRequest b
  | .readCapture _ b => readCaptureRequest b
  | .ackNotices _ b => ackNoticesRequest b
  | .setNoticeMask _ b => setNoticeMaskRequest b
  | .readStatus _ b => readStatusRequest b
  | .readPad _ b => readPadRequest b
  | .readFeeder _ b => readFeederRequest b
  | .readLine _ b => readLineRequest b
  | _ => badKindAnswer

/-- What a command that carries no request does. -/
def eventOf : Instr → State → State
  | .powerOn | .resetInput => powerOn
  | .tick => tick
  | .roundTimerExpiry => timerExpiry
  | .headroomTurnsStale g => turnStale g
  | .issueStage => issueStage
  | .fastShedPassEnd => passEnd
  | .commitCheckEnd => endCheck
  | .fleetFrameReceived before head body check after => receiveBytes (before ++ head ++ body ++ check ++ after)
  | .fleetLengthAbove240 bytes => receiveBytes bytes
  | .fleetFrameAbort => abortFrame
  | .frameTransmitStart => transmitStart
  | .frameTransmitEnd => transmitEnd
  | .transactionStart l => startTransaction l
  | .replyTimeout l => replyTimeout l
  | .report l rx | .faultReport l rx | .caps l rx | .replyFailed l rx => endReply l rx
  | .lineBreakEnd l => fun s => s.updLine l LineCtl.endBreak
  | .inputLineChange i high => inputLineChange i high
  | .inputEdgeTaken i => takeEdge i
  | _ => id

/-- What a command does to everything but the outputs. -/
def effect (c : Instr) (s : State) : State :=
  match requestOf c with
  | some f => takeRequest f.kind f.tag f.body (ownerOf c) s
  | none => eventOf c s

theorem effect_of_request {c : Instr} {f : RxFrame} (h : requestOf c = some f) (s : State) :
    effect c s = takeRequest f.kind f.tag f.body (ownerOf c) s := by
  unfold effect
  rw [h]

/-- Every command answers a next state: its effect, with the outputs driven (R197). -/
theorem exec_eq (c : Instr) (s : State) : exec c s = .next (driveOutputs (effect c s)) := by
  cases c with
  | badKindRequest kind tag body =>
    by_cases h : kind ∈ requestKinds <;>
      simp [exec, execBadKindRequest, finish, effect, requestOf, h, eventOf, ownerOf]
  | _ => rfl

theorem exec_request {c : Instr} {f : RxFrame} (h : requestOf c = some f) (s : State) :
    exec c s = .next (driveOutputs (takeRequest f.kind f.tag f.body (ownerOf c) s)) := by
  rw [exec_eq, effect_of_request h]

/-- What a step can do: idle, or the effect of the front command with the outputs driven. -/
theorem step_cases {s t : State} (h : step s = .next t) :
    t = s ∨ ∃ (c : Instr) (rest : List Instr), s.pending = c :: rest
      ∧ t = driveOutputs (effect c { s with pending := rest }) := by
  cases hp : s.pending with
  | nil =>
    rw [step_of_pending_nil hp] at h
    injection h with h
    exact .inl h.symm
  | cons c rest =>
    rw [step_of_pending_cons hp, exec_eq] at h
    injection h with h
    exact .inr ⟨c, rest, rfl, h.symm⟩

/-- A property is kept by every step when the queue of commands and the outputs do not matter to it and every
effect keeps it. -/
theorem step_keeps {P : State → Prop} {s t : State}
    (hpending : ∀ (u : State) (q : List Instr), P u → P { u with pending := q })
    (hdrive : ∀ u : State, P u → P (driveOutputs u)) (heffect : ∀ (c : Instr) (u : State), P u → P (effect c u))
    (hs : P s) (h : step s = .next t) : P t := by
  rcases step_cases h with rfl | ⟨c, rest, -, rfl⟩
  · exact hs
  · exact hdrive _ (heffect c _ (hpending s rest hs))

/-! ## The take of a request (R153, R155) -/

/-- The state in which a request's owner acts: its frame has left the receive queue. -/
def State.taking (s : State) (rest : List RxFrame) : State := s.withFleet { s.fleet with rx := rest }

/-- What the answer of an owner leaves: its state, with the response at the tail of the transmit queue. -/
def Answer.delivered (kind tag : Byte) (a : Answer) : State :=
  match a.response with
  | none => a.state
  | some (code, data) => respond kind tag code data a.state

@[simp] theorem delivered_refuse (kind tag : Byte) (code : ResultCode) (s : State) :
    (refuse code s).delivered kind tag = respond kind tag code [] s := rfl

@[simp] theorem delivered_accept (kind tag : Byte) (s : State) (data : List Byte) :
    (accept s data).delivered kind tag = respond kind tag .ok data s := rfl

@[simp] theorem delivered_acceptClamped (kind tag : Byte) (clamped : Bool) (s : State) (data : List Byte) :
    (acceptClamped clamped s data).delivered kind tag =
      respond kind tag (if clamped then .okClamped else .ok) data s := rfl

@[simp] theorem delivered_refused (kind tag : Byte) (code : ResultCode) (s : State) (rest : List RxFrame) :
    (refuse code (s.taking rest)).delivered kind tag = s.replied rest tag [kind, code.byte] := rfl

theorem respond_taking (kind tag : Byte) (code : ResultCode) (data : List Byte) (s : State)
    (rest : List RxFrame) :
    respond kind tag code data (s.taking rest) = s.replied rest tag (kind :: code.byte :: data) := rfl

theorem portReady_iff (s : State) : s.portReady = true ↔
    s.tables.commit.isChecking = false ∧ s.fleet.restartWaiting = false
      ∧ s.fleet.responses < Config.responseLimit := by
  simp [State.portReady, and_assoc]

/-- What the take of a request can do: nothing, or the owner's answer. -/
theorem takeRequest_cases (kind tag : Byte) (body : List Byte) (owner : State → Answer) (s : State) :
    takeRequest kind tag body owner s = s
      ∨ ∃ rest : List RxFrame, s.portReady = true ∧ rest.length ≤ s.fleet.rx.length
        ∧ takeRequest kind tag body owner s = (owner (s.taking rest)).delivered kind tag := by
  cases hp : s.portReady with
  | false => exact .inl (takeRequest_waits s kind tag body owner hp)
  | true =>
    cases hf : takeFrame ⟨kind, tag, body⟩ s.fleet.rx with
    | none => exact .inl (takeRequest_other s kind tag body owner hf)
    | some rest =>
      refine .inr ⟨rest, rfl, ?_, takeRequest_taken s kind tag body owner rest hf hp⟩
      cases hrx : s.fleet.rx with
      | nil => simp_all [takeFrame]
      | cons g gs =>
        rw [hrx] at hf
        simp only [takeFrame, Option.ite_none_right_eq_some, Option.some.injEq] at hf
        simp [hf.2]

theorem takeRequest_next {s : State} {kind tag : Byte} {body : List Byte} {rest : List RxFrame}
    (h : s.takesNext kind tag body rest) (owner : State → Answer) :
    takeRequest kind tag body owner s = (owner (s.taking rest)).delivered kind tag := by
  obtain ⟨hrx, hcommit, hrestart, hroom⟩ := h
  exact takeRequest_taken s kind tag body owner rest (by simp [takeFrame, hrx])
    ((portReady_iff s).mpr ⟨hcommit, hrestart, hroom⟩)

/-- A request whose turn it is: its owner acts on the queue's rest, and its answer is delivered. -/
theorem exec_next {c : Instr} {f : RxFrame} {s : State} {rest : List RxFrame} (h : requestOf c = some f)
    (ht : s.takesNext f.kind f.tag f.body rest) :
    exec c s = .next (driveOutputs ((ownerOf c (s.taking rest)).delivered f.kind f.tag)) := by
  rw [exec_request h, takeRequest_next ht]

/-! ## What the taking of a frame leaves alone -/

section
variable (s : State) (rest : List RxFrame)

@[simp] theorem taking_time : (s.taking rest).time = s.time := rfl
@[simp] theorem taking_tables : (s.taking rest).tables = s.tables := rfl
@[simp] theorem taking_pads : (s.taking rest).pads = s.pads := rfl
@[simp] theorem taking_alloc : (s.taking rest).alloc = s.alloc := rfl
@[simp] theorem taking_groups : (s.taking rest).groups = s.groups := rfl
@[simp] theorem taking_lines : (s.taking rest).lines = s.lines := rfl
@[simp] theorem taking_fleet : (s.taking rest).fleet = { s.fleet with rx := rest } := rfl
@[simp] theorem taking_mode : (s.taking rest).mode = s.mode := rfl
@[simp] theorem taking_notices : (s.taking rest).notices = s.notices := rfl
@[simp] theorem taking_signals : (s.taking rest).signals = s.signals := rfl
@[simp] theorem taking_freeCount : (s.taking rest).freeCount = s.freeCount := rfl
@[simp] theorem taking_pending : (s.taking rest).pending = s.pending := rfl
@[simp] theorem taking_site : (s.taking rest).site = s.site := rfl
@[simp] theorem taking_padRec (p : PadId) : (s.taking rest).padRec p = s.padRec p := rfl
@[simp] theorem taking_feederRec (g : GroupId) : (s.taking rest).feederRec g = s.feederRec g := rfl
@[simp] theorem taking_inputRec (i : InputId) : (s.taking rest).inputRec i = s.inputRec i := rfl

end

/-! ## What a request's rules say first: its owner on a body -/

/-- A body byte that carries a number below 256 reads back as it. -/
theorem byte1_toNat {n : Nat} (h : n < 256) : (byte1 n).toNat = n := by
  simp [byte1, Nat.mod_eq_of_lt h]

@[simp] theorem byte1_pad (p : PadId) : (byte1 p.val).toNat = p.val := byte1_toNat (by omega)

@[simp] theorem byte1_group (g : GroupId) : (byte1 g.val).toNat = g.val := byte1_toNat (by omega)

@[simp] theorem byte1_line (l : LineId) : (byte1 l.val).toNat = l.val := byte1_toNat (by omega)

theorem byte1_input (i : InputId) : (byte1 i.val).toNat = i.val := byte1_toNat (by omega)

@[simp] theorem byteAt_cons_zero (b : Byte) (l : List Byte) : byteAt (b :: l) 0 = b := rfl

@[simp] theorem byteAt_cons_succ (b : Byte) (l : List Byte) (i : Nat) : byteAt (b :: l) (i + 1) = byteAt l i := rfl

@[simp] theorem padOf_byte1 (p : PadId) (l : List Byte) : padOf (byte1 p.val :: l) = some p := by
  simp [padOf]

@[simp] theorem groupOf_byte1 (g : GroupId) (l : List Byte) : groupOf (byte1 g.val :: l) = some g := by
  simp [groupOf]

theorem padOf_of_above {body : List Byte} (h : 63 < (byteAt body 0).toNat) : padOf body = none :=
  dif_neg (by omega)

theorem groupOf_of_above {body : List Byte} (h : 7 < (byteAt body 0).toNat) : groupOf body = none :=
  dif_neg (by omega)

/-- The two bytes of a figure that two bytes spell. -/
@[simp] theorem bytes2_be16 (hi lo : Byte) : bytes2 (be16 hi lo) = [hi, lo] := by
  have hhi := hi.isLt
  have hlo := lo.isLt
  simp only [bytes2, be16, List.cons.injEq, and_true]
  constructor <;> apply BitVec.eq_of_toNat_eq <;> simp only [BitVec.toNat_ofNat] <;> omega

theorem be16_lt (hi lo : Byte) : be16 hi lo < 65536 := by
  have hhi := hi.isLt
  have hlo := lo.isLt
  simp only [be16]
  omega

/-- Settles O4: the request theorem `exec_request`, `takeRequest_waits`, `takeRequest_other`, and a queue
of one frame against an empty one. -/
theorem requestsWaitAndAreTaken : Obligations.RequestsWaitAndAreTaken := by
  unfold Obligations.RequestsWaitAndAreTaken
  refine ⟨?_, ?_, ?_⟩
  · intro c f s hc hwait
    rw [exec_request hc]
    have hnone : takeRequest f.kind f.tag f.body (ownerOf c) s = s := by
      have hbusy : (s.tables.commit.isChecking = true ∨ s.fleet.restartWaiting = true
          ∨ Config.responseLimit ≤ s.fleet.responses) → s.portReady = false := by
        intro h
        rw [← Bool.not_eq_true, portReady_iff]
        rintro ⟨h1, h2, h3⟩
        rcases h with h | h | h
        · simp [h] at h1
        · simp [h] at h2
        · omega
      rcases hwait with h | h | h | ⟨g, rest, hrx, hne⟩
      · exact takeRequest_waits s _ _ _ _ (hbusy (.inl h))
      · exact takeRequest_waits s _ _ _ _ (hbusy (.inr (.inl h)))
      · exact takeRequest_waits s _ _ _ _ (hbusy (.inr (.inr h)))
      · exact takeRequest_other s _ _ _ _ (by simp [takeFrame, hrx, hne])
    rw [hnone]
  · intro c f s hc hrx hport
    have hport' : (s.withFleet { s.fleet with rx := [f] }).portReady = true := hport
    rw [exec_request hc, exec_request hc,
      takeRequest_taken s _ _ _ _ [] (by simp [takeFrame, hrx]) hport,
      takeRequest_taken (s.withFleet { s.fleet with rx := [f] }) _ _ _ _ [] (by simp [takeFrame]) hport']
    rfl
  · intro s
    refine ⟨portReady_iff s, ?_, ?_⟩
    · cases s.tables.commit <;> simp [CommitState.isChecking]
    · have hitem : ∀ x : TxItem, (!x.isNotice) = decide (x ≠ .notice) := by
        intro x
        cases x <;> rfl
      rw [Fleet.responses, List.countP_eq_length_filter]
      simp only [hitem]
      congr 1
      cases s.fleet.sending with
      | none => simp
      | some f =>
        have hsend : (∃ g : TxFrame, some f = some g ∧ g.kind = 0x80) ↔ f.kind = kindResponse := by
          simp [kindResponse]
        simp only [hsend]

/-! ## A take whose turn it is, read from the statements' forms -/

@[simp] theorem replied_taking (s : State) (rest rest' : List RxFrame) (tag : Byte) (body : List Byte) :
    (s.taking rest).replied rest' tag body = s.replied rest' tag body := rfl

end Sys2Proof.Machine

/-! PROOFS. What an activation and the events of the round leave alone, field by field, where the laws do not say
it; that no command touches the queue of commands; and what the outputs drive (R7, R197). -/

namespace Sys2Proof.Machine

/-! ## The parts of an activation -/

section
variable (s : State) (old new : Bank)

@[simp] theorem activateCopy_time : (activateCopy s).time = s.time := by simp [activateCopy]
@[simp] theorem activateCopy_tables : (activateCopy s).tables =
    { s.tables with active := s.tables.shadow, loaded := Vector.replicate 4 true, commit := .idle } := by
  simp [activateCopy]
@[simp] theorem activateCopy_pads : (activateCopy s).pads = s.pads := by simp [activateCopy]
@[simp] theorem activateCopy_alloc : (activateCopy s).alloc = s.alloc := by simp [activateCopy]
@[simp] theorem activateCopy_groups : (activateCopy s).groups = s.groups := by simp [activateCopy]
@[simp] theorem activateCopy_lines : (activateCopy s).lines = s.lines := by simp [activateCopy]
@[simp] theorem activateCopy_mode : (activateCopy s).mode = s.mode := by simp [activateCopy]
@[simp] theorem activateCopy_signals : (activateCopy s).signals = s.signals := by simp [activateCopy]
@[simp] theorem activateCopy_freeCount : (activateCopy s).freeCount = s.freeCount := by simp [activateCopy]
@[simp] theorem activateCopy_pending : (activateCopy s).pending = s.pending := by simp [activateCopy]

/-- The pads and lines that R19 and R20 give touch nothing else. -/
@[simp] theorem activatePads_time : (activatePads old new s).time = s.time := by
  unfold activatePads; dsimp only; split <;> simp [activateLines]
@[simp] theorem activatePads_tables : (activatePads old new s).tables = s.tables := by
  unfold activatePads; dsimp only; split <;> simp [activateLines]
@[simp] theorem activatePads_alloc : (activatePads old new s).alloc = s.alloc := by
  unfold activatePads; dsimp only; split <;> simp [activateLines]
@[simp] theorem activatePads_groups : (activatePads old new s).groups = s.groups := by
  unfold activatePads; dsimp only; split <;> simp [activateLines]
@[simp] theorem activatePads_fleet : (activatePads old new s).fleet = s.fleet := by
  unfold activatePads; dsimp only; split <;> simp [activateLines]
@[simp] theorem activatePads_mode : (activatePads old new s).mode = s.mode := by
  unfold activatePads; dsimp only; split <;> simp [activateLines]
@[simp] theorem activatePads_notices : (activatePads old new s).notices = s.notices := by
  unfold activatePads; dsimp only; split <;> simp [activateLines]
@[simp] theorem activatePads_signals : (activatePads old new s).signals = s.signals := by
  unfold activatePads; dsimp only; split <;> simp [activateLines]
@[simp] theorem activatePads_freeCount : (activatePads old new s).freeCount = s.freeCount + 1 := by
  unfold activatePads; dsimp only; split <;> simp [activateLines]
@[simp] theorem activatePads_pending : (activatePads old new s).pending = s.pending := by
  unfold activatePads; dsimp only; split <;> simp [activateLines]

theorem activateRotation_alloc : (activateRotation old new s).alloc =
    { s.alloc with rotation := (activateRotation old new s).alloc.rotation } := by
  unfold activateRotation; split <;> rfl
@[simp] theorem activateRotation_time : (activateRotation old new s).time = s.time := by
  unfold activateRotation; split <;> rfl
@[simp] theorem activateRotation_tables : (activateRotation old new s).tables = s.tables := by
  unfold activateRotation; split <;> rfl
@[simp] theorem activateRotation_pads : (activateRotation old new s).pads = s.pads := by
  unfold activateRotation; split <;> rfl
@[simp] theorem activateRotation_groups : (activateRotation old new s).groups = s.groups := by
  unfold activateRotation; split <;> rfl
@[simp] theorem activateRotation_lines : (activateRotation old new s).lines = s.lines := by
  unfold activateRotation; split <;> rfl
@[simp] theorem activateRotation_fleet : (activateRotation old new s).fleet = s.fleet := by
  unfold activateRotation; split <;> rfl
@[simp] theorem activateRotation_mode : (activateRotation old new s).mode = s.mode := by
  unfold activateRotation; split <;> rfl
@[simp] theorem activateRotation_notices : (activateRotation old new s).notices = s.notices := by
  unfold activateRotation; split <;> rfl
@[simp] theorem activateRotation_signals : (activateRotation old new s).signals = s.signals := by
  unfold activateRotation; split <;> rfl
@[simp] theorem activateRotation_freeCount : (activateRotation old new s).freeCount = s.freeCount := by
  unfold activateRotation; split <;> rfl
@[simp] theorem activateRotation_pending : (activateRotation old new s).pending = s.pending := by
  unfold activateRotation; split <;> rfl

@[simp] theorem activateHold_time : (activateHold old new s).time = s.time := by
  unfold activateHold; split <;> simp
@[simp] theorem activateHold_tables : (activateHold old new s).tables = s.tables := by
  unfold activateHold; split <;> simp
@[simp] theorem activateHold_pads : (activateHold old new s).pads = s.pads := by
  unfold activateHold; split <;> simp
@[simp] theorem activateHold_alloc : (activateHold old new s).alloc = s.alloc := by
  unfold activateHold; split <;> simp
@[simp] theorem activateHold_lines : (activateHold old new s).lines = s.lines := by
  unfold activateHold; split <;> simp
@[simp] theorem activateHold_mode : (activateHold old new s).mode = s.mode := by
  unfold activateHold; split <;> simp
@[simp] theorem activateHold_signals : (activateHold old new s).signals = s.signals := by
  unfold activateHold; split <;> simp
@[simp] theorem activateHold_freeCount : (activateHold old new s).freeCount = s.freeCount := by
  unfold activateHold; split <;> simp
@[simp] theorem activateHold_pending : (activateHold old new s).pending = s.pending := by
  unfold activateHold; split <;> simp

end

/-! ## The rest of an activation (R21 to R23, R196) -/

section
variable (s : State) (old new : Bank) (before : Vector Pad 64)

/-- The groups evaluated on the samples that are left (R99, R100). -/
def evaluateLost (s : State) : State :=
  (allGroups.filter (lostSample old new before)).foldl (fun t g => moveVoltage g t) s

theorem activateRest_eq : activateRest old new before s =
    storeAllCapacities (reformStop (reformAllSheds (activateInputs old new (activateHold old new
      (evaluateLost old new before (activateRotation old new (activateGroups old new s))))))) := rfl

@[simp] theorem evaluateLost_time : (evaluateLost old new before s).time = s.time :=
  foldl_keeps (fun t => t.time) _ (fun t g => moveVoltage_time t g) _ s
@[simp] theorem evaluateLost_tables : (evaluateLost old new before s).tables = s.tables :=
  foldl_keeps (fun t => t.tables) _ (fun t g => moveVoltage_tables t g) _ s
@[simp] theorem evaluateLost_pads : (evaluateLost old new before s).pads = s.pads :=
  foldl_keeps (fun t => t.pads) _ (fun t g => moveVoltage_pads t g) _ s
@[simp] theorem evaluateLost_alloc : (evaluateLost old new before s).alloc = s.alloc :=
  foldl_keeps (fun t => t.alloc) _ (fun t g => moveVoltage_alloc t g) _ s
@[simp] theorem evaluateLost_lines : (evaluateLost old new before s).lines = s.lines :=
  foldl_keeps (fun t => t.lines) _ (fun t g => moveVoltage_lines t g) _ s
@[simp] theorem evaluateLost_mode : (evaluateLost old new before s).mode = s.mode :=
  foldl_keeps (fun t => t.mode) _ (fun t g => moveVoltage_mode t g) _ s
@[simp] theorem evaluateLost_signals : (evaluateLost old new before s).signals = s.signals :=
  foldl_keeps (fun t => t.signals) _ (fun t g => moveVoltage_signals t g) _ s
@[simp] theorem evaluateLost_freeCount : (evaluateLost old new before s).freeCount = s.freeCount :=
  foldl_keeps (fun t => t.freeCount) _ (fun t g => moveVoltage_freeCount t g) _ s
@[simp] theorem evaluateLost_pending : (evaluateLost old new before s).pending = s.pending :=
  foldl_keeps (fun t => t.pending) _ (fun t g => moveVoltage_pending t g) _ s

@[simp] theorem activateRest_time : (activateRest old new before s).time = s.time := by
  simp [activateRest_eq, activateInputs, activateGroups]
@[simp] theorem activateRest_tables : (activateRest old new before s).tables = s.tables := by
  simp [activateRest_eq, activateInputs, activateGroups]
@[simp] theorem activateRest_pads : (activateRest old new before s).pads = s.pads := by
  simp [activateRest_eq, activateInputs, activateGroups]
@[simp] theorem activateRest_alloc : (activateRest old new before s).alloc =
    (activateRotation old new s).alloc := by
  simp only [activateRest_eq, activateInputs, storeAllCapacities_alloc, reformStop_alloc,
    reformAllSheds_alloc, raiseIf_alloc, State.withSignals_alloc, activateHold_alloc, evaluateLost_alloc]
  unfold activateRotation
  split <;> rfl
@[simp] theorem activateRest_lines : (activateRest old new before s).lines = s.lines := by
  simp [activateRest_eq, activateInputs, activateGroups]
@[simp] theorem activateRest_freeCount : (activateRest old new before s).freeCount = s.freeCount := by
  simp [activateRest_eq, activateInputs, activateGroups]
@[simp] theorem activateRest_pending : (activateRest old new before s).pending = s.pending := by
  simp [activateRest_eq, activateInputs, activateGroups]
theorem activateRest_mode : (activateRest old new before s).mode =
    { s.mode with stopLatch := (activateRest old new before s).mode.stopLatch } := by
  simp [activateRest_eq, activateInputs, activateGroups, reformStop]
@[simp] theorem activateRest_signals : (activateRest old new before s).signals =
    { s.signals with latch := tabulate 8 fun i => s.signals.latch[i] && !inputChanged old new i } := by
  simp [activateRest_eq, activateInputs, activateGroups]

end

/-! ## An activation as a whole (R17 to R23) -/

/-- The check that an activation ends with: that of a pass's end, or the fast-shed check (R81, R84). -/
def endCheckOf (atPassEnd : Bool) (s : State) : State := if atPassEnd then checkAtPassEnd s else fastShedCheck s

/-- The entry to HALTED of a STOP input that an activation makes active (R178, R196). -/
def haltIfStopped (old new : Bank) (s : State) : State :=
  if stopActivated old new s ∧ s.mode.engine ≠ .halted then haltEffects s else s

/-- An activation up to its fast-shed check: the copy, the pads, the lines and the rest (R18 to R23). -/
def activateBanks (s : State) : State :=
  activateRest s.tables.active s.tables.shadow s.pads
    (activatePads s.tables.active s.tables.shadow (activateCopy s))

theorem activate_eq (atPassEnd : Bool) (s : State) : activate atPassEnd s =
    activateMarks (haltIfStopped s.tables.active s.tables.shadow
      (endCheckOf atPassEnd (activateBanks s))) := rfl

section
variable (s : State)

@[simp] theorem endCheckOf_time (b : Bool) : (endCheckOf b s).time = s.time := by
  unfold endCheckOf; split <;> simp
@[simp] theorem endCheckOf_tables (b : Bool) : (endCheckOf b s).tables = s.tables := by
  unfold endCheckOf; split <;> simp
@[simp] theorem endCheckOf_groups (b : Bool) : (endCheckOf b s).groups = s.groups := by
  unfold endCheckOf; split <;> simp
@[simp] theorem endCheckOf_fleet (b : Bool) : (endCheckOf b s).fleet = s.fleet := by
  unfold endCheckOf; split <;> simp
@[simp] theorem endCheckOf_mode (b : Bool) : (endCheckOf b s).mode = s.mode := by
  unfold endCheckOf; split <;> simp
@[simp] theorem endCheckOf_notices (b : Bool) : (endCheckOf b s).notices = s.notices := by
  unfold endCheckOf; split <;> simp
@[simp] theorem endCheckOf_signals (b : Bool) : (endCheckOf b s).signals = s.signals := by
  unfold endCheckOf; split <;> simp
@[simp] theorem endCheckOf_freeCount (b : Bool) : (endCheckOf b s).freeCount = s.freeCount := by
  unfold endCheckOf; split <;> simp
@[simp] theorem endCheckOf_pending (b : Bool) : (endCheckOf b s).pending = s.pending := by
  unfold endCheckOf; split <;> simp

@[simp] theorem haltIfStopped_tables (old new : Bank) : (haltIfStopped old new s).tables = s.tables := by
  unfold haltIfStopped; split <;> simp
@[simp] theorem haltIfStopped_groups (old new : Bank) : (haltIfStopped old new s).groups = s.groups := by
  unfold haltIfStopped; split <;> simp
@[simp] theorem haltIfStopped_fleet (old new : Bank) : (haltIfStopped old new s).fleet = s.fleet := by
  unfold haltIfStopped; split <;> simp
@[simp] theorem haltIfStopped_notices (old new : Bank) : (haltIfStopped old new s).notices = s.notices := by
  unfold haltIfStopped; split <;> simp
@[simp] theorem haltIfStopped_signals (old new : Bank) : (haltIfStopped old new s).signals = s.signals := by
  unfold haltIfStopped; split <;> simp
@[simp] theorem haltIfStopped_freeCount (old new : Bank) : (haltIfStopped old new s).freeCount = s.freeCount := by
  unfold haltIfStopped; split <;> simp
@[simp] theorem haltIfStopped_pending (old new : Bank) : (haltIfStopped old new s).pending = s.pending := by
  unfold haltIfStopped; split <;> simp

/-- The engine mode at the end of DISCOVERING: RUNNING where the last mark is clear, and otherwise as it was. -/
theorem endDiscoveryIfDone_cases : endDiscoveryIfDone s = s
    ∨ (s.mode.engine = .discovering ∧ s.marksClear = true ∧ endDiscoveryIfDone s = discoveryEnd s) := by
  unfold endDiscoveryIfDone
  split
  next h => exact .inr ⟨h.1, h.2, rfl⟩
  next => exact .inl rfl

@[simp] theorem activateMarks_tables : (activateMarks s).tables = s.tables := by
  unfold activateMarks; split <;> simp
@[simp] theorem activateMarks_groups : (activateMarks s).groups = s.groups := by
  unfold activateMarks; split <;> simp
@[simp] theorem activateMarks_signals : (activateMarks s).signals = s.signals := by
  unfold activateMarks; split <;> simp
@[simp] theorem activateMarks_freeCount : (activateMarks s).freeCount = s.freeCount := by
  unfold activateMarks; split <;> simp
@[simp] theorem activateMarks_pending : (activateMarks s).pending = s.pending := by
  unfold activateMarks; split <;> simp

/-- Outside DISCOVERING an activation looks at no discovery mark (R144). -/
theorem activateMarks_of_not_discovering (h : s.mode.engine ≠ .discovering) : activateMarks s = s := by
  simp [activateMarks, h]

@[simp] theorem activateBanks_time : (activateBanks s).time = s.time := by simp [activateBanks]
@[simp] theorem activateBanks_tables : (activateBanks s).tables =
    { s.tables with active := s.tables.shadow, loaded := Vector.replicate 4 true, commit := .idle } := by
  simp [activateBanks]
@[simp] theorem activateBanks_freeCount : (activateBanks s).freeCount = s.freeCount + 1 := by
  simp [activateBanks]
@[simp] theorem activateBanks_pending : (activateBanks s).pending = s.pending := by simp [activateBanks]
theorem activateBanks_alloc : (activateBanks s).alloc =
    { s.alloc with rotation := (activateBanks s).alloc.rotation } := by
  simp only [activateBanks, activateRest_alloc]
  rw [activateRotation_alloc]
  simp
theorem activateBanks_mode : (activateBanks s).mode =
    { s.mode with stopLatch := (activateBanks s).mode.stopLatch } := by
  simp only [activateBanks]
  rw [activateRest_mode]
  simp

@[simp] theorem activate_tables (b : Bool) : (activate b s).tables =
    { s.tables with active := s.tables.shadow, loaded := Vector.replicate 4 true, commit := .idle } := by
  simp [activate_eq]
@[simp] theorem activate_freeCount (b : Bool) : (activate b s).freeCount = s.freeCount + 1 := by
  simp [activate_eq]
@[simp] theorem activate_pending (b : Bool) : (activate b s).pending = s.pending := by simp [activate_eq]

@[simp] theorem activatePending_pending : (activatePending s).pending = s.pending := by
  unfold activatePending; split <;> simp
@[simp] theorem enterHalted_pending : (enterHalted s).pending = s.pending := by
  unfold enterHalted; dsimp only; split <;> simp
@[simp] theorem sweepEnd_pending : (sweepEnd s).pending = s.pending := by simp [sweepEnd]

end

/-! ## The queue of commands -/

section
variable (s : State)

@[simp] theorem handUp_pending (p : PadId) (x : LineRequest) (o : LineOutcome) (rx : List RxChar) :
    (handUp p x o rx s).pending = s.pending := by
  unfold handUp; dsimp only; (repeat' split) <;> simp

@[simp] theorem deliver_pending (l : LineId) (tx : Transaction) (o : LineOutcome) (rx : List RxChar) :
    (deliver l tx o rx s).pending = s.pending := by
  unfold deliver; dsimp only; split <;> simp

@[simp] theorem clearMark_pending (l : LineId) (tx : Transaction) :
    (clearMark l tx s).pending = s.pending := by
  unfold clearMark; split <;> simp

@[simp] theorem endTransaction_pending (l : LineId) (tx : Transaction) (o : LineOutcome) (rx : List RxChar) :
    (endTransaction l tx o rx s).pending = s.pending := by
  unfold endTransaction; dsimp only; split <;> simp

@[simp] theorem restartEffect_pending : (restartEffect s).pending = s.pending := by
  simp [restartEffect, restartSignals, restartPorts, restartBlocks, restartTables]

@[simp] theorem becomeActive_pending (i : InputId) : (becomeActive i s).pending = s.pending := by
  have howner : (reformOwner i s).pending = s.pending := by unfold reformOwner; split <;> simp
  have hhalt : (stopHalts i (reformOwner i s)).pending = s.pending := by
    unfold stopHalts; split <;> simp [howner]
  simp [becomeActive, hhalt]

theorem eventOf_pending (c : Instr) : (eventOf c s).pending = s.pending := by
  cases c with
  | tick => simp [eventOf, tick]
  | roundTimerExpiry => simp only [eventOf, timerExpiry]; (repeat' split) <;> simp
  | headroomTurnsStale g => simp only [eventOf, turnStale]; split <;> simp
  | issueStage =>
    simp only [eventOf, issueStage]
    split <;> simp [completeSweep, issuePads]
  | fastShedPassEnd =>
    have hwait (u : State) : (startWaiting u).pending = u.pending := by
      unfold startWaiting; split <;> simp
    simp only [eventOf, passEnd]
    (repeat' split) <;> simp [hwait]
  | commitCheckEnd =>
    simp only [eventOf, endCheck]
    (repeat' split) <;> simp [State.setCommit]
  | fleetFrameAbort => simp only [eventOf, abortFrame]; split <;> simp
  | frameTransmitStart => simp only [eventOf, transmitStart]; (repeat' split) <;> simp
  | frameTransmitEnd => simp only [eventOf, transmitEnd]; (repeat' split) <;> simp
  | transactionStart l => simp only [eventOf, startTransaction, pickAndSend]; (repeat' split) <;> simp
  | replyTimeout l => simp only [eventOf, replyTimeout]; split <;> simp
  | report l rx | faultReport l rx | caps l rx | replyFailed l rx =>
    simp only [eventOf, endReply]; (repeat' split) <;> simp
  | inputLineChange i high => simp [eventOf, inputLineChange]
  | inputEdgeTaken i =>
    have howner (u : State) : (reformOwner i u).pending = u.pending := by unfold reformOwner; split <;> simp
    simp only [eventOf, takeEdge]; (repeat' split) <;> simp [howner]
  | _ => simp [eventOf, powerOn, State.afterPowerOn]

end

/-! ## What an owner does to the state -/

/-- What the owner of SET_MODE does, but for the free values of its response (R171 to R177). -/
inductive ModeActs (s : State) : State → Prop
  | nothing : ModeActs s s
  | halts (h : s.mode.engine ≠ .halted) : ModeActs s (enterHalted s)
  | resumes (h : s.mode.engine = .halted) : ModeActs s (enterDiscovering s)
  | resolves (x : Resolution) : ModeActs s (s.withMode { s.mode with resolution := x })
  | holds (x : Scope) (h : s.alloc.sweep.isSome = true) : ModeActs s (s.withMode { s.mode with held := some x })
  | scopes (x : Scope) (h : s.alloc.sweep = none) : ModeActs s (fastShedCheck (applyScope x s))

/-- Everything that the owner of a request can do to the state, an accepted COMMIT apart: one case for each way in which
one acts. -/
inductive OwnerActs (s : State) : State → Prop
  | nothing : OwnerActs s s
  | dispatches (p : PadId) (d : Dispatch) (h : s.pads[p].state.mayDispatch = true) :
      OwnerActs s (afterDispatch p d.target
        (s.updPad p fun q => { q with dispatch := some d, delivered := 0, remaining := d.target }))
  | releases (p : PadId)
      (h : s.pads[p].state = .waiting ∨ s.pads[p].state = .charging ∨ s.pads[p].state = .complete) :
      OwnerActs s ((decrease p 0 s).updPad p fun q => q.dropDispatch.setState .releasing)
  | endsProbing (p : PadId) (h : s.pads[p].state = .probing) :
      OwnerActs s (s.updPad p fun q => q.dropDispatch.clearFigures.setState .releasing)
  | limits (p : PadId) (l : Option Nat) : OwnerActs s (s.updPad p fun q => { q with limit := l })
  | clears (p : PadId) (h : s.pads[p].state = .faulted) : OwnerActs s (s.updPad p Pad.cleared)
  | takesHeadroom (g : GroupId) (x : Nat) :
      OwnerActs s (recompute g (s.updGroup g fun y => { y with headroom := x, age := 0, hstate := .fresh }))
  | clearsInput (i : InputId) (h : (s.inputRec i).sense.isEdge = true) :
      OwnerActs s (reformOwner i (s.withSignals { s.signals with latch := s.signals.latch.set i false }))
  | writesTables (t : Tables) (hactive : t.active = s.tables.active) (hloaded : t.loaded = s.tables.loaded)
      (hcommit : t.commit = s.tables.commit) : OwnerActs s (s.withTables t)
  | setsMode (t : State) (h : ModeActs s t) : OwnerActs s (t.spend 4)
  | restarts : OwnerActs s (s.withFleet { s.fleet with restartWaiting := true })
  | takesCapture : OwnerActs s (s.withNotices
      { s.notices with captures := s.notices.captures.drop 1, overflow := false, overflowCount := 0 })
  | acknowledges (set : BitVec 11) :
      OwnerActs s (withdrawNotice (s.withNotices
        { s.notices with pendingSet := s.notices.pendingSet &&& ~~~set }))
  | masks (set : BitVec 11) :
      OwnerActs s (withdrawNotice
        (if s.notices.mask &&& ~~~set &&& s.notices.pendingSet = 0 then
          s.withNotices { s.notices with mask := set }
        else callNotice (s.withNotices { s.notices with mask := set })))

/-- Everything that the owner of a request can do: as above, or for an accepted COMMIT the beginning of its check
(R11). -/
inductive TakenActs (s : State) : State → Prop
  | acts {t : State} (h : OwnerActs s t) : TakenActs s t
  | beginsCheck (w : Word16) (tag : Byte) :
      TakenActs s (s.withTables { s.tables with commit := .checking w tag })

/-- What an owner's answer to a request of a kind is: a refusal, which leaves the state (R156); an answer with OK or
OK_CLAMPED; or, for an accepted COMMIT alone, none yet (R155). -/
inductive Answer.Fair (s : State) : Byte → Answer → Prop
  | refuses (kind : Byte) (code : ResultCode) (h : code ≠ .ok ∧ code ≠ .okClamped) :
      Answer.Fair s kind (refuse code s)
  | accepts (kind : Byte) (t : State) (clamped : Bool) (data : List Byte) (h : OwnerActs s t) :
      Answer.Fair s kind (acceptClamped clamped t data)
  | defers (w : Word16) (tag : Byte) :
      Answer.Fair s kindCommit { state := s.withTables { s.tables with commit := .checking w tag }, response := none }

section
variable {s : State} {kind : Byte}

theorem Answer.Fair.accept {t : State} {data : List Byte} (h : OwnerActs s t) :
    Answer.Fair s kind (accept t data) :=
  .accepts _ t false data h

theorem Answer.Fair.acts {a : Answer} (h : a.Fair s kind) : TakenActs s a.state := by
  cases h with
  | refuses => exact .acts .nothing
  | accepts _ _ _ _ h => exact .acts h
  | defers w tag => exact .beginsCheck w tag

/-- An answer of SET_MODE that is no refusal. -/
theorem modeAnswer_fair {t : State} (h : ModeActs s t) : Answer.Fair s kind (modeAnswer t) := .accept (.setsMode t h)

theorem setScope_fair (x : Scope) : Answer.Fair s kind (setScope x s) := by
  apply modeAnswer_fair
  split
  next h => exact .holds x h
  next h =>
    split
    · exact .nothing
    · exact .scopes x (by simpa using h)

theorem setPartial_fair (first last : Nat) : Answer.Fair s kind (setPartial first last s) := by
  unfold setPartial
  split
  · split
    · exact setScope_fair _
    · exact .refuses _ _ (by decide)
  · exact .refuses _ _ (by decide)

theorem setModeRequest_fair (body : List Byte) : Answer.Fair s kind (setModeRequest body s) := by
  unfold setModeRequest
  split
  · exact .refuses _ _ (by decide)
  split
  · apply modeAnswer_fair
    split
    · exact .nothing
    next h => exact .halts h
  · unfold setResume
    split
    · exact .refuses _ _ (by decide)
    split
    · exact .refuses _ _ (by decide)
    apply modeAnswer_fair
    split
    next h => exact .resumes h
    · exact .nothing
  · exact modeAnswer_fair (.resolves _)
  · exact modeAnswer_fair (.resolves _)
  · exact setScope_fair _
  · exact setPartial_fair _ _
  · exact .refuses _ _ (by decide)

theorem dispatchRequest_fair (body : List Byte) : Answer.Fair s kind (dispatchRequest body s) := by
  unfold dispatchRequest
  split
  · exact .refuses _ _ (by decide)
  split
  · exact .refuses _ _ (by decide)
  next p _ =>
    split
    · exact .refuses _ _ (by decide)
    next h =>
      exact .accepts _ _ _ _ (.dispatches p
        (newDispatch s.pads[p] s.time.running (storedTarget s.pads[p] (wordAt body 1)) (wordAt body 3))
        (by simpa using h))

theorem releaseRequest_fair (body : List Byte) : Answer.Fair s kind (releaseRequest body s) := by
  unfold releaseRequest
  split
  · exact .refuses _ _ (by decide)
  split
  · exact .refuses _ _ (by decide)
  next p _ =>
    split
    next h => exact .accept (.releases p (.inl h))
    next h => exact .accept (.releases p (.inr (.inl h)))
    next h => exact .accept (.releases p (.inr (.inr h)))
    next h => exact .accept (.endsProbing p h)
    · exact .accept .nothing
    all_goals exact .refuses _ _ (by decide)

theorem padLimitRequest_fair (body : List Byte) : Answer.Fair s kind (padLimitRequest body s) := by
  unfold padLimitRequest
  split
  · exact .refuses _ _ (by decide)
  split
  · exact .refuses _ _ (by decide)
  next p _ =>
    dsimp only
    split
    · exact .accept (.limits p none)
    split
    · exact .refuses _ _ (by decide)
    · exact .accepts _ _ _ _ (.limits p _)

theorem clearPadRequest_fair (body : List Byte) : Answer.Fair s kind (clearPadRequest body s) := by
  unfold clearPadRequest
  split
  · exact .refuses _ _ (by decide)
  split
  · exact .refuses _ _ (by decide)
  next p _ =>
    split
    · exact .refuses _ _ (by decide)
    next h => exact .accept (.clears p (by simpa using h))

theorem headroomRequest_fair (body : List Byte) : Answer.Fair s kind (headroomRequest body s) := by
  unfold headroomRequest
  split
  · exact .refuses _ _ (by decide)
  split
  · exact .refuses _ _ (by decide)
  next g _ =>
    split
    · exact .refuses _ _ (by decide)
    split
    · exact .refuses _ _ (by decide)
    · exact .accepts _ _ _ _ (.takesHeadroom g _)

theorem clearInputRequest_fair (body : List Byte) : Answer.Fair s kind (clearInputRequest body s) := by
  unfold clearInputRequest
  split
  · exact .refuses _ _ (by decide)
  split
  · refine .accept ?_
    split
    next h => exact .clearsInput _ h.2.2
    · exact .nothing
  · exact .refuses _ _ (by decide)

theorem openWindow_fair (body : List Byte) : Answer.Fair s kind (openWindow body s) := by
  unfold openWindow
  split
  · exact .refuses _ _ (by decide)
  dsimp only
  split
  · split
    · exact .accept (.writesTables _ rfl rfl rfl)
    · exact .refuses _ _ (by decide)
  · exact .refuses _ _ (by decide)

theorem writeRecords_fair (body : List Byte) : Answer.Fair s kind (writeRecords body s) := by
  unfold writeRecords
  split
  · exact .refuses _ _ (by decide)
  split
  · exact .refuses _ _ (by decide)
  split
  · exact .refuses _ _ (by decide)
  · exact .accept (.writesTables _ rfl rfl rfl)

theorem readRecords_fair (body : List Byte) : Answer.Fair s kind (readRecords body s) := by
  unfold readRecords
  split
  · exact .refuses _ _ (by decide)
  dsimp only
  split
  · exact .refuses _ _ (by decide)
  split
  · exact .refuses _ _ (by decide)
  · exact .accept (.writesTables _ rfl rfl rfl)

theorem commit_fair (tag : Byte) (body : List Byte) : Answer.Fair s kindCommit (commit tag body s) := by
  unfold commit
  split
  · exact .refuses _ _ (by decide)
  split
  · exact .refuses _ _ (by decide)
  · exact .defers _ _

theorem discard_fair (body : List Byte) : Answer.Fair s kind (discard body s) := by
  unfold discard
  split
  · exact .refuses _ _ (by decide)
  split
  · exact .refuses _ _ (by decide)
  · exact .accept (.writesTables _ rfl rfl rfl)

theorem restartRequest_fair (body : List Byte) : Answer.Fair s kind (restartRequest body s) := by
  unfold restartRequest
  split
  · exact .refuses _ _ (by decide)
  · exact .accept .restarts

theorem readCaptureRequest_fair (body : List Byte) : Answer.Fair s kind (readCaptureRequest body s) := by
  unfold readCaptureRequest
  split
  · exact .refuses _ _ (by decide)
  dsimp only
  split <;> exact .accept .takesCapture

theorem ackNoticesRequest_fair (body : List Byte) : Answer.Fair s kind (ackNoticesRequest body s) := by
  unfold ackNoticesRequest
  split
  · exact .refuses _ _ (by decide)
  split
  · exact .refuses _ _ (by decide)
  · exact .accept (.acknowledges _)

theorem setNoticeMaskRequest_fair (body : List Byte) : Answer.Fair s kind (setNoticeMaskRequest body s) := by
  unfold setNoticeMaskRequest
  split
  · exact .refuses _ _ (by decide)
  split
  · exact .refuses _ _ (by decide)
  · exact .accept (.masks _)

theorem readStatusRequest_fair (body : List Byte) : Answer.Fair s kind (readStatusRequest body s) := by
  unfold readStatusRequest
  split
  · exact .refuses _ _ (by decide)
  · exact .accept (.setsMode s .nothing)

theorem readPadRequest_fair (body : List Byte) : Answer.Fair s kind (readPadRequest body s) := by
  unfold readPadRequest
  split
  · exact .refuses _ _ (by decide)
  split
  · exact .accept .nothing
  · exact .refuses _ _ (by decide)

theorem readFeederRequest_fair (body : List Byte) : Answer.Fair s kind (readFeederRequest body s) := by
  unfold readFeederRequest
  split
  · exact .refuses _ _ (by decide)
  split
  · exact .accept .nothing
  · exact .refuses _ _ (by decide)

theorem readLineRequest_fair (body : List Byte) : Answer.Fair s kind (readLineRequest body s) := by
  unfold readLineRequest
  split
  · exact .refuses _ _ (by decide)
  split
  · exact .accept .nothing
  · exact .refuses _ _ (by decide)

/-- The owner of every request answers fairly. -/
theorem ownerOf_fair {c : Instr} {f : RxFrame} (h : requestOf c = some f) :
    Answer.Fair s f.kind (ownerOf c s) := by
  cases c with
  | dispatch _ b => exact dispatchRequest_fair b
  | release _ b => exact releaseRequest_fair b
  | padLimit _ b => exact padLimitRequest_fair b
  | clearPad _ b => exact clearPadRequest_fair b
  | headroom _ b => exact headroomRequest_fair b
  | clearInput _ b => exact clearInputRequest_fair b
  | openWindow _ b => exact openWindow_fair b
  | writeRecords _ b => exact writeRecords_fair b
  | readRecords _ b => exact readRecords_fair b
  | commit t b =>
    obtain rfl : f = ⟨0x13, t, b⟩ := by simpa [requestOf] using h.symm
    exact commit_fair t b
  | discard _ b => exact discard_fair b
  | setModeHalt _ b | setModeResume _ b | setModeFine _ b | setModeStepped _ b | setModeFull _ b
  | setModePartial _ b => exact setModeRequest_fair b
  | restart _ b => exact restartRequest_fair b
  | readCapture _ b => exact readCaptureRequest_fair b
  | ackNotices _ b => exact ackNoticesRequest_fair b
  | setNoticeMask _ b => exact setNoticeMaskRequest_fair b
  | readStatus _ b => exact readStatusRequest_fair b
  | readPad _ b => exact readPadRequest_fair b
  | readFeeder _ b => exact readFeederRequest_fair b
  | readLine _ b => exact readLineRequest_fair b
  | _ => exact .refuses _ .badKind (by decide)

theorem OwnerActs.pending {t : State} (h : OwnerActs s t) : t.pending = s.pending := by
  cases h with
  | dispatches p d => unfold afterDispatch; (repeat' split) <;> simp
  | clearsInput i => unfold reformOwner; split <;> simp
  | setsMode t h => cases h <;> simp
  | masks set => split <;> simp
  | _ => simp

end

theorem TakenActs.pending {t : State} (h : TakenActs s t) : t.pending = s.pending := by
  cases h with
  | acts h => exact h.pending
  | beginsCheck => rfl

/-- A property that the taking of a frame and the forming of a response keep is kept by every request whose
owner's acts keep it. -/
theorem takeRequest_keeps {P : State → Prop} {s : State} {c : Instr} {f : RxFrame} (hc : requestOf c = some f)
    (hrespond : ∀ (t : State) (code : ResultCode) (data : List Byte), P t → P (respond f.kind f.tag code data t))
    (hacts : ∀ (rest : List RxFrame) (t : State), TakenActs (s.taking rest) t → P t) (hs : P s) :
    P (takeRequest f.kind f.tag f.body (ownerOf c) s) := by
  rcases takeRequest_cases f.kind f.tag f.body (ownerOf c) s with h | ⟨rest, -, -, h⟩
  · rw [h]
    exact hs
  · rw [h]
    have hact := hacts rest _ (ownerOf_fair hc).acts
    unfold Answer.delivered
    split
    · exact hact
    · exact hrespond _ _ _ hact

/-- A property is kept by every command when the forming of a response, the acts of the owners on the state with
the frame taken, and every event that carries no request keep it. -/
theorem effect_keeps {P : State → Prop} {s : State} (c : Instr)
    (hrespond : ∀ (t : State) (kind tag : Byte) (code : ResultCode) (data : List Byte),
      P t → P (respond kind tag code data t))
    (hacts : ∀ (rest : List RxFrame) (t : State), TakenActs (s.taking rest) t → P t)
    (hevent : P (eventOf c s)) (hs : P s) : P (effect c s) := by
  unfold effect
  split
  next hc => exact takeRequest_keeps hc (fun t => hrespond t _ _) hacts hs
  next => exact hevent

theorem effect_pending (c : Instr) (s : State) : (effect c s).pending = s.pending :=
  effect_keeps (P := fun t => t.pending = s.pending) c
    (fun _ _ _ _ _ h => h) (fun _ _ h => h.pending) (eventOf_pending s c) rfl

/-! ## What the outputs drive (R7, R197) -/

/-- Whether some pending kind is outside the mask, kind by kind. -/
theorem unmasked_ne_zero_iff (u : NoticeUnit) :
    u.unmasked ≠ 0 ↔ ∃ k : Notice, noticeIn k u.pendingSet = true ∧ noticeIn k u.mask = false := by
  constructor
  · intro h
    by_contra hnone
    push Not at hnone
    apply h
    apply BitVec.eq_of_getLsbD_eq
    intro i hi
    have hkind : ∃ k : Notice, k.number = i := by
      have hall : ∀ j : Fin 11, ∃ k : Notice, k.number = j.val := by
        intro j
        fin_cases j
        exacts [⟨.padFault, rfl⟩, ⟨.padSilent, rfl⟩, ⟨.padComplete, rfl⟩, ⟨.deadlineMissed, rfl⟩,
          ⟨.feederWarn, rfl⟩, ⟨.feederShed, rfl⟩, ⟨.headroomStale, rfl⟩, ⟨.commitDone, rfl⟩,
          ⟨.inputEvent, rfl⟩, ⟨.captureOverflow, rfl⟩, ⟨.requestDropped, rfl⟩]
      exact hall ⟨i, hi⟩
    obtain ⟨k, rfl⟩ := hkind
    have hk := hnone k
    simp only [noticeIn, ne_eq, Bool.not_eq_false] at hk
    cases hp : u.pendingSet.getLsbD k.number <;> simp_all [NoticeUnit.unmasked]
  · rintro ⟨k, hp, hm⟩ h
    have hbit : u.unmasked.getLsbD k.number = true := by
      have hlt : k.number < 11 := by cases k <;> decide
      simp only [noticeIn] at hp hm
      rw [NoticeUnit.unmasked, BitVec.getLsbD_and, BitVec.getLsbD_not, hp, hm]
      simpa using hlt
    simp [h] at hbit

theorem outputsFollow_driveOutputs (s : State) : OutputsFollow (driveOutputs s) := by
  intro o
  simp

/-- Settles O2: `exec_eq`, `effect_pending`, and R7's table source by source. -/
theorem everyEventEndsWithOutputsDriven : Obligations.EveryEventEndsWithOutputsDriven := by
  unfold Obligations.EveryEventEndsWithOutputsDriven
  refine ⟨?_, ?_, fun _ _ => rfl, ?_, by decide⟩
  · intro c s
    exact ⟨_, exec_eq c s, by simp [effect_pending], outputsFollow_driveOutputs _,
      fun o => outputsFollow_driveOutputs _ o⟩
  · intro s r
    unfold State.source
    cases r.source with
    | noticePending => simpa using unmasked_ne_zero_iff s.notices
    | roundActive => simp [Option.isSome_iff_ne_none]
    | _ => simp [allPads, allGroups]
  · intro r
    refine ⟨by simp [outputView], fun h => ?_, rfl⟩
    simp [outputView, Fin.ofNat, Nat.mod_eq_of_lt h]

end Sys2Proof.Machine

/-! PROOFS. What raisings do to the Fleet Line Port and the Notice Unit, as one relation that every operation
of the part keeps but for the port's own; and the bounds of the queues that follow from it. -/

namespace Sys2Proof.Machine

/-! ## The transmit queue between two states -/

/-- Between `s` and `t` nothing but raisings and captures has reached the Fleet Line Port and the Notice Unit: the
responses stand as they were, at most one NOTICE waits where at most one waited, it has an unmasked kind, the
pending kinds stay, and the capture queue keeps to its size (R158, R181, R185). -/
structure Noticed (s t : State) : Prop where
  fleet : t.fleet = { s.fleet with tx := t.fleet.tx }
  responses : t.fleet.tx.filter (fun x => !x.isNotice) = s.fleet.tx.filter fun x => !x.isNotice
  single : (s.fleet.tx.filter TxItem.isNotice).length ≤ 1 → (t.fleet.tx.filter TxItem.isNotice).length ≤ 1
  sound : (s.fleet.noticeWaiting = true → s.notices.unmasked ≠ 0) →
    t.fleet.noticeWaiting = true → t.notices.unmasked ≠ 0
  mask : t.notices.mask = s.notices.mask
  grows : ∀ k : Notice, noticeIn k s.notices.pendingSet = true → noticeIn k t.notices.pendingSet = true
  captures : s.notices.captures.length ≤ Config.captureDepth → t.notices.captures.length ≤ Config.captureDepth

section
variable {s t u : State}

theorem Noticed.of_eq (hfleet : t.fleet = s.fleet) (hnotices : t.notices = s.notices) : Noticed s t where
  fleet := by rw [hfleet]
  responses := by rw [hfleet]
  single := by rw [hfleet]; exact id
  sound := by rw [hfleet, hnotices]; exact id
  mask := by rw [hnotices]
  grows := by rw [hnotices]; exact fun _ h => h
  captures := by rw [hnotices]; exact id

theorem Noticed.refl (s : State) : Noticed s s := .of_eq rfl rfl

theorem Noticed.trans (h : Noticed s t) (h' : Noticed t u) : Noticed s u where
  fleet := by rw [h'.fleet, h.fleet]
  responses := h'.responses.trans h.responses
  single := h'.single ∘ h.single
  sound := h'.sound ∘ h.sound
  mask := h'.mask.trans h.mask
  grows := fun k => h'.grows k ∘ h.grows k
  captures := h'.captures ∘ h.captures

/-- What goes before is settled by the port and the unit alone. -/
theorem Noticed.after_eq (h : Noticed s t) (hfleet : u.fleet = t.fleet) (hnotices : u.notices = t.notices) :
    Noticed s u :=
  h.trans (.of_eq hfleet hnotices)

theorem Noticed.before (h : Noticed t u) (hfleet : t.fleet = s.fleet) (hnotices : t.notices = s.notices) :
    Noticed s u :=
  (Noticed.of_eq hfleet hnotices).trans h

/-- Kinds outside the mask stay outside it as the pending set grows. -/
theorem unmasked_grows {v w : NoticeUnit} (hmask : w.mask = v.mask)
    (hgrows : ∀ k : Notice, noticeIn k v.pendingSet = true → noticeIn k w.pendingSet = true)
    (h : v.unmasked ≠ 0) : w.unmasked ≠ 0 := by
  obtain ⟨k, hp, hm⟩ := (unmasked_ne_zero_iff v).mp h
  exact (unmasked_ne_zero_iff w).mpr ⟨k, hgrows k hp, hmask ▸ hm⟩

theorem noticed_callNotice (h : s.notices.unmasked ≠ 0) : Noticed s (callNotice s) where
  fleet := callNotice_fleet s
  responses := by
    rw [callNotice_tx]
    split <;> simp [TxItem.isNotice]
  single := by
    rw [callNotice_tx]
    split
    · exact id
    next hnone =>
      have hno : s.fleet.tx.filter TxItem.isNotice = [] := by
        simpa [Fleet.noticeWaiting, List.filter_eq_nil_iff] using hnone
      intro _
      rw [List.filter_append, hno]
      decide
  sound := fun _ _ => by rwa [callNotice_notices]
  mask := by simp
  grows := by simp
  captures := by simp

theorem noticeIn_or (k : Notice) (x y : BitVec 11) : noticeIn k (x ||| y) = (noticeIn k x || noticeIn k y) := by
  simp [noticeIn]

theorem noticeIn_bit (k : Notice) : noticeIn k k.bit = true := by cases k <;> decide

theorem noticed_raise (k : Notice) (s : State) : Noticed s (raise k s) := by
  unfold raise
  split
  · exact .refl s
  · have hstored : Noticed s
        (s.withNotices { s.notices with pendingSet := s.notices.pendingSet ||| k.bit }) := by
      have hgrows : ∀ j : Notice, noticeIn j s.notices.pendingSet = true →
          noticeIn j (s.notices.pendingSet ||| k.bit) = true := by
        intro j hj
        rw [noticeIn_or, hj, Bool.true_or]
      exact
        { fleet := rfl, responses := rfl, single := id, mask := rfl, grows := hgrows, captures := id
          sound := fun h hw => unmasked_grows (v := s.notices) rfl hgrows (h hw) }
    dsimp only
    split
    · exact hstored
    next hmask =>
      refine hstored.trans (noticed_callNotice ((unmasked_ne_zero_iff _).mpr ⟨k, ?_, by simpa using hmask⟩))
      simp [noticeIn_or, noticeIn_bit]

theorem noticed_raiseIf (b : Bool) (k : Notice) (s : State) : Noticed s (raiseIf b k s) := by
  cases b
  · exact .refl s
  · exact noticed_raise k s

theorem noticed_raiseAll (ks : List Notice) (s : State) : Noticed s (raiseAll ks s) := by
  induction ks generalizing s with
  | nil => exact .refl s
  | cons k ks ih => exact (noticed_raise k s).trans (ih _)

theorem noticed_captureEvent (p : PadId) (x : CaptureSource) (c : Byte) (w : Nat) (s : State) :
    Noticed s (captureEvent p x c w s) := by
  unfold captureEvent
  dsimp only
  split
  next hroom =>
    exact
      { fleet := rfl, responses := rfl, single := id, sound := id, mask := rfl, grows := fun _ => id
        captures := fun _ => by simp; omega }
  · refine Noticed.trans (t := s.withNotices _) ?_ (noticed_raise _ _)
    exact
      { fleet := rfl, responses := rfl, single := id, sound := id, mask := rfl, grows := fun _ => id
        captures := id }

theorem noticed_foldl {α : Type} {f : State → α → State} (h : ∀ (t : State) (a : α), Noticed t (f t a))
    (l : List α) (s : State) : Noticed s (l.foldl f s) := by
  induction l generalizing s with
  | nil => exact .refl s
  | cons a l ih => exact (h s a).trans (ih _)

/-! ## Operations that raise -/

theorem noticed_moveVoltage (g : GroupId) (s : State) : Noticed s (moveVoltage g s) := by
  unfold moveVoltage
  split
  · exact .refl s
  · exact (noticed_raiseAll _ _).before rfl rfl

theorem noticed_evaluateVoltage (g : GroupId) (s : State) : Noticed s (evaluateVoltage g s) := by
  unfold evaluateVoltage
  dsimp only
  split
  · exact noticed_moveVoltage g s
  · exact (noticed_moveVoltage g s).after_eq (by simp) (by simp)

theorem noticed_deadlineWatch (s : State) : Noticed s (deadlineWatch s) :=
  (noticed_raiseIf _ _ _).before rfl rfl

theorem noticed_startSweep (s : State) : Noticed s (startSweep s) := by
  have hwatch := noticed_deadlineWatch (s.mapPads fun _ q => q.countdown)
  exact Noticed.after_eq (t := deadlineWatch (s.mapPads fun _ q => q.countdown)) (hwatch.before rfl rfl) rfl rfl

theorem noticed_discoveryEnd (s : State) : Noticed s (discoveryEnd s) := by
  have hsweep := noticed_startSweep (s.withMode { s.mode with engine := .running })
  exact Noticed.after_eq (t := startSweep (s.withMode { s.mode with engine := .running }))
    (hsweep.before rfl rfl) rfl rfl

theorem noticed_endDiscoveryIfDone (s : State) : Noticed s (endDiscoveryIfDone s) := by
  rcases endDiscoveryIfDone_cases s with h | ⟨-, -, h⟩
  · rw [h]; exact .refl s
  · rw [h]; exact noticed_discoveryEnd s

theorem noticed_enterDiscovering (s : State) : Noticed s (enterDiscovering s) :=
  (noticed_endDiscoveryIfDone _).before rfl rfl

theorem noticed_activateMarks (s : State) : Noticed s (activateMarks s) := by
  unfold activateMarks
  split
  · exact (noticed_endDiscoveryIfDone _).before rfl rfl
  · exact .refl s

theorem noticed_activateRest (old new : Bank) (before : Vector Pad 64) (s : State) :
    Noticed s (activateRest old new before s) := by
  have hlost (t : State) : Noticed t (evaluateLost old new before t) :=
    noticed_foldl (fun t g => noticed_moveVoltage g t) _ t
  have hhold (t : State) : Noticed t (activateHold old new t) := by
    unfold activateHold
    split
    · exact .refl t
    · exact (noticed_raiseIf _ _ _).before rfl rfl
  have hinputs (t : State) : Noticed t (activateInputs old new t) :=
    (noticed_raiseIf _ _ _).before rfl rfl
  have hgroups : Noticed s (activateRotation old new (activateGroups old new s)) :=
    .of_eq (by simp [activateGroups]) (by simp [activateGroups])
  rw [activateRest_eq]
  exact (((hgroups.trans (hlost _)).trans (hhold _)).trans (hinputs _)).after_eq (by simp) (by simp)

theorem noticed_activateBanks (s : State) : Noticed s (activateBanks s) := by
  have hcopy : Noticed s (activateCopy s) := (noticed_raise _ _).before rfl rfl
  exact (hcopy.after_eq (by simp) (by simp)).trans (noticed_activateRest _ _ _ _)

theorem noticed_activate (b : Bool) (s : State) : Noticed s (activate b s) := by
  rw [activate_eq]
  exact ((noticed_activateBanks s).after_eq (by simp) (by simp)).trans (noticed_activateMarks _)

theorem noticed_activatePending (s : State) : Noticed s (activatePending s) := by
  unfold activatePending
  split
  · exact noticed_activate false s
  · exact .refl s

theorem applyHeld_fleet_notices (s : State) : (applyHeld s).fleet = s.fleet ∧ (applyHeld s).notices = s.notices := by
  simp

theorem noticed_enterHalted (s : State) : Noticed s (enterHalted s) := by
  unfold enterHalted
  dsimp only
  refine (noticed_activatePending _).before ?_ ?_
  all_goals split <;> simp

theorem noticed_sweepEnd (s : State) : Noticed s (sweepEnd s) :=
  ((noticed_activatePending (applyHeld s)).before (by simp) (by simp)).after_eq
    (fastShedCheck_fleet _) (fastShedCheck_notices _)

theorem noticed_complete (p : PadId) (s : State) : Noticed s (complete p s) :=
  (noticed_raise _ _).before (by simp) (by simp)

theorem noticed_completionCheck (p : PadId) (s : State) : Noticed s (completionCheck p s) := by
  unfold completionCheck
  split
  · exact noticed_complete p s
  · exact .refl s

theorem noticed_enterFaulted (p : PadId) (x : CaptureSource) (c : Byte) (w : Nat) (s : State) :
    Noticed s (enterFaulted p x c w s) := by
  have hcaptured (t : State) : Noticed t (raise .padFault (captureEvent p x c w t)) :=
    (noticed_captureEvent p x c w t).trans (noticed_raise _ _)
  exact ((hcaptured _).before (by simp) (by simp)).after_eq (increaseRelease_fleet _) (increaseRelease_notices _)

theorem noticed_enterSilent (p : PadId) (s : State) : Noticed s (enterSilent p s) := by
  have hraised : Noticed s
      (raise .padSilent (increaseRelease (s.updPad p (Pad.enterSilent s.site.holdRounds)))) :=
    (noticed_raise _ _).before (by simp) (by simp)
  unfold enterSilent
  dsimp only
  split
  · exact (hraised.trans (noticed_evaluateVoltage _ _)).after_eq (fastShedCheck_fleet _) (fastShedCheck_notices _)
  · exact hraised.after_eq (fastShedCheck_fleet _) (fastShedCheck_notices _)

theorem noticed_endProbing (p : PadId) (s : State) : Noticed s (endProbing p s) := by
  unfold endProbing
  split
  · exact (noticed_completionCheck p _).before rfl rfl
  · exact noticed_enterFaulted _ _ _ _ s

theorem noticed_probeFailed (p : PadId) (s : State) : Noticed s (probeFailed p s) := by
  unfold probeFailed
  dsimp only
  split
  · exact (noticed_endProbing p _).before rfl rfl
  · exact .of_eq rfl rfl

theorem noticed_handleCaps (p : PadId) (c : CapsFields) (s : State) : Noticed s (handleCaps p c s) := by
  unfold handleCaps
  split
  · exact .refl s
  split
  · exact (noticed_completionCheck p _).before rfl rfl
  · exact noticed_probeFailed p s

/-- A failed PROBE of a pad in PROBING is a failed attempt (R37). -/
def countAttempt (p : PadId) (x : LineRequest) (s : State) : State :=
  if s.pads[p].state == .probing && x == .probe then s.updPad p fun q => { q with attempts := q.attempts + 1 }
  else s

theorem handleFailed_eq (p : PadId) (x : LineRequest) (s : State) : handleFailed p x s =
    if (countAttempt p x s).pads[p].state.maySilence = true
        ∧ s.site.missLimit ≤ (countAttempt p x s).pads[p].failures then
      enterSilent p (countAttempt p x s)
    else if (s.pads[p].state == .probing && x == .probe) = true
        ∧ s.site.probeAttempts ≤ (countAttempt p x s).pads[p].attempts then
      endProbing p (countAttempt p x s)
    else countAttempt p x s := rfl

theorem noticed_handleFailed (p : PadId) (x : LineRequest) (s : State) : Noticed s (handleFailed p x s) := by
  have hcount : Noticed s (countAttempt p x s) := by
    unfold countAttempt
    split
    · exact .of_eq rfl rfl
    · exact .refl s
  rw [handleFailed_eq]
  split
  · exact hcount.trans (noticed_enterSilent p _)
  split
  · exact hcount.trans (noticed_endProbing p _)
  · exact hcount

theorem noticed_endSilence (p : PadId) (r : Report) (s : State) : Noticed s (endSilence p r s) := by
  unfold endSilence
  dsimp only
  split
  · exact .of_eq rfl rfl
  split
  · exact (noticed_completionCheck p _).before rfl rfl
  · exact .of_eq rfl rfl

theorem noticed_reportTransition (p : PadId) (x : LineRequest) (r : Report) (s : State) :
    Noticed s (reportTransition p x r s) := by
  have hempty : Noticed s (s.updPad p Pad.enterEmpty) := .of_eq rfl rfl
  have hdepart : Noticed s (depart p s) := .of_eq (depart_fleet s p) (depart_notices s p)
  have hswap : Noticed s (swap p r.docking s) := .of_eq (swap_fleet s p _) (swap_notices s p _)
  unfold reportTransition
  dsimp only
  split
  · exact .refl s
  · exact .refl s
  · split
    · exact .of_eq rfl rfl
    · exact .refl s
  · split
    · exact hempty
    split
    · exact .of_eq rfl rfl
    split
    · exact noticed_probeFailed p s
    · exact .refl s
  iterate 3
    · split
      · exact hdepart
      split
      · exact hswap
      · exact .refl s
  · split
    · exact hempty
    split
    · exact hswap
    · exact .refl s
  · exact noticed_endSilence p r s

theorem noticed_overdrawCheck (p : PadId) (r : Report) (s : State) : Noticed s (overdrawCheck p r s) := by
  unfold overdrawCheck
  dsimp only
  split
  · exact .refl s
  split
  · split
    · exact (noticed_enterFaulted _ _ _ _ _).before rfl rfl
    · exact .of_eq rfl rfl
  · exact .of_eq rfl rfl

theorem noticed_takeVoltage (p : PadId) (r : Report) (s : State) : Noticed s (takeVoltage p r s) := by
  unfold takeVoltage
  split
  · exact (noticed_evaluateVoltage _ _).before rfl rfl
  · exact .refl s

theorem noticed_handleReport (p : PadId) (x : LineRequest) (r : Report) (s : State) :
    Noticed s (handleReport p x r s) := by
  have hstored : Noticed s (s.updPad p (Pad.storeReport r)) := .of_eq rfl rfl
  have haccount (t : State) : Noticed t (t.updPad p (Pad.account r)) := .of_eq rfl rfl
  have hconfirm (t : State) : Noticed t (confirmDecrease p r t) := .of_eq (by simp) (by simp)
  unfold handleReport
  exact ((((((hstored.trans (noticed_reportTransition p x r _)).trans (haccount _)).trans
    (noticed_overdrawCheck p r _)).trans (hconfirm _)).trans (noticed_completionCheck p _)).trans
    (noticed_takeVoltage p r _))

theorem noticed_handleFault (p : PadId) (c d : Byte) (w : Nat) (s : State) : Noticed s (handleFault p c d w s) := by
  unfold handleFault
  dsimp only
  split
  · exact .refl s
  · exact ((noticed_captureEvent _ _ _ _ _).trans (noticed_raise _ _)).before rfl rfl
  all_goals exact (noticed_enterFaulted _ _ _ _ _).before rfl rfl

theorem noticed_handUp (p : PadId) (x : LineRequest) (o : LineOutcome) (rx : List RxChar) (s : State) :
    Noticed s (handUp p x o rx s) := by
  unfold handUp
  dsimp only
  split
  · split
    · exact noticed_handleReport _ _ _ s
    split
    · exact noticed_handleFault _ _ _ _ s
    · exact noticed_handleCaps _ _ s
  · exact noticed_handleFailed p x s

theorem noticed_endTransaction (l : LineId) (tx : Transaction) (o : LineOutcome) (rx : List RxChar) (s : State) :
    Noticed s (endTransaction l tx o rx s) := by
  have hdeliver (t : State) : Noticed t (deliver l tx o rx t) := by
    unfold deliver
    dsimp only
    split
    · exact .of_eq rfl rfl
    · exact (noticed_handUp _ _ _ _ _).before rfl rfl
  have hmark (t : State) : Noticed t (clearMark l tx t) := by
    unfold clearMark
    split
    · exact (noticed_endDiscoveryIfDone _).before rfl rfl
    · exact .refl t
  have hbreak (t : State) : Noticed t (t.updLine l LineCtl.startBreak) := .of_eq rfl rfl
  unfold endTransaction
  dsimp only
  split
  · exact ((hmark _).trans (hbreak _)).before rfl rfl
  · exact (((hdeliver _).trans (hmark _)).trans (hbreak _)).before rfl rfl

theorem reformOwner_fleet_notices (i : InputId) (s : State) :
    (reformOwner i s).fleet = s.fleet ∧ (reformOwner i s).notices = s.notices := by
  unfold reformOwner
  split <;> simp

theorem noticed_becomeActive (i : InputId) (s : State) : Noticed s (becomeActive i s) := by
  obtain ⟨hfleet, hnotices⟩ := reformOwner_fleet_notices i s
  have howner : Noticed s (reformOwner i s) := .of_eq hfleet hnotices
  have hhalts (t : State) : Noticed t (stopHalts i t) := by
    unfold stopHalts
    split
    · exact noticed_enterHalted t
    · exact .refl t
  exact (howner.trans (hhalts _)).trans (noticed_raise _ _)

theorem noticed_takeEdge (i : InputId) (s : State) : Noticed s (takeEdge i s) := by
  have howner (t : State) : Noticed t (reformOwner i t) :=
    .of_eq (reformOwner_fleet_notices i t).1 (reformOwner_fleet_notices i t).2
  unfold takeEdge
  dsimp only
  split
  · exact .refl s
  split
  · exact .of_eq rfl rfl
  split
  · split
    · exact (noticed_becomeActive i _).before rfl rfl
    · exact (howner _).before rfl rfl
  · split
    · exact (noticed_becomeActive i _).before rfl rfl
    · exact .of_eq rfl rfl

theorem issuePads_fleet_notices (x : Snapshot) (s : State) :
    (issuePads x s).fleet = s.fleet ∧ (issuePads x s).notices = s.notices := by
  simp [issuePads]

theorem noticed_issueStage (s : State) : Noticed s (issueStage s) := by
  unfold issueStage
  split
  · exact .refl s
  next x _ =>
    obtain ⟨hfleet, hnotices⟩ := issuePads_fleet_notices x s
    exact (noticed_sweepEnd _).before (by simpa [completeSweep] using hfleet) (by simpa [completeSweep] using hnotices)

theorem noticed_startWaiting (s : State) : Noticed s (startWaiting s) := by
  unfold startWaiting
  split
  · exact noticed_startSweep s
  · exact .refl s

theorem noticed_passEnd (s : State) : Noticed s (passEnd s) := by
  unfold passEnd
  split
  · split
    · exact (noticed_activate true s).trans (noticed_startWaiting _)
    · exact (noticed_startWaiting _).before (by simp) (by simp)
  · exact .refl s

theorem noticed_timerExpiry (s : State) : Noticed s (timerExpiry s) := by
  unfold timerExpiry
  dsimp only
  split
  · split
    · exact .of_eq rfl rfl
    · exact (noticed_startSweep (startTimer s)).before rfl rfl
  · exact .refl s

theorem noticed_turnStale (g : GroupId) (s : State) : Noticed s (turnStale g s) := by
  unfold turnStale
  split
  · have hcapacity (t : State) : Noticed t (recompute g t) := .of_eq (recompute_fleet t g) (recompute_notices t g)
    exact ((noticed_raise _ _).trans (hcapacity _)).before rfl rfl
  · exact .refl s

theorem noticed_afterDispatch (p : PadId) (n : Nat) (s : State) : Noticed s (afterDispatch p n s) := by
  unfold afterDispatch
  split
  · exact noticed_completionCheck p s
  · exact noticed_completionCheck p s
  · split
    · exact .of_eq rfl rfl
    · exact noticed_raise _ s
  · exact .refl s

theorem noticed_modeActs (h : ModeActs s t) : Noticed s t := by
  cases h with
  | nothing => exact .refl s
  | halts => exact noticed_enterHalted s
  | resumes => exact noticed_enterDiscovering s
  | resolves => exact .of_eq rfl rfl
  | holds => exact .of_eq rfl rfl
  | scopes => exact .of_eq (by simp) (by simp)

end

/-! ## What the owners do to the port and the unit -/

/-- What a request leaves of the Fleet Line Port: the receive queue and the frame in transmission, and the
responses; a waiting NOTICE may have been called for or withdrawn. -/
theorem OwnerActs.port {s t : State} (h : OwnerActs s t) :
    t.fleet = { s.fleet with tx := t.fleet.tx, restartWaiting := t.fleet.restartWaiting }
      ∧ t.fleet.tx.filter (fun x => !x.isNotice) = s.fleet.tx.filter fun x => !x.isNotice := by
  have hquiet {u : State} (hn : Noticed s u) :
      u.fleet = { s.fleet with tx := u.fleet.tx, restartWaiting := u.fleet.restartWaiting }
        ∧ u.fleet.tx.filter (fun x => !x.isNotice) = s.fleet.tx.filter fun x => !x.isNotice := by
    refine ⟨?_, hn.responses⟩
    rw [hn.fleet]
  have hwithdraw (v : State) : (withdrawNotice v).fleet =
        { v.fleet with tx := (withdrawNotice v).fleet.tx, restartWaiting := (withdrawNotice v).fleet.restartWaiting }
      ∧ (withdrawNotice v).fleet.tx.filter (fun x => !x.isNotice) = v.fleet.tx.filter fun x => !x.isNotice := by
    rw [withdrawNotice_fleet]
    split <;> simp [List.filter_filter]
  cases h with
  | nothing => exact hquiet (.refl s)
  | dispatches p d => exact hquiet ((noticed_afterDispatch _ _ _).before rfl rfl)
  | clearsInput i =>
    exact hquiet (.of_eq (reformOwner_fleet_notices i _).1 (reformOwner_fleet_notices i _).2)
  | setsMode t h => exact hquiet ((noticed_modeActs h).after_eq rfl rfl)
  | restarts => exact ⟨rfl, rfl⟩
  | takesCapture => exact ⟨rfl, rfl⟩
  | acknowledges set => exact hwithdraw _
  | masks set =>
    split
    · exact hwithdraw _
    · obtain ⟨hfleet, hfilter⟩ := hwithdraw (callNotice (s.withNotices { s.notices with mask := set }))
      have hcall : (callNotice (s.withNotices { s.notices with mask := set })).fleet.tx.filter
          (fun x => !x.isNotice) = s.fleet.tx.filter fun x => !x.isNotice := by
        rw [callNotice_tx]
        split <;> simp [TxItem.isNotice]
      refine ⟨?_, hfilter.trans hcall⟩
      rw [hfleet, callNotice_fleet]
      rfl
  | _ => exact hquiet (.of_eq (by simp) (by simp))

theorem TakenActs.port {s t : State} (h : TakenActs s t) :
    t.fleet = { s.fleet with tx := t.fleet.tx, restartWaiting := t.fleet.restartWaiting }
      ∧ t.fleet.tx.filter (fun x => !x.isNotice) = s.fleet.tx.filter fun x => !x.isNotice := by
  cases h with
  | acts h => exact h.port
  | beginsCheck => exact ⟨rfl, rfl⟩

/-- Settles O7: every owner's answer is fair, and leaves the responses and the receive queue (R153, R155). -/
theorem takenRequestReceivesOneResponse : Obligations.TakenRequestReceivesOneResponse := by
  unfold Obligations.TakenRequestReceivesOneResponse
  intro c f rest s hc ht
  refine ⟨_, exec_next hc ht, ?_⟩
  have hfair := ownerOf_fair (s := s.taking rest) hc
  obtain ⟨hfleet, hresponses⟩ := hfair.acts.port
  have hrx : (ownerOf c (s.taking rest)).state.fleet.rx = rest := by rw [hfleet]; rfl
  generalize ownerOf c (s.taking rest) = a at hfair hfleet hresponses hrx
  obtain ⟨kind, tag, body⟩ := f
  cases hfair with
  | refuses _ code _ => exact ⟨rfl, .inl ⟨code.byte, [], by simp [respond, TxItem.isNotice]⟩⟩
  | accepts _ t clamped data _ =>
    refine ⟨hrx, .inl ⟨(if clamped then ResultCode.okClamped else .ok).byte, data, ?_⟩⟩
    simp [respond, TxItem.isNotice]
    exact hresponses
  | defers w tag => exact ⟨rfl, .inr ⟨rfl, rfl, rfl⟩⟩

end Sys2Proof.Machine

/-! PROOFS. What may happen to one pad: the invariants of the sessions pad by pad, a handling of its own session,
and the fall of its figures by the decrease path or their rise by an increase release; and the limits of R81 as one
Boolean of the state. -/

namespace Sys2Proof.Machine

/-! ## The invariants of the sessions, pad by pad -/

/-- The six invariants of the sessions for one pad, whose active record is enabled or not (R5, R25, R31, R56, R73,
R75, R112). -/
structure Pad.Sound (enabled : Bool) (q : Pad) : Prop where
  ordered : q.sent ≤ q.grant
  settled : q.decPending = false → q.prior = 0
  matched : q.state = .disabled ↔ enabled = false
  powered : 0 < q.grant ↔ q.state = .charging
  served : q.stayed = true → q.state.served = true
  faulty : q.fault.isSome = true ↔ q.state = .faulted
  energy : q.dispatch = none → q.delivered = 0 ∧ q.remaining = 0

theorem sessionsSound_iff (s : State) :
    SessionsSound s ↔ ∀ p : PadId, (s.pads[p]).Sound (s.padRec p).enabled := by
  constructor
  · rintro ⟨hordered, hmatched, hpowered, hserved, hfaulty, henergy⟩ p
    exact ⟨(hordered p).1, (hordered p).2, hmatched p, hpowered p, hserved p, hfaulty p, henergy p⟩
  · intro h
    exact ⟨fun p => ⟨(h p).ordered, (h p).settled⟩, fun p => (h p).matched, fun p => (h p).powered,
      fun p => (h p).served, fun p => (h p).faulty, fun p => (h p).energy⟩

/-- A pad that holds no power and no reservation (R88). -/
structure Pad.Idle (q : Pad) : Prop where
  grant : q.grant = 0
  sent : q.sent = 0
  prior : q.prior = 0
  decPending : q.decPending = false
  reservation : q.reservation = 0

/-- A session outside CHARGING holds no grant (R75). -/
theorem Pad.Sound.grant_eq_zero {e : Bool} {q : Pad} (h : q.Sound e) (hstate : q.state ≠ .charging) :
    q.grant = 0 :=
  Nat.eq_zero_of_not_pos fun hpos => hstate (h.powered.mp hpos)

theorem Pad.Sound.enabled {e : Bool} {q : Pad} (h : q.Sound e) (hstate : q.state ≠ .disabled) : e = true := by
  cases e with
  | true => rfl
  | false => exact absurd (h.matched.mpr rfl) hstate

/-! ## What may become of a pad -/

/-- From `q` to `t` a pad's session has been handled: its invariants are kept, an idle pad stays idle, no grant has
risen, and a pad that keeps a grant has stayed in WAITING and CHARGING. -/
structure Pad.Move (q t : Pad) : Prop where
  sound : ∀ e : Bool, q.Sound e → t.Sound e
  idle : q.Idle → t.Idle
  grant : t.grant ≤ q.grant
  stays : ∀ e : Bool, q.Sound e → 0 < t.grant → q.stayed = true → t.stayed = true

theorem Pad.Move.refl (q : Pad) : q.Move q := ⟨fun _ => id, id, le_rfl, fun _ _ _ => id⟩

theorem Pad.Move.trans {q r t : Pad} (h : q.Move r) (h' : r.Move t) : q.Move t where
  sound e := h'.sound e ∘ h.sound e
  idle := h'.idle ∘ h.idle
  grant := h'.grant.trans h.grant
  stays e hq hpos hstay := h'.stays e (h.sound e hq) hpos (h.stays e hq (hpos.trans_le h'.grant) hstay)

/-- From `q` to `t` the figures of a pad have fallen by the decrease path, or its sent setpoint has risen to its
grant by an increase release; nothing else has changed (R76, R79). -/
structure Pad.Fall (q t : Pad) : Prop where
  rest : t = { q with
    state := t.state, grant := t.grant, sent := t.sent, prior := t.prior, decPending := t.decPending }
  state : t.state = q.state ∨ (q.state.served = true ∧ t.state = .waiting ∧ t.grant = 0)
  pending : q.decPending = true → t.decPending = true
  sound : ∀ e : Bool, q.Sound e → t.Sound e
  idle : q.Idle → t.Idle
  grant : t.grant ≤ q.grant

section
variable {q r t : Pad}

theorem Pad.Fall.refl (q : Pad) : q.Fall q := ⟨rfl, .inl rfl, id, fun _ => id, id, le_rfl⟩

theorem Pad.Fall.reservation (h : q.Fall t) : t.reservation = q.reservation := by rw [h.rest]

theorem Pad.Fall.stayed (h : q.Fall t) : t.stayed = q.stayed := by rw [h.rest]

theorem Pad.Fall.trans (h : q.Fall r) (h' : r.Fall t) : q.Fall t where
  rest := by rw [h'.rest, h.rest]
  state := by
    rcases h'.state with hs | ⟨hr, hw, hz⟩
    · rcases h.state with hs' | ⟨hq, hw, hz⟩
      · exact .inl (hs.trans hs')
      · exact .inr ⟨hq, hs.trans hw, Nat.le_zero.mp (hz ▸ h'.grant)⟩
    · rcases h.state with hs' | ⟨hq, -, -⟩
      · exact .inr ⟨hs' ▸ hr, hw, hz⟩
      · exact .inr ⟨hq, hw, hz⟩
  pending := h'.pending ∘ h.pending
  sound e := h'.sound e ∘ h.sound e
  idle := h'.idle ∘ h.idle
  grant := h'.grant.trans h.grant

theorem Pad.Fall.move (h : q.Fall t) : q.Move t where
  sound := h.sound
  idle := h.idle
  grant := h.grant
  stays := fun _ _ _ hstay => by rw [h.stayed, hstay]

/-- The figures of the decrease path (R76), one by one. -/
theorem Pad.lower_eq (v : Nat) (q : Pad) : q.lower v =
    { q with
      state := if v = 0 ∧ q.state.served = true then .waiting else q.state
      grant := v, sent := min v q.sent
      decPending := q.decPending || decide (v < q.sent)
      prior := if v < q.sent then (if q.decPending then max q.prior q.sent else q.sent) else q.prior } := by
  unfold Pad.lower Pad.setState
  by_cases hz : v = 0 ∧ q.state.served = true
  · obtain ⟨rfl, hserved⟩ := hz
    have hwaiting : SessionState.waiting.served = true := rfl
    by_cases hlt : 0 < q.sent
    · simp [hlt, hserved, hwaiting]
    · have hsent : q.sent = 0 := by omega
      simp [hsent, hserved, hwaiting]
  · by_cases hlt : v < q.sent
    · have hmin : min v q.sent = v := by omega
      simp [hlt, hz, hmin]
    · have hmin : min v q.sent = q.sent := by omega
      simp [hlt, hz, hmin]

theorem Pad.fall_lower {v : Nat} (q : Pad) (hv : v ≤ q.grant) : q.Fall (q.lower v) where
  rest := by rw [Pad.lower_eq]
  state := by
    rw [Pad.lower_state, Pad.lower_grant]
    split
    next h => exact .inr ⟨h.2, rfl, h.1⟩
    next => exact .inl rfl
  pending := by
    rw [Pad.lower_eq]
    intro h
    simp [h]
  sound := by
    intro e h
    rw [Pad.lower_eq]
    have hcharging : ∀ x : SessionState, x = .charging → x.served = true := by rintro x rfl; rfl
    refine ⟨by simp, ?_, ?_, ?_, ?_, ?_, h.energy⟩
    · dsimp only
      intro hd
      simp only [Bool.or_eq_false_iff, decide_eq_false_iff_not] at hd
      rw [if_neg hd.2]
      exact h.settled hd.1
    · have hm := h.matched
      dsimp only
      split
      next hz =>
        have hne : q.state ≠ .disabled := by
          rintro hd
          simp [hd, SessionState.served] at hz
        simpa [hne] using hm
      next => exact hm
    · have hp := h.powered
      dsimp only
      split
      next hz => simp [hz.1]
      next hz =>
        constructor
        · intro hpos
          exact hp.mp (by omega)
        · intro hc
          exact Nat.pos_of_ne_zero fun h0 => hz ⟨h0, hcharging _ hc⟩
    · dsimp only
      intro hs
      split
      · rfl
      · exact h.served hs
    · have hf := h.faulty
      dsimp only
      split
      next hz =>
        have hne : q.state ≠ .faulted := by
          rintro hd
          simp [hd, SessionState.served] at hz
        simpa [hne] using hf
      next => exact hf
  idle := by
    intro h
    have hs := h.sent
    rw [Pad.lower_eq]
    exact ⟨Nat.le_zero.mp (h.grant ▸ hv), by simp [hs], by simp [hs, h.prior], by simp [hs, h.decPending], h.reservation⟩
  grant := by rwa [Pad.lower_grant]

/-- The sent setpoint rises to the grant (R79). -/
theorem Pad.fall_release (q : Pad) : q.Fall { q with sent := q.grant } where
  rest := rfl
  state := .inl rfl
  pending := id
  sound _ h := ⟨le_rfl, h.settled, h.matched, h.powered, h.served, h.faulty, h.energy⟩
  idle h := ⟨h.grant, h.grant, h.prior, h.decPending, h.reservation⟩
  grant := le_rfl

end

/-! ## The limits of R81 -/

/-- The sum over the pads is monotone. -/
theorem padSum_le {f g : PadId → Nat} (h : ∀ p : PadId, f p ≤ g p) : padSum f ≤ padSum g := by
  unfold padSum
  exact List.sum_le_sum fun p _ => h p

theorem padSum_eq_zero {f : PadId → Nat} (h : ∀ p : PadId, f p = 0) : padSum f = 0 := by
  simp [padSum, funext h, List.sum_eq_zero]

theorem groupNeedsShed_eq_true {s : State} {g : GroupId} : s.groupNeedsShed g = true ↔
    (s.feederRec g).enabled = true ∧ s.groupLimit g < s.groupTotal g
      ∧ ∃ p : PadId, s.inGroup g p = true ∧ 0 < s.pads[p].grant := by
  simp [State.groupNeedsShed, allPads, and_assoc]

theorem siteNeedsShed_eq_true {s : State} : s.siteNeedsShed = true ↔
    s.siteLimit < s.siteTotal ∧ ∃ p : PadId, 0 < s.pads[p].grant := by
  simp [State.siteNeedsShed, allPads]

theorem needsShed_eq_true {s : State} : s.needsShed = true ↔
    (∃ g : GroupId, s.groupNeedsShed g = true) ∨ s.siteNeedsShed = true := by
  simp [State.needsShed, allGroups]

theorem needsShed_eq_false {s : State} : s.needsShed = false ↔
    (∀ g : GroupId, s.groupNeedsShed g = false) ∧ s.siteNeedsShed = false := by
  simp [State.needsShed, allGroups]

/-- The limits hold exactly when, with no pass pending or running, nothing needs shedding (R81, R83). -/
theorem withinLimits_iff (s : State) :
    WithinLimits s ↔ (s.alloc.fastShed = .none → s.needsShed = false) := by
  unfold WithinLimits
  refine imp_congr_right fun _ => ?_
  rw [needsShed_eq_false]
  refine and_congr (forall_congr' fun g => ?_) ?_
  · rw [← Bool.not_eq_true, groupNeedsShed_eq_true]
    simp only [not_and, not_exists, Nat.not_lt, Nat.le_zero]
    refine imp_congr_right fun _ => ?_
    constructor
    · rintro (h | h) hlt p hp
      · omega
      · exact h p hp
    · intro h
      by_cases hle : s.groupTotal g ≤ s.groupLimit g
      · exact .inl hle
      · exact .inr fun p hp => h (by omega) p hp
  · rw [← Bool.not_eq_true, siteNeedsShed_eq_true]
    simp only [not_and, not_exists, Nat.not_lt, Nat.le_zero]
    constructor
    · rintro (h | h) hlt p
      · omega
      · exact h p
    · intro h
      by_cases hle : s.siteTotal ≤ s.siteLimit
      · exact .inl hle
      · exact .inr fun p => h (by omega) p

/-- With no grant nothing needs shedding. -/
theorem needsShed_of_no_grant {s : State} (h : ∀ p : PadId, s.pads[p].grant = 0) : s.needsShed = false := by
  rw [needsShed_eq_false]
  refine ⟨fun g => ?_, ?_⟩
  · rw [← Bool.not_eq_true, groupNeedsShed_eq_true]
    rintro ⟨-, -, p, -, hp⟩
    exact absurd (h p) (by omega)
  · rw [← Bool.not_eq_true, siteNeedsShed_eq_true]
    rintro ⟨-, p, hp⟩
    exact absurd (h p) (by omega)

theorem needsShed_false_of_le {s t : State} (hactive : t.tables.active = s.tables.active)
    (hpads : ∀ p : PadId, t.pads[p].grant ≤ s.pads[p].grant ∧ t.pads[p].reservation ≤ s.pads[p].reservation)
    (hcapacity : ∀ g : GroupId, s.groups[g].capacity ≤ t.groups[g].capacity) (h : s.needsShed = false) :
    t.needsShed = false := by
  have hfeeder (g : GroupId) : t.feederRec g = s.feederRec g := by simp only [State.feederRec, hactive]
  have hin (g : GroupId) (p : PadId) : t.inGroup g p = s.inGroup g p := by
    simp only [State.inGroup, State.padRec, hactive]
  have hlimit : t.siteLimit = s.siteLimit := by simp only [State.siteLimit, State.site, hactive]
  have hgroup (g : GroupId) : t.groupTotal g ≤ s.groupTotal g := by
    unfold State.groupTotal State.groupGrants State.groupReserved
    refine Nat.add_le_add (padSum_le fun p => ?_) (padSum_le fun p => ?_) <;> rw [hin] <;> split
    · exact (hpads p).1
    · exact le_rfl
    · exact (hpads p).2
    · exact le_rfl
  have hsite : t.siteTotal ≤ s.siteTotal :=
    Nat.add_le_add (padSum_le fun p => (hpads p).1) (padSum_le fun p => (hpads p).2)
  rw [needsShed_eq_false] at h ⊢
  refine ⟨fun g => ?_, ?_⟩
  · rw [← Bool.not_eq_true, groupNeedsShed_eq_true]
    rintro ⟨he, hlt, p, hp, hpos⟩
    have := h.1 g
    rw [← Bool.not_eq_true, groupNeedsShed_eq_true] at this
    have hc := hcapacity g
    refine this ⟨hfeeder g ▸ he, ?_, p, hin g p ▸ hp, hpos.trans_le (hpads p).1⟩
    have := hgroup g
    unfold State.groupLimit at hlt ⊢
    omega
  · rw [← Bool.not_eq_true, siteNeedsShed_eq_true]
    rintro ⟨hlt, p, hpos⟩
    have := h.2
    rw [← Bool.not_eq_true, siteNeedsShed_eq_true] at this
    exact this ⟨by omega, p, hpos.trans_le (hpads p).1⟩

/-- The limits are kept when no grant and no reservation rises, no capacity falls and the fast-shed state does not
return to NONE. -/
theorem WithinLimits.of_le {s t : State} (hactive : t.tables.active = s.tables.active)
    (hpads : ∀ p : PadId, t.pads[p].grant ≤ s.pads[p].grant ∧ t.pads[p].reservation ≤ s.pads[p].reservation)
    (hcapacity : ∀ g : GroupId, s.groups[g].capacity ≤ t.groups[g].capacity)
    (hshed : t.alloc.fastShed = .none → s.alloc.fastShed = .none) (h : WithinLimits s) : WithinLimits t := by
  rw [withinLimits_iff] at h ⊢
  exact fun hn => needsShed_false_of_le hactive hpads hcapacity (h (hshed hn))

end Sys2Proof.Machine

/-! PROOFS. The handling of a pad's session as one relation between two states: what the session's own pad may do, how
far the figures of the other pads may fall with it, and what it leaves alone. Its building blocks: the decrease path,
the increase release, the fast-shed check and the voltage monitor. -/

namespace Sys2Proof.Machine

/-! ## The relation -/

/-- Between `s` and `t` the session of pad `own` has been handled, or, with none, figures have fallen: its pad has
moved, every other pad's figures have at most fallen, pads have joined urgent lists at the tail, a group's voltage
state and capacity may have changed, and the fast-shed state, which rises only while some pad holds a grant.
Everything else but the free-value counter stands. -/
structure Calm (own : Option PadId) (s t : State) : Prop where
  time : t.time = s.time
  tables : t.tables = s.tables
  mode : t.mode = s.mode
  signals : t.signals = s.signals
  pending : t.pending = s.pending
  alloc : t.alloc = { s.alloc with fastShed := t.alloc.fastShed }
  groups : ∀ g : GroupId, t.groups[g] =
    { s.groups[g] with vstate := t.groups[g].vstate, capacity := t.groups[g].capacity }
  moves : ∀ p : PadId, own = some p → (s.pads[p]).Move t.pads[p]
  others : ∀ p : PadId, own ≠ some p → (s.pads[p]).Fall t.pads[p]
  lines : ∀ l : LineId, t.lines[l] = { s.lines[l] with urgent := t.lines[l].urgent }
  grows : ∀ l : LineId, s.lines[l].urgent <+: t.lines[l].urgent
  nodup : ∀ l : LineId, s.lines[l].urgent.Nodup → t.lines[l].urgent.Nodup
  joins : ∀ (l : LineId) (p : PadId), p ∈ t.lines[l].urgent →
    p ∈ s.lines[l].urgent ∨ own = some p ∨ t.pads[p].decPending = true
  atRest : s.alloc.fastShed = .none → (∀ p : PadId, s.pads[p].grant = 0) → t.alloc.fastShed = .none
  fresh : CapacityFresh s → CapacityFresh t
  noticed : Noticed s t

/-- A handling that keeps the limits of R81 besides, and starts no pass beside a sweep. -/
structure Quiet (own : Option PadId) (s t : State) : Prop extends Calm own s t where
  within : WithinLimits s → WithinLimits t
  beside : s.alloc.sweep.isSome = true → s.alloc.fastShed ≠ .running → t.alloc.fastShed ≠ .running

section
variable {own : Option PadId} {s t u : State}

theorem Calm.move (h : Calm own s t) (p : PadId) : (s.pads[p]).Move t.pads[p] := by
  by_cases hp : own = some p
  · exact h.moves p hp
  · exact (h.others p hp).move

theorem Calm.refl (own : Option PadId) (s : State) : Calm own s s where
  time := rfl
  tables := rfl
  mode := rfl
  signals := rfl
  pending := rfl
  alloc := rfl
  groups _ := rfl
  moves _ _ := .refl _
  others _ _ := .refl _
  lines _ := rfl
  grows _ := List.prefix_rfl
  nodup _ := id
  joins _ _ := .inl
  atRest h _ := h
  fresh := id
  noticed := .refl s

theorem Calm.trans (h : Calm own s t) (h' : Calm own t u) : Calm own s u where
  time := h'.time.trans h.time
  tables := h'.tables.trans h.tables
  mode := h'.mode.trans h.mode
  signals := h'.signals.trans h.signals
  pending := h'.pending.trans h.pending
  alloc := by rw [h'.alloc, h.alloc]
  groups g := by rw [h'.groups g, h.groups g]
  moves p hp := (h.moves p hp).trans (h'.moves p hp)
  others p hp := (h.others p hp).trans (h'.others p hp)
  lines l := by rw [h'.lines l, h.lines l]
  grows l := (h.grows l).trans (h'.grows l)
  nodup l := h'.nodup l ∘ h.nodup l
  joins l p hp := by
    rcases h'.joins l p hp with hp | hp | hp
    · by_cases hown : own = some p
      · exact .inr (.inl hown)
      · exact (h.joins l p hp).imp_right (Or.imp_right (h'.others p hown).pending)
    · exact .inr (.inl hp)
    · exact .inr (.inr hp)
  atRest hn hg := h'.atRest (h.atRest hn hg) fun p => Nat.le_zero.mp (hg p ▸ (h.move p).grant)
  fresh := h'.fresh ∘ h.fresh
  noticed := h.noticed.trans h'.noticed

/-- What touches no session is part of any session's handling. -/
theorem Calm.weaken (h : Calm none s t) (own : Option PadId) : Calm own s t :=
  { h with
    moves := fun p _ => (h.others p (by simp)).move
    others := fun p _ => h.others p (by simp)
    joins := fun l p hp => (h.joins l p hp).imp_right fun h => h.elim (by simp) .inr }

theorem Calm.sweep (h : Calm own s t) : t.alloc.sweep = s.alloc.sweep := by rw [h.alloc]

theorem Quiet.refl (own : Option PadId) (s : State) : Quiet own s s :=
  { Calm.refl own s with within := id, beside := fun _ h => h }

theorem Quiet.trans (h : Quiet own s t) (h' : Quiet own t u) : Quiet own s u :=
  { h.toCalm.trans h'.toCalm with
    within := h'.within ∘ h.within
    beside := fun hs hr => h'.beside (h.toCalm.sweep ▸ hs) (h.beside hs hr) }

theorem Quiet.weaken (h : Quiet none s t) (own : Option PadId) : Quiet own s t :=
  { h.toCalm.weaken own with within := h.within, beside := h.beside }

theorem Quiet.foldl {α : Type} {f : State → α → State} (h : ∀ (t : State) (a : α), Quiet own t (f t a))
    (l : List α) (s : State) : Quiet own s (l.foldl f s) := by
  induction l generalizing s with
  | nil => exact .refl own s
  | cons a l ih => exact (h s a).trans (ih _)

/-- A handling that raises no reservation, lowers no capacity and leaves the fast-shed state keeps the limits. -/
theorem Calm.quiet (h : Calm own s t)
    (hreserved : ∀ p : PadId, own = some p → t.pads[p].reservation ≤ s.pads[p].reservation)
    (hcapacity : ∀ g : GroupId, s.groups[g].capacity ≤ t.groups[g].capacity)
    (hshed : t.alloc.fastShed = s.alloc.fastShed) : Quiet own s t :=
  { h with
    beside := fun _ hr => by rwa [hshed]
    within := by
      refine WithinLimits.of_le (by rw [h.tables]) (fun p => ⟨(h.move p).grant, ?_⟩) hcapacity fun hn => by rwa [hshed] at hn
      by_cases hp : own = some p
      · exact hreserved p hp
      · exact ((h.others p hp).reservation).le }

/-- A step that changes pads alone. -/
theorem Calm.of_pads {v : Vector Pad 64} (hown : ∀ p : PadId, own = some p → (s.pads[p]).Move v[p])
    (hothers : ∀ p : PadId, own ≠ some p → (s.pads[p]).Fall v[p]) : Calm own s (s.withPads v) :=
  { Calm.refl own s with
    moves := hown
    others := hothers
    joins := fun _ _ => .inl
    noticed := .of_eq rfl rfl }

/-- A step that raises notices, and changes groups in their voltage states and capacities. -/
theorem Calm.of_groups (hnoticed : Noticed s t)
    (ht : t = { s with groups := t.groups, fleet := t.fleet, notices := t.notices })
    (hgroups : ∀ g : GroupId, t.groups[g] =
      { s.groups[g] with vstate := t.groups[g].vstate, capacity := t.groups[g].capacity })
    (hfresh : CapacityFresh s → CapacityFresh t) : Calm own s t := by
  have hpads : t.pads = s.pads := by rw [ht]
  have hlines : t.lines = s.lines := by rw [ht]
  have halloc : t.alloc = s.alloc := by rw [ht]
  exact
    { time := by rw [ht]
      tables := by rw [ht]
      mode := by rw [ht]
      signals := by rw [ht]
      pending := by rw [ht]
      alloc := by rw [halloc]
      groups := hgroups
      moves := fun p _ => by rw [hpads]; exact .refl _
      others := fun p _ => by rw [hpads]; exact .refl _
      lines := fun l => by rw [hlines]
      grows := fun l => by rw [hlines]
      nodup := fun l => by rw [hlines]; exact id
      joins := fun l p hp => .inl (by rwa [hlines] at hp)
      atRest := fun h _ => by rw [halloc, h]
      fresh := hfresh
      noticed := hnoticed }

theorem capacityFresh_iff_of_eq (hactive : t.tables.active = s.tables.active) (hgroups : t.groups = s.groups) :
    CapacityFresh t ↔ CapacityFresh s := by
  unfold CapacityFresh
  simp only [State.feederRec, hactive, hgroups]

/-- A step that raises notices alone. -/
theorem Calm.of_noticed (hnoticed : Noticed s t) (ht : t = { s with fleet := t.fleet, notices := t.notices }) :
    Calm own s t := by
  have hgroups : t.groups = s.groups := by rw [ht]
  refine Calm.of_groups hnoticed (by rw [hgroups]; exact ht) (fun g => by rw [hgroups]) ?_
  exact (capacityFresh_iff_of_eq (by rw [ht]) hgroups).mpr

/-- One pad changed in the handling of its own session. -/
theorem calm_updPad (p : PadId) (f : Pad → Pad) (s : State) (h : (s.pads[p]).Move (f s.pads[p])) :
    Calm (some p) s (s.updPad p f) := by
  refine Calm.of_pads (fun q hq => ?_) fun q hq => ?_
  · obtain rfl : p = q := by simpa using hq
    simpa using h
  · have hne : p.val ≠ q.val := fun e => hq (congrArg some (Fin.ext e))
    simp only [Fin.getElem_fin, Vector.getElem_set_ne _ _ hne]
    exact .refl _

theorem quiet_updPad (p : PadId) (f : Pad → Pad) (s : State) (h : (s.pads[p]).Move (f s.pads[p]))
    (hreserved : (f s.pads[p]).reservation ≤ (s.pads[p]).reservation) : Quiet (some p) s (s.updPad p f) :=
  (calm_updPad p f s h).quiet
    (fun q hq => by
      obtain rfl : p = q := by simpa using hq
      simpa using hreserved)
    (fun _ => le_rfl) rfl

theorem quiet_of_noticed (hnoticed : Noticed s t) (ht : t = { s with fleet := t.fleet, notices := t.notices }) :
    Quiet own s t :=
  (Calm.of_noticed hnoticed ht).quiet (fun p _ => by rw [ht]) (fun g => by rw [ht]) (by rw [ht])

theorem raise_eq (k : Notice) (s : State) :
    raise k s = { s with fleet := (raise k s).fleet, notices := (raise k s).notices } := by
  unfold raise callNotice
  split
  · rfl
  · dsimp only
    (repeat' split) <;> rfl

theorem captureEvent_eq (p : PadId) (x : CaptureSource) (c : Byte) (w : Nat) (s : State) :
    captureEvent p x c w s =
      { s with fleet := (captureEvent p x c w s).fleet, notices := (captureEvent p x c w s).notices } := by
  unfold captureEvent
  dsimp only
  split
  · rfl
  · rw [raise_eq]
    rfl

theorem quiet_raise (k : Notice) (s : State) : Quiet own s (raise k s) :=
  quiet_of_noticed (noticed_raise k s) (raise_eq k s)

theorem quiet_raiseIf (b : Bool) (k : Notice) (s : State) : Quiet own s (raiseIf b k s) := by
  cases b
  · exact .refl own s
  · exact quiet_raise k s

theorem quiet_captureEvent (p : PadId) (x : CaptureSource) (c : Byte) (w : Nat) (s : State) :
    Quiet own s (captureEvent p x c w s) :=
  quiet_of_noticed (noticed_captureEvent p x c w s) (captureEvent_eq p x c w s)

end

/-! ## The decrease path and the increase release -/

/-- The decrease path touches one urgent list of the lines (R76, R139). -/
theorem decrease_line (p : PadId) (v : Nat) (s : State) (l : LineId) :
    (decrease p v s).lines[l.val] = { s.lines[l.val] with urgent := (decrease p v s).lines[l.val].urgent } := by
  unfold decrease joinUrgent
  dsimp only
  split
  · rw [State.updLine_get]
    split
    · split <;> rfl
    · rfl
  · rfl

theorem quiet_decrease (p : PadId) (v : Nat) (s : State) (hv : v ≤ s.pads[p].grant) :
    Quiet none s (decrease p v s) := by
  have hfall (q : PadId) : (s.pads[q]).Fall (decrease p v s).pads[q] := by
    simp only [Fin.getElem_fin, decrease_get]
    split
    next h => subst h; exact Pad.fall_lower _ hv
    next => exact .refl _
  refine Calm.quiet ?_ (by simp) (fun g => by simp) (by simp)
  exact
    { time := by simp
      tables := by simp
      mode := by simp
      signals := by simp
      pending := by simp
      alloc := by simp
      groups := fun g => by simp
      moves := by simp
      others := fun q _ => hfall q
      lines := fun l => decrease_line p v s l
      grows := fun l => by
        simp only [Fin.getElem_fin, decrease_urgent]
        split
        · exact List.prefix_append _ _
        · exact List.prefix_rfl
      nodup := fun l hl => by
        simp only [Fin.getElem_fin, decrease_urgent]
        split
        next h => exact List.nodup_append.mpr ⟨hl, by simp, by
          rintro a ha b hb rfl
          obtain rfl : a = p := by simpa using hb
          exact h.2.2 ha⟩
        next => exact hl
      joins := fun l q hq => by
        simp only [Fin.getElem_fin, decrease_urgent] at hq
        split at hq
        next h =>
          rcases List.mem_append.mp hq with hq | hq
          · exact .inl hq
          · obtain rfl : q = p := by simpa using hq
            simp [decrease_get, Pad.lower_eq, h.1]
        next => exact .inl hq
      atRest := fun h _ => by simpa using h
      fresh := fun h g => by
        have := h g
        simp only [State.feederRec, decrease_tables, decrease_groups] at this ⊢
        exact this
      noticed := .of_eq (by simp) (by simp) }

theorem quiet_increaseRelease (s : State) : Quiet none s (increaseRelease s) := by
  unfold increaseRelease
  split
  · exact .refl none s
  · refine (Calm.of_pads (by simp) fun p _ => ?_).quiet (by simp) (fun _ => le_rfl) rfl
    simp only [Fin.getElem_fin, tabulate_get]
    split
    · exact Pad.fall_release _
    · exact .refl _

/-! ## The fast-shed pass and check (R81 to R83) -/

theorem roundStep_le (res : Resolution) (step vmin v : Nat) : roundStep res step vmin v ≤ v := by
  cases res with
  | fine => exact le_rfl
  | stepped =>
    have := Nat.div_mul_le_self v step
    unfold roundStep
    dsimp only
    split <;> omega

theorem roundTier_le (res : Resolution) (step : Nat) (tiers : List Nat) (v : Nat) :
    roundTier res step tiers v ≤ v := by
  unfold roundTier
  split
  · exact le_rfl
  · cases hm : (tiers.filter fun t => decide (t ≤ v) && (res == .fine || t % step == 0)).max? with
    | none => simp
    | some t =>
      have ht := List.max?_mem hm
      simp only [List.mem_filter, Bool.and_eq_true, decide_eq_true_eq] at ht
      exact ht.2.1

theorem roundGrant_le (res : Resolution) (step : Nat) (c : Capability) (v : Nat) :
    roundGrant res step c v ≤ v :=
  (roundTier_le _ _ _ _).trans (roundStep_le _ _ _ _)

/-- What a pass leaves a pad is at most its grant less the excess (R82). -/
theorem shedTo_le (s : State) (p : PadId) (excess : Nat) : shedTo s p excess ≤ s.pads[p].grant - excess := by
  unfold shedTo
  split
  · omega
  · dsimp only
    split
    · omega
    · exact roundGrant_le _ _ _ _

theorem quiet_shedPad (total limit : State → Nat) (mine : State → PadId → Bool) (s : State) (p : PadId) :
    Quiet none s (shedPad total limit mine s p) := by
  unfold shedPad
  split
  · exact quiet_decrease _ _ _ ((shedTo_le _ _ _).trans (Nat.sub_le _ _))
  · exact .refl none s

theorem quiet_walk (total limit : State → Nat) (mine : State → PadId → Bool) (s : State) :
    Quiet none s (walk total limit mine s) :=
  Quiet.foldl (fun t p => quiet_shedPad total limit mine t p) _ s

theorem quiet_groupWalk (s : State) (g : GroupId) : Quiet none s (groupWalk s g) := by
  unfold groupWalk
  split
  · exact quiet_walk _ _ _ s
  · exact .refl none s

theorem quiet_siteWalk (s : State) : Quiet none s (siteWalk s) := by
  unfold siteWalk
  split
  · exact quiet_walk _ _ _ s
  · exact .refl none s

theorem calm_startPass (s : State) : Calm none (s.setFastShed .running) (startPass s) :=
  ((Quiet.foldl quiet_groupWalk allGroups _).trans (quiet_siteWalk _)).toCalm

/-- A change of the fast-shed state with what follows it, where it respects a pass's occasion. -/
theorem Calm.of_setFastShed {own : Option PadId} {s t : State} {x : FastShed} (h : Calm own (s.setFastShed x) t)
    (hrest : s.alloc.fastShed = .none → (∀ p : PadId, s.pads[p].grant = 0) → t.alloc.fastShed = .none) :
    Calm own s t where
  time := h.time
  tables := h.tables
  mode := h.mode
  signals := h.signals
  pending := h.pending
  alloc := by rw [h.alloc]; rfl
  groups := h.groups
  moves := h.moves
  others := h.others
  lines := h.lines
  grows := h.grows
  nodup := h.nodup
  joins := h.joins
  atRest := hrest
  fresh := h.fresh
  noticed := h.noticed.before rfl rfl

theorem calm_fastShedCheck (s : State) : Calm none s (fastShedCheck s) := by
  have hsome : s.needsShed = true → ¬ ∀ p : PadId, s.pads[p].grant = 0 := fun h h0 => by
    simp [needsShed_of_no_grant h0] at h
  unfold fastShedCheck
  split
  · exact .refl none s
  · split
    next hneeds =>
      split
      · exact (Calm.refl none (s.setFastShed .pending)).of_setFastShed fun _ h => absurd h (hsome hneeds)
      · exact (calm_startPass s).of_setFastShed fun _ h => absurd h (hsome hneeds)
    · split
      · exact (quiet_increaseRelease _).toCalm.of_setFastShed fun _ _ => by simp [State.setFastShed]
      · exact .refl none s

/-- The check at a pass's end, as the fast-shed check but that it ends the pass (R84). -/
theorem calm_checkAtPassEnd (s : State) : Calm none s (checkAtPassEnd s) := by
  unfold checkAtPassEnd
  split
  next hneeds =>
    exact (calm_startPass s).of_setFastShed fun _ h => by simp [needsShed_of_no_grant h] at hneeds
  · exact (quiet_increaseRelease _).toCalm.of_setFastShed fun _ _ => by simp [State.setFastShed]

/-- The fast-shed check starts no pass during a sweep (R81). -/
theorem fastShedCheck_beside {s : State} (hs : s.alloc.sweep.isSome = true) (hr : s.alloc.fastShed ≠ .running) :
    (fastShedCheck s).alloc.fastShed ≠ .running := by
  unfold fastShedCheck
  rw [if_neg hr, if_pos hs]
  (repeat' split) <;> simp [State.setFastShed, hr]

/-- The increase release changes neither a grant nor a limit. -/
theorem needsShed_increaseRelease {s : State} (h : s.needsShed = false) :
    (increaseRelease s).needsShed = false := by
  refine needsShed_false_of_le (by simp) (fun p => ?_) (fun g => by simp) h
  simp only [Fin.getElem_fin, increaseRelease_get]
  split <;> exact ⟨le_rfl, le_rfl⟩

/-- After a fast-shed check the limits hold, whatever went before (R81). -/
theorem withinLimits_fastShedCheck (s : State) : WithinLimits (fastShedCheck s) := by
  rw [withinLimits_iff]
  unfold fastShedCheck
  split
  next h => simp [h]
  · split
    · split <;> simp [State.setFastShed]
    next hneeds =>
      have hclear : s.needsShed = false := by simpa using hneeds
      split
      · exact fun _ => needsShed_increaseRelease hclear
      · exact fun _ => hclear

theorem withinLimits_checkAtPassEnd (s : State) : WithinLimits (checkAtPassEnd s) := by
  rw [withinLimits_iff]
  unfold checkAtPassEnd
  split
  · simp
  next hneeds =>
    have hclear : (s.setFastShed .none).needsShed = false := Bool.eq_false_iff.mpr hneeds
    exact fun _ => needsShed_increaseRelease hclear

/-- What ends with a fast-shed check keeps the limits, whatever went before. -/
theorem Calm.check {own : Option PadId} {s t : State} (h : Calm own s t)
    (hbeside : s.alloc.sweep.isSome = true → s.alloc.fastShed ≠ .running → t.alloc.fastShed ≠ .running) :
    Quiet own s (fastShedCheck t) :=
  { h.trans ((calm_fastShedCheck t).weaken own) with
    within := fun _ => withinLimits_fastShedCheck t
    beside := fun hs hr => fastShedCheck_beside (h.sweep ▸ hs) (hbeside hs hr) }

theorem quiet_fastShedCheck (s : State) : Quiet none s (fastShedCheck s) := (Calm.refl none s).check fun _ h => h

/-! ## Capacities and the voltage monitor (R92, R98 to R104) -/

theorem storeCapacity_get (g h : GroupId) (s : State) : (storeCapacity g s).groups[h.val] =
    if g = h then { s.groups[h.val] with capacity := capacityOf (s.feederRec h) s.groups[h.val] }
    else s.groups[h.val] := by
  unfold storeCapacity
  rw [State.updGroup_get]
  split
  next h => subst h; rfl
  next => rfl

@[simp] theorem capacityOf_capacity (r : FeederRec) (x : Group) (n : Nat) :
    capacityOf r { x with capacity := n } = capacityOf r x := rfl

theorem calm_storeCapacity (g : GroupId) (s : State) : Calm none s (storeCapacity g s) := by
  have hget := storeCapacity_get g (s := s)
  refine Calm.of_groups (.of_eq rfl rfl) rfl (fun h => ?_) fun hfresh h => ?_ <;> simp only [Fin.getElem_fin, hget]
  · split <;> rfl
  · split
    · rfl
    · exact hfresh h

/-- A recomputed capacity, with the check that a fall makes, touches no session (R92). -/
theorem quiet_recompute (g : GroupId) (s : State) : Quiet none s (recompute g s) := by
  unfold recompute
  split
  · exact (calm_storeCapacity g s).check (by simp)
  next hle =>
    refine (calm_storeCapacity g s).quiet (by simp) (fun h => ?_) (by simp)
    simp only [Fin.getElem_fin, storeCapacity_get]
    split
    next hg => subst hg; simpa using hle
    next => exact le_rfl

/-! ### The evaluation of a group -/

theorem moveVoltage_get (g h : GroupId) (s : State) : (moveVoltage g s).groups[h.val] =
    { s.groups[h.val] with vstate := (moveVoltage g s).groups[h.val].vstate } := by
  unfold moveVoltage
  split
  · rfl
  · simp only [raiseAll_groups, State.updGroup_get]
    split <;> rfl

theorem moveVoltage_other (g h : GroupId) (s : State) (hne : g ≠ h) :
    (moveVoltage g s).groups[h.val] = s.groups[h.val] := by
  unfold moveVoltage
  split
  · rfl
  · simp only [raiseAll_groups, State.updGroup_get, if_neg hne]

theorem moveVoltage_eq (g : GroupId) (s : State) : moveVoltage g s =
    { s with
      groups := (moveVoltage g s).groups, fleet := (moveVoltage g s).fleet, notices := (moveVoltage g s).notices } := by
  have hall (ks : List Notice) (t : State) :
      raiseAll ks t = { t with fleet := (raiseAll ks t).fleet, notices := (raiseAll ks t).notices } := by
    induction ks generalizing t with
    | nil => rfl
    | cons k ks ih =>
      change raiseAll ks (raise k t) = { t with
        fleet := (raiseAll ks (raise k t)).fleet, notices := (raiseAll ks (raise k t)).notices }
      rw [ih, raise_eq]
  unfold moveVoltage
  split
  · rfl
  · dsimp only
    rw [hall]
    rfl

/-- The capacity of R91 depends on the voltage state only in whether it is SHED. -/
theorem capacityOf_vstate (r : FeederRec) (x : Group) (v : VoltageState) (h : (v == .shed) = (x.vstate == .shed)) :
    capacityOf r { x with vstate := v } = capacityOf r x := by
  unfold capacityOf Group.shedActive
  dsimp only
  rw [h]

/-- An evaluation that neither enters nor leaves SHED. -/
theorem quiet_moveVoltage (g : GroupId) (s : State)
    (h : ((moveVoltage g s).groups[g.val].vstate == .shed) = (s.groups[g.val].vstate == .shed)) :
    Quiet none s (moveVoltage g s) := by
  have hcapacity (k : GroupId) : (moveVoltage g s).groups[k.val].capacity = s.groups[k.val].capacity := by
    rw [moveVoltage_get]
  refine (Calm.of_groups (noticed_moveVoltage g s) (moveVoltage_eq g s) (fun k => ?_) fun hfresh k => ?_).quiet
    (by simp) (fun k => (hcapacity k).ge) (by simp)
  · simp only [Fin.getElem_fin]
    rw [moveVoltage_get]
  · have hk := hfresh k
    simp only [Fin.getElem_fin, State.feederRec, moveVoltage_tables] at hk ⊢
    rw [hcapacity, hk]
    by_cases hg : g = k
    · subst hg
      rw [moveVoltage_get, capacityOf_vstate _ _ _ h]
    · rw [moveVoltage_other g k s hg]

theorem calm_moveVoltage_storeCapacity (g : GroupId) (s : State) :
    Calm none s (storeCapacity g (moveVoltage g s)) := by
  refine Calm.of_groups ((noticed_moveVoltage g s).after_eq rfl rfl) (by rw [moveVoltage_eq]; rfl)
    (fun k => ?_) fun hfresh k => ?_ <;> simp only [Fin.getElem_fin, storeCapacity_get]
  · split <;> rw [moveVoltage_get]
  · split
    · rfl
    next hne =>
      have hk := hfresh k
      simp only [Fin.getElem_fin, State.feederRec, storeCapacity_tables, moveVoltage_tables] at hk ⊢
      rw [moveVoltage_other g k s hne, hk]

/-- An evaluation of a group touches no session (R92, R100, R104). -/
theorem quiet_evaluateVoltage (g : GroupId) (s : State) : Quiet none s (evaluateVoltage g s) := by
  have hstored := calm_moveVoltage_storeCapacity g s
  unfold evaluateVoltage
  dsimp only
  split
  next h => exact quiet_moveVoltage g s (by simpa using h)
  · unfold recompute
    split
    · exact hstored.check (by simp)
    next hle =>
      refine hstored.quiet (by simp) (fun k => ?_) (by simp)
      simp only [Fin.getElem_fin, storeCapacity_get]
      have hcapacity (k : GroupId) : (moveVoltage g s).groups[k.val].capacity = s.groups[k.val].capacity := by
        rw [moveVoltage_get]
      split
      next hg =>
        subst hg
        rw [← hcapacity]
        simpa using hle
      next => exact (hcapacity k).ge

end Sys2Proof.Machine

/-! PROOFS. The handling of replies, failed transactions and dispatches: each touches the session of its own pad, and
keeps the limits of R81. -/

namespace Sys2Proof.Machine

/-! ## Moves of a session -/

/-- A pad whose state and figures stand, and whose record changes otherwise. -/
theorem Pad.Move.of_record {q t : Pad} (hstate : t.state = q.state) (hgrant : t.grant = q.grant)
    (hsent : t.sent = q.sent) (hprior : t.prior = q.prior) (hpending : t.decPending = q.decPending)
    (hreservation : t.reservation = q.reservation) (hstayed : t.stayed = q.stayed)
    (hfault : t.fault.isSome = q.fault.isSome)
    (henergy : (q.dispatch = none → q.delivered = 0 ∧ q.remaining = 0) →
      t.dispatch = none → t.delivered = 0 ∧ t.remaining = 0) : q.Move t where
  sound e h :=
    { ordered := hsent ▸ hgrant ▸ h.ordered
      settled := hprior ▸ hpending ▸ h.settled
      matched := hstate ▸ h.matched
      powered := hstate ▸ hgrant ▸ h.powered
      served := hstate ▸ hstayed ▸ h.served
      faulty := by rw [hfault, hstate]; exact h.faulty
      energy := henergy h.energy }
  idle h := ⟨hgrant.trans h.grant, hsent.trans h.sent, hprior.trans h.prior, hpending.trans h.decPending,
    hreservation.trans h.reservation⟩
  grant := hgrant.le
  stays _ _ _ h := hstayed.trans h

/-- A session that enters a state other than DISABLED and CHARGING: with its figures cleared, or from a state without
a grant. -/
theorem Pad.Move.of_entry {q t : Pad} (hfrom : q.state ≠ .disabled)
    (hto : t.state ≠ .disabled ∧ t.state ≠ .charging)
    (hfigures : (t.grant = 0 ∧ t.sent = 0) ∨ (t.grant = q.grant ∧ t.sent = q.sent ∧ q.state ≠ .charging))
    (hprior : (t.prior = 0 ∧ t.decPending = false) ∨ (t.prior = q.prior ∧ t.decPending = q.decPending))
    (hreservation : q.Idle → t.reservation = 0) 
    (hstayed : (q.stayed = true → q.state.served = true) → t.stayed = true → t.state.served = true)
    (hfault : (q.fault.isSome = true ↔ q.state = .faulted) → (t.fault.isSome = true ↔ t.state = .faulted))
    (henergy : (q.dispatch = none → q.delivered = 0 ∧ q.remaining = 0) →
      t.dispatch = none → t.delivered = 0 ∧ t.remaining = 0) : q.Move t := by
  have hgrant {e : Bool} (h : q.Sound e) : t.grant = 0 := by
    rcases hfigures with ⟨hg, -⟩ | ⟨hg, -, hc⟩
    · exact hg
    · exact hg.trans (h.grant_eq_zero hc)
  refine ⟨fun e h => ?_, fun h => ?_, ?_, fun e h hpos => absurd (hgrant h) hpos.ne'⟩
  · have he := h.enabled hfrom
    refine ⟨?_, ?_, by simp [hto.1, he], by simp [hgrant h, hto.2], hstayed h.served, hfault h.faulty, henergy h.energy⟩
    · rcases hfigures with ⟨-, hs⟩ | ⟨hg, hs, -⟩
      · omega
      · rw [hg, hs]
        exact h.ordered
    · rcases hprior with ⟨hp, -⟩ | ⟨hp, hd⟩
      · exact fun _ => hp
      · rw [hp, hd]
        exact h.settled
  · have hp : t.prior = 0 ∧ t.decPending = false := by
      rcases hprior with hp | ⟨hp, hd⟩
      · exact hp
      · exact ⟨hp.trans h.prior, hd.trans h.decPending⟩
    rcases hfigures with ⟨hg, hs⟩ | ⟨hg, hs, -⟩
    · exact ⟨hg, hs, hp.1, hp.2, hreservation h⟩
    · exact ⟨hg.trans h.grant, hs.trans h.sent, hp.1, hp.2, hreservation h⟩
  · rcases hfigures with ⟨hg, -⟩ | ⟨hg, -, -⟩ <;> omega

theorem Pad.move_enterEmpty {q : Pad} (hdisabled : q.state ≠ .disabled) (hcharging : q.state ≠ .charging) :
    q.Move q.enterEmpty :=
  .of_entry hdisabled (by simp [Pad.enterEmpty, Pad.setState]) (.inr ⟨rfl, rfl, hcharging⟩) (.inr ⟨rfl, rfl⟩)
    (fun hi => hi.reservation) (by simp [Pad.enterEmpty, Pad.setState, SessionState.served])
    (by simp [Pad.enterEmpty, Pad.setState]) (fun _ _ => ⟨rfl, rfl⟩)

theorem Pad.move_enterWaiting {q : Pad} (hdisabled : q.state ≠ .disabled) (hcharging : q.state ≠ .charging)
    (hfaulted : q.state ≠ .faulted) : q.Move (q.setState .waiting) :=
  .of_entry hdisabled (by simp [Pad.setState]) (.inr ⟨rfl, rfl, hcharging⟩) (.inr ⟨rfl, rfl⟩)
    (fun hi => hi.reservation) (by simp [Pad.setState, SessionState.served]) (by simp [Pad.setState, hfaulted]) id

theorem Pad.move_clearReservation {q : Pad} (h : q.state = .silent) : q.Move q.clearReservation :=
  .of_entry (by simp [h]) (by simp [Pad.clearReservation, h]) (.inr ⟨rfl, rfl, by simp [h]⟩) (.inr ⟨rfl, rfl⟩)
    (fun _ => rfl) id id id

@[simp] theorem Pad.storeFaultDocking_state (d : Byte) (q : Pad) : (q.storeFaultDocking d).state = q.state := rfl

/-! ## Completion, faults and silence -/

theorem quiet_complete (p : PadId) (s : State) (h : s.pads[p.val].state.served = true) :
    Quiet (some p) s (complete p s) := by
  have hlower : (decrease p 0 s).pads[p.val] = (s.pads[p.val]).lower 0 := by simp [decrease_get]
  refine ((quiet_decrease p 0 s (Nat.zero_le _)).weaken _).trans (.trans ?_ (quiet_raise _ _))
  have hstate : ((s.pads[p.val]).lower 0).state = .waiting := by
    rw [Pad.lower_state, if_pos ⟨rfl, h⟩]
  refine quiet_updPad p _ _ ?_ le_rfl
  simp only [Fin.getElem_fin, hlower]
  exact .of_entry (by simp [hstate]) (by simp [Pad.setState]) (.inr ⟨rfl, rfl, by simp [hstate]⟩)
    (.inr ⟨rfl, rfl⟩) (fun hi => hi.reservation) (by simp [Pad.setState, SessionState.served])
    (by simp [Pad.setState, hstate]) id

theorem quiet_completionCheck (p : PadId) (s : State) : Quiet (some p) s (completionCheck p s) := by
  unfold completionCheck
  split
  next h => exact quiet_complete p s h.1
  · exact .refl _ s

theorem quiet_enterFaulted (p : PadId) (x : CaptureSource) (c : Byte) (w : Nat) (s : State)
    (h : s.pads[p.val].state ≠ .disabled) : Quiet (some p) s (enterFaulted p x c w s) := by
  have hlower : (decrease p 0 s).pads[p.val] = (s.pads[p.val]).lower 0 := by simp [decrease_get]
  have hstate : ((s.pads[p.val]).lower 0).state ≠ .disabled := by
    rw [Pad.lower_state]
    split
    · simp
    · exact h
  refine ((quiet_decrease p 0 s (Nat.zero_le _)).weaken _).trans (.trans ?_
    ((quiet_captureEvent p x c w _).trans ((quiet_raise _ _).trans ((quiet_increaseRelease _).weaken _))))
  refine quiet_updPad p _ _ ?_ le_rfl
  simp only [Fin.getElem_fin, hlower]
  exact .of_entry hstate (by simp [Pad.setState]) (.inl ⟨Pad.lower_grant _ _, by simp [Pad.setState, Pad.lower_sent]⟩)
    (.inl ⟨rfl, rfl⟩) (fun hi => hi.reservation) (by simp [Pad.setState, SessionState.served])
    (by simp [Pad.setState]) id

theorem SessionState.maySilence_iff (x : SessionState) :
    x.maySilence = true ↔ x ≠ .disabled ∧ x ≠ .silent ∧ x ≠ .faulted := by
  cases x <;> simp [SessionState.maySilence]

theorem quiet_enterSilent (p : PadId) (s : State) (h : s.pads[p.val].state.maySilence = true) :
    Quiet (some p) s (enterSilent p s) := by
  obtain ⟨hdisabled, -, hfaulted⟩ := (SessionState.maySilence_iff _).mp h
  have hmove : (s.pads[p.val]).Move (Pad.enterSilent s.site.holdRounds s.pads[p.val]) :=
    .of_entry hdisabled (by simp [Pad.enterSilent, Pad.setState]) (.inl ⟨rfl, rfl⟩) (.inl ⟨rfl, rfl⟩)
      (fun hi => by simp [Pad.enterSilent, Pad.setState, Pad.clearFigures, hi.sent, hi.decPending])
      (by simp [Pad.enterSilent, Pad.setState, SessionState.served])
      (by simp [Pad.enterSilent, Pad.setState, Pad.clearFigures, hfaulted]) id
  have hsilent : Calm (some p) s
      (raise .padSilent (increaseRelease (s.updPad p (Pad.enterSilent s.site.holdRounds)))) :=
    (calm_updPad p _ s hmove).trans
      (((quiet_increaseRelease _).weaken _).trans (quiet_raise _ _)).toCalm
  have heval (b : Bool) (t : State) : Quiet (some p) t (if b then evaluateVoltage (s.padRec p).group t else t) := by
    cases b
    · exact .refl _ t
    · exact (quiet_evaluateVoltage _ t).weaken _
  have hjoined := heval (s.pads[p].sample.isSome) (raise .padSilent (increaseRelease
    (s.updPad p (Pad.enterSilent s.site.holdRounds))))
  exact (hsilent.trans hjoined.toCalm).check fun hs hr => hjoined.beside (by simpa using hs) (by simpa using hr)

/-! ## Probing (R35 to R38) -/

theorem quiet_endProbing (p : PadId) (s : State) (h : s.pads[p.val].state = .probing) :
    Quiet (some p) s (endProbing p s) := by
  unfold endProbing
  split
  · refine Quiet.trans (quiet_updPad p _ s ?_ le_rfl) (quiet_completionCheck p _)
    exact .of_entry (by simp [h]) (by simp [Pad.setState]) (.inr ⟨rfl, rfl, by simp [h]⟩) (.inr ⟨rfl, rfl⟩)
      (fun hi => hi.reservation) (by simp [Pad.setState, SessionState.served])
      (by simp [Pad.setState, h]) id
  · exact quiet_enterFaulted p _ _ _ s (by simp [h])

theorem quiet_countAttempts (p : PadId) (s : State) :
    Quiet (some p) s (s.updPad p fun q => { q with attempts := q.attempts + 1 }) :=
  quiet_updPad p _ s (.of_record rfl rfl rfl rfl rfl rfl rfl rfl id) le_rfl

theorem quiet_probeFailed (p : PadId) (s : State) (h : s.pads[p.val].state = .probing) :
    Quiet (some p) s (probeFailed p s) := by
  unfold probeFailed
  dsimp only
  split
  · exact (quiet_countAttempts p s).trans (quiet_endProbing p _ (by simpa using h))
  · exact quiet_countAttempts p s

theorem Pad.clampTarget_eq (b : Option Nat) (q : Pad) : q.clampTarget b =
    { q with dispatch := (q.clampTarget b).dispatch, remaining := (q.clampTarget b).remaining } := by
  unfold Pad.clampTarget
  split
  · split <;> rfl
  · rfl

theorem Pad.move_clampTarget (b : Option Nat) (q : Pad) : q.Move (q.clampTarget b) := by
  refine .of_record ?_ ?_ ?_ ?_ ?_ ?_ ?_ ?_ fun henergy => ?_
  iterate 8 (rw [Pad.clampTarget_eq])
  unfold Pad.clampTarget
  split
  · split
    · simp
    · exact henergy
  · exact henergy

theorem quiet_handleCaps (p : PadId) (c : CapsFields) (s : State) : Quiet (some p) s (handleCaps p c s) := by
  unfold handleCaps
  split
  · exact .refl _ s
  next hprobing =>
    have h : s.pads[p.val].state = .probing := by simpa using hprobing
    split
    · have hstored : (s.pads[p.val]).Move { s.pads[p.val] with caps := some c.capability } :=
        .of_record rfl rfl rfl rfl rfl rfl rfl rfl id
      have hclamped := Pad.move_clampTarget c.battery { s.pads[p.val] with caps := some c.capability }
      have hstate : (Pad.clampTarget c.battery { s.pads[p.val] with caps := some c.capability }).state = .probing := by
        rw [Pad.clampTarget_eq]
        exact h
      refine Quiet.trans (quiet_updPad p _ s ((hstored.trans hclamped).trans ?_) ?_) (quiet_completionCheck p _)
      · exact Pad.move_enterWaiting (by simp [hstate]) (by simp [hstate]) (by simp [hstate])
      · rw [Pad.clampTarget_eq]
        exact le_rfl
    · exact quiet_probeFailed p s h

theorem quiet_countAttempt (p : PadId) (x : LineRequest) (s : State) :
    Quiet (some p) s (countAttempt p x s) := by
  unfold countAttempt
  split
  · exact quiet_countAttempts p s
  · exact .refl _ s

theorem countAttempt_state (p : PadId) (x : LineRequest) (s : State) :
    (countAttempt p x s).pads[p.val].state = s.pads[p.val].state := by
  unfold countAttempt
  split <;> simp

theorem quiet_handleFailed (p : PadId) (x : LineRequest) (s : State) : Quiet (some p) s (handleFailed p x s) := by
  rw [handleFailed_eq]
  refine (quiet_countAttempt p x s).trans ?_
  split
  next h => exact quiet_enterSilent p _ h.1
  · split
    next h =>
      have hprobing : s.pads[p.val].state = .probing := by
        have := h.1
        simp at this
        exact this.1
      exact quiet_endProbing p _ ((countAttempt_state p x s).trans hprobing)
    · exact .refl _ _

/-! ## Reports (R26, R34, R38, R44 to R46, R50, R53) -/

theorem quiet_endSilence (p : PadId) (r : Report) (s : State) (h : s.pads[p.val].state = .silent) :
    Quiet (some p) s (endSilence p r s) := by
  have hclear : Quiet (some p) s (s.updPad p Pad.clearReservation) :=
    quiet_updPad p _ s (Pad.move_clearReservation h) (Nat.zero_le _)
  have hstate : (s.updPad p Pad.clearReservation).pads[p.val].state = .silent := by
    simpa [Pad.clearReservation] using h
  unfold endSilence
  dsimp only
  refine hclear.trans ?_
  generalize s.updPad p Pad.clearReservation = t at hstate
  split
  · exact quiet_updPad p _ t (Pad.move_enterEmpty (by simp [hstate]) (by simp [hstate])) le_rfl
  · split
    · exact Quiet.trans (quiet_updPad p _ t
        (Pad.move_enterWaiting (by simp [hstate]) (by simp [hstate]) (by simp [hstate])) le_rfl)
        (quiet_completionCheck p _)
    · refine quiet_updPad p _ t ?_ le_rfl
      exact .of_entry (by simp [hstate]) (by simp [Pad.enterProbing, Pad.setState])
        (.inr ⟨rfl, rfl, by simp [hstate]⟩) (.inr ⟨rfl, rfl⟩) (fun hi => hi.reservation)
        (by simp [Pad.enterProbing, Pad.setState, SessionState.served])
        (by simp [Pad.enterProbing, Pad.setState]) (fun _ _ => ⟨rfl, rfl⟩)

theorem quiet_depart (p : PadId) (s : State) (h : s.pads[p.val].state ≠ .disabled) :
    Quiet (some p) s (depart p s) := by
  refine Quiet.trans (quiet_updPad p _ s ?_ le_rfl) ((quiet_increaseRelease _).weaken _)
  exact .of_entry h (by simp [Pad.enterEmpty, Pad.setState]) (.inl ⟨rfl, rfl⟩) (.inl ⟨rfl, rfl⟩)
    (fun hi => hi.reservation) (by simp [Pad.enterEmpty, Pad.setState, SessionState.served])
    (by simp [Pad.enterEmpty, Pad.setState]) (fun _ _ => ⟨rfl, rfl⟩)

theorem quiet_swap (p : PadId) (b : Byte) (s : State) (h : s.pads[p.val].state ≠ .disabled) :
    Quiet (some p) s (swap p b s) := by
  refine Quiet.trans (quiet_updPad p _ s ?_ le_rfl) ((quiet_increaseRelease _).weaken _)
  exact .of_entry h (by simp [Pad.enterProbing, Pad.setState]) (.inl ⟨rfl, rfl⟩) (.inl ⟨rfl, rfl⟩)
    (fun hi => hi.reservation) (by simp [Pad.enterProbing, Pad.setState, SessionState.served])
    (by simp [Pad.enterProbing, Pad.setState]) (fun _ _ => ⟨rfl, rfl⟩)

theorem quiet_reportTransition (p : PadId) (x : LineRequest) (r : Report) (s : State) :
    Quiet (some p) s (reportTransition p x r s) := by
  have hempty (hd : s.pads[p.val].state ≠ .disabled) (hc : s.pads[p.val].state ≠ .charging) :
      Quiet (some p) s (s.updPad p Pad.enterEmpty) :=
    quiet_updPad p _ s (Pad.move_enterEmpty hd hc) le_rfl
  have hstand {f : State} (hd : s.pads[p.val].state ≠ .disabled) (hf : f = depart p s) :
      Quiet (some p) s
        (if r.present = false then f else if r.docking ≠ s.pads[p.val].docking then swap p r.docking s else s) := by
    split
    · exact hf ▸ quiet_depart p s hd
    · split
      · exact quiet_swap p _ s hd
      · exact .refl _ s
  unfold reportTransition
  dsimp only [Fin.getElem_fin]
  cases h : s.pads[p.val].state with
  | disabled => exact .refl _ s
  | faulted => exact .refl _ s
  | empty =>
    dsimp only
    split
    · refine quiet_updPad p _ s ?_ le_rfl
      exact .of_entry (by simp [h]) (by simp [Pad.enterProbing, Pad.setState]) (.inr ⟨rfl, rfl, by simp [h]⟩)
        (.inr ⟨rfl, rfl⟩) (fun hi => hi.reservation)
        (by simp [Pad.enterProbing, Pad.setState, SessionState.served])
        (by simp [Pad.enterProbing, Pad.setState]) id
    · exact .refl _ s
  | probing =>
    dsimp only
    split
    · exact hempty (by simp [h]) (by simp [h])
    · split
      · exact quiet_updPad p _ s
          (.of_record rfl rfl rfl rfl rfl rfl rfl rfl (fun _ _ => ⟨rfl, rfl⟩)) le_rfl
      · split
        · exact quiet_probeFailed p s h
        · exact .refl _ s
  | waiting => exact hstand (by simp [h]) rfl
  | charging => exact hstand (by simp [h]) rfl
  | complete => exact hstand (by simp [h]) rfl
  | releasing =>
    dsimp only
    split
    · exact hempty (by simp [h]) (by simp [h])
    · split
      · exact quiet_swap p _ s (by simp [h])
      · exact .refl _ s
  | silent => exact quiet_endSilence p r s h

theorem Pad.account_eq (r : Report) (q : Pad) : q.account r =
    { q with delivered := (q.account r).delivered, remaining := (q.account r).remaining } := by
  unfold Pad.account
  split
  · rfl
  · split <;> rfl

theorem quiet_account (p : PadId) (r : Report) (s : State) : Quiet (some p) s (s.updPad p (Pad.account r)) := by
  refine quiet_updPad p _ s ?_ ?_
  · refine .of_record ?_ ?_ ?_ ?_ ?_ ?_ ?_ ?_ fun henergy => ?_
    iterate 8 (rw [Pad.account_eq])
    · unfold Pad.account
      split
      · exact henergy
      next hd =>
        split
        · exact fun hn => absurd (hn.symm.trans hd) (by simp)
        · exact henergy
  · rw [Pad.account_eq]

theorem quiet_overdrawCheck (p : PadId) (r : Report) (s : State) : Quiet (some p) s (overdrawCheck p r s) := by
  have hcount (n : Nat) : Quiet (some p) s (s.updPad p fun q => { q with overdraw := n }) :=
    quiet_updPad p _ s (.of_record rfl rfl rfl rfl rfl rfl rfl rfl id) le_rfl
  unfold overdrawCheck
  dsimp only [Fin.getElem_fin]
  split
  · exact .refl _ s
  next hchecked =>
    have hdisabled : s.pads[p.val].state ≠ .disabled := by
      intro h
      simp [h, SessionState.overdrawChecked] at hchecked
    split
    · have hone : Quiet (some p) s (s.updPad p fun q => { q with overdraw := q.overdraw + 1 }) :=
        quiet_updPad p _ s (.of_record rfl rfl rfl rfl rfl rfl rfl rfl id) le_rfl
      split
      · exact hone.trans (quiet_enterFaulted p _ _ _ _ (by simpa using hdisabled))
      · exact hone
    · exact hcount 0

theorem quiet_confirmDecrease (p : PadId) (r : Report) (s : State) :
    Quiet (some p) s (confirmDecrease p r s) := by
  unfold confirmDecrease
  split
  · refine Quiet.trans (quiet_updPad p _ s ?_ le_rfl) ((quiet_increaseRelease _).weaken _)
    exact
      { sound := fun e h => ⟨h.ordered, fun _ => rfl, h.matched, h.powered, h.served, h.faulty, h.energy⟩
        idle := fun h => ⟨h.grant, h.sent, rfl, rfl, h.reservation⟩
        grant := le_rfl
        stays := fun _ _ _ h => h }
  · exact .refl _ s

theorem quiet_takeVoltage (p : PadId) (r : Report) (s : State) : Quiet (some p) s (takeVoltage p r s) := by
  unfold takeVoltage
  split
  · exact Quiet.trans (quiet_updPad p _ s (.of_record rfl rfl rfl rfl rfl rfl rfl rfl id) le_rfl)
      ((quiet_evaluateVoltage _ _).weaken _)
  · exact .refl _ s

theorem quiet_handleReport (p : PadId) (x : LineRequest) (r : Report) (s : State) :
    Quiet (some p) s (handleReport p x r s) := by
  have hstored : Quiet (some p) s (s.updPad p (Pad.storeReport r)) :=
    quiet_updPad p _ s (.of_record rfl rfl rfl rfl rfl rfl rfl rfl id) le_rfl
  exact hstored.trans <| (quiet_reportTransition p x r _).trans <| (quiet_account p r _).trans <|
    (quiet_overdrawCheck p r _).trans <| (quiet_confirmDecrease p r _).trans <|
    (quiet_completionCheck p _).trans (quiet_takeVoltage p r _)

/-! ## A good FAULT_REPORT, and the hand-up -/

theorem quiet_handleFault (p : PadId) (c d : Byte) (w : Nat) (s : State) :
    Quiet (some p) s (handleFault p c d w s) := by
  have hstored : Quiet (some p) s (s.updPad p (Pad.storeFaultDocking d)) :=
    quiet_updPad p _ s (.of_record rfl rfl rfl rfl rfl rfl rfl rfl id) le_rfl
  have hpad : (s.updPad p (Pad.storeFaultDocking d)).pads[p.val] = Pad.storeFaultDocking d s.pads[p.val] := by simp
  unfold handleFault
  dsimp only [Fin.getElem_fin]
  cases h : s.pads[p.val].state with
  | disabled => exact .refl _ s
  | faulted =>
    refine hstored.trans (.trans ?_ ((quiet_captureEvent _ _ _ _ _).trans (quiet_raise _ _)))
    refine quiet_updPad p _ _ ?_ le_rfl
    simp only [Fin.getElem_fin, hpad]
    exact .of_entry (by simp [h]) (by simp [h]) (.inr ⟨rfl, rfl, by simp [h]⟩) (.inr ⟨rfl, rfl⟩)
      (fun hi => hi.reservation) id (by simp [h]) id
  | silent =>
    refine hstored.trans (.trans (quiet_updPad p _ _ ?_ (Nat.zero_le _))
      (quiet_enterFaulted p _ _ _ _ (by simp [Pad.clearReservation, h])))
    simp only [Fin.getElem_fin, hpad]
    exact Pad.move_clearReservation (by simp [h])
  | _ => exact hstored.trans (quiet_enterFaulted p _ _ _ _ (by simp [h]))

theorem quiet_handUp (p : PadId) (x : LineRequest) (o : LineOutcome) (rx : List RxChar) (s : State) :
    Quiet (some p) s (handUp p x o rx s) := by
  unfold handUp
  dsimp only
  split
  · split
    · exact quiet_handleReport p x _ s
    · split
      · exact quiet_handleFault p _ _ _ s
      · exact quiet_handleCaps p _ s
  · exact quiet_handleFailed p x s

theorem quiet_afterDispatch (p : PadId) (n : Nat) (s : State) : Quiet (some p) s (afterDispatch p n s) := by
  unfold afterDispatch
  dsimp only [Fin.getElem_fin]
  cases h : s.pads[p.val].state with
  | waiting => exact quiet_completionCheck p s
  | charging => exact quiet_completionCheck p s
  | complete =>
    dsimp only
    split
    · exact quiet_updPad p _ s (Pad.move_enterWaiting (by simp [h]) (by simp [h]) (by simp [h])) le_rfl
    · exact quiet_raise _ _
  | _ => exact .refl _ s

end Sys2Proof.Machine

/-! PROOFS. The invariants that every step keeps, as one relation between two states that composes: first for what
touches no session or one, then for the start of a sweep, the entries to HALTED and DISCOVERING, and a scope. -/

namespace Sys2Proof.Machine

/-! ## The relation -/

/-- A line's breaks, transaction and busy state exclude one another (R131, R142, R143). -/
structure LineCtl.Ordered (c : LineCtl) : Prop where
  breaking : c.breaking = true → c.inFlight = none ∧ c.busy = false
  busy : c.busy = true → c.inFlight = none
  waiting : c.breakPending = true → c.inFlight.isSome = true ∨ c.breaking = true ∨ c.busy = true

theorem breaksOrdered_iff (s : State) : BreaksOrdered s ↔ ∀ l : LineId, (s.lines[l]).Ordered :=
  forall_congr' fun _ => ⟨fun ⟨h1, h2, h3⟩ => ⟨h1, h2, h3⟩, fun ⟨h1, h2, h3⟩ => ⟨h1, h2, h3⟩⟩

/-- From `s` to `t` the invariants of the sessions, the idle engine, the limits and the lines are kept. -/
structure Firm (s t : State) : Prop where
  sound : SessionsSound s → SessionsSound t
  covers : SessionsSound s → KeptListCovers s → KeptListCovers t
  idle : IdleUnlessRunning s → IdleUnlessRunning t
  within : WithinLimits s → WithinLimits t
  distinct : ListsDistinct s → ListsDistinct t
  ordered : BreaksOrdered s → BreaksOrdered t

/-- And the capacities and what follows the inputs stay as they should be. -/
structure Steady (s t : State) : Prop extends Firm s t where
  fresh : CapacityFresh s → InputsFollowed s → CapacityFresh t ∧ InputsFollowed t

/-- And the sweep, the kept list and the rotation offset stay sound. -/
structure Keeps (s t : State) : Prop extends Steady s t where
  alone : IdleUnlessRunning s → SweepAlone s → KeptListSound s → SweepAlone t ∧ KeptListSound t

section
variable {s t u : State}

theorem Firm.trans (h : Firm s t) (h' : Firm t u) : Firm s u where
  sound := h'.sound ∘ h.sound
  covers hs hk := h'.covers (h.sound hs) (h.covers hs hk)
  idle := h'.idle ∘ h.idle
  within := h'.within ∘ h.within
  distinct := h'.distinct ∘ h.distinct
  ordered := h'.ordered ∘ h.ordered

theorem Steady.refl (s : State) : Steady s s := ⟨⟨id, fun _ => id, id, id, id, id⟩, fun h h' => ⟨h, h'⟩⟩

theorem Steady.trans (h : Steady s t) (h' : Steady t u) : Steady s u :=
  { h.toFirm.trans h'.toFirm with fresh := fun hc hi => (h.fresh hc hi).elim h'.fresh }

theorem Keeps.refl (s : State) : Keeps s s := { Steady.refl s with alone := fun _ h h' => ⟨h, h'⟩ }

theorem Keeps.trans (h : Keeps s t) (h' : Keeps t u) : Keeps s u :=
  { h.toSteady.trans h'.toSteady with
    alone := fun hi ha hk => (h.alone hi ha hk).elim (h'.alone (h.idle hi)) }

/-- The shed-input states and the stop latch depend on the active bank, the taken levels and the latches. -/
theorem inputsNow_eq (hactive : t.tables.active = s.tables.active) (htaken : t.signals.taken = s.signals.taken)
    (hlatch : t.signals.latch = s.signals.latch) :
    (∀ g : GroupId, t.shedInputNow g = s.shedInputNow g) ∧ t.stopLatchNow = s.stopLatchNow := by
  have hrec (i : InputId) : t.inputRec i = s.inputRec i := by simp only [State.inputRec, hactive]
  have hact (i : InputId) : t.active i = s.active i := by simp only [State.active, hrec, htaken, hlatch]
  refine ⟨fun g => ?_, ?_⟩
  · simp only [State.shedInputNow, hrec, hact]
  · simp only [State.stopLatchNow, hrec, hlatch]

/-- A handling of a session keeps every invariant of one state alone, the limits apart. -/
theorem Calm.steady {own : Option PadId} (h : Calm own s t) (hwithin : WithinLimits s → WithinLimits t) :
    Steady s t where
  sound hs := by
    rw [sessionsSound_iff] at hs ⊢
    intro p
    have hrec : t.padRec p = s.padRec p := by simp only [State.padRec, h.tables]
    rw [hrec]
    exact (h.move p).sound _ (hs p)
  covers hs hk p hp := by
    rw [sessionsSound_iff] at hs
    have hpos := hp.trans_le (h.move p).grant
    obtain ⟨hkept, hstay⟩ := hk p hpos
    have halloc := h.alloc
    refine ⟨by rw [halloc]; exact hkept, fun hsweep => (h.move p).stays _ (hs p) hp (hstay ?_)⟩
    rw [halloc] at hsweep
    exact hsweep
  idle hi hengine := by
    rw [h.mode] at hengine
    obtain ⟨hsweep, hshed, hwaiting, htimer, hpads⟩ := hi hengine
    have hshed' := h.atRest hshed fun p => (hpads p).1
    have halloc := h.alloc
    refine ⟨by rw [halloc]; exact hsweep, hshed', by rw [halloc]; exact hwaiting, by rw [h.time]; exact htimer,
      fun p => ?_⟩
    obtain ⟨hg, hs, hp, hd, hr⟩ := hpads p
    have := (h.move p).idle ⟨hg, hs, hp, hd, hr⟩
    exact ⟨this.grant, this.sent, this.prior, this.decPending, this.reservation⟩
  fresh hc hf := by
    obtain ⟨hshed, hstop⟩ := inputsNow_eq (s := s) (t := t) (by rw [h.tables]) (by rw [h.signals]) (by rw [h.signals])
    refine ⟨h.fresh hc, fun g => ?_, ?_⟩
    · rw [h.groups, hshed]
      exact hf.1 g
    · rw [h.mode, hstop]
      exact hf.2
  within := hwithin
  distinct hl l := by
    refine ⟨h.nodup l (hl l).1, ?_⟩
    rw [h.lines]
    exact (hl l).2
  ordered hb := by
    rw [breaksOrdered_iff] at hb ⊢
    intro l
    rw [h.lines]
    exact ⟨(hb l).breaking, (hb l).busy, (hb l).waiting⟩

/-- The sweep and the kept list under a handling that starts no pass beside a sweep. -/
theorem Calm.alone {own : Option PadId} (h : Calm own s t)
    (hbeside : s.alloc.sweep.isSome = true → s.alloc.fastShed ≠ .running → t.alloc.fastShed ≠ .running)
    (ha : SweepAlone s) (hk : KeptListSound s) : SweepAlone t ∧ KeptListSound t := by
  have halloc := h.alloc
  have hsweep : t.alloc.sweep = s.alloc.sweep := by rw [halloc]
  refine ⟨⟨fun x hx => ?_, fun hn => ?_⟩, ?_⟩
  · rw [hsweep] at hx
    obtain ⟨hr, hbank⟩ := ha.1 x hx
    exact ⟨hbeside (by simp [hx]) hr, by rw [h.tables]; exact hbank⟩
  · rw [h.mode]
    exact ha.2 (hsweep ▸ hn)
  · have hsite : t.site = s.site := by simp only [State.site, h.tables]
    unfold KeptListSound
    rw [hsite, halloc]
    exact hk

/-- A handling of a session keeps every invariant. -/
theorem Quiet.keeps {own : Option PadId} (h : Quiet own s t) : Keeps s t :=
  { h.toCalm.steady h.within with alone := fun _ ha hk => h.toCalm.alone h.beside ha hk }

/-- A step that leaves what the invariants speak of, but for the records of the groups and the inputs. -/
theorem Firm.of_blocks (hactive : t.tables.active = s.tables.active)
    (hpads : ∀ p : PadId, t.pads[p] = { s.pads[p] with inScope := t.pads[p].inScope })
    (halloc : t.alloc = s.alloc) (hmode : t.mode.engine = s.mode.engine) (hlines : t.lines = s.lines)
    (hcapacity : ∀ g : GroupId, t.groups[g].capacity = s.groups[g].capacity)
    (htimer : s.time.timer = none → t.time.timer = none) : Firm s t where
  sound hs := by
    rw [sessionsSound_iff] at hs ⊢
    intro p
    have hrec : t.padRec p = s.padRec p := by simp only [State.padRec, hactive]
    rw [hrec, hpads]
    exact ⟨(hs p).ordered, (hs p).settled, (hs p).matched, (hs p).powered, (hs p).served, (hs p).faulty,
      (hs p).energy⟩
  covers _ hk p hp := by
    rw [hpads] at hp ⊢
    rw [halloc]
    exact hk p hp
  idle hi hengine := by
    rw [hmode] at hengine
    obtain ⟨hsweep, hshed, hwaiting, ht, hp⟩ := hi hengine
    rw [halloc]
    refine ⟨hsweep, hshed, hwaiting, htimer ht, fun p => ?_⟩
    rw [hpads]
    exact hp p
  within h := by
    refine h.of_le hactive (fun p => ?_) (fun g => (hcapacity g).ge) (fun h => by rwa [halloc] at h)
    rw [hpads]
    exact ⟨le_rfl, le_rfl⟩
  distinct h := by
    unfold ListsDistinct
    rwa [hlines]
  ordered h := by
    unfold BreaksOrdered
    rwa [hlines]

/-- The kept list and the rotation offset under steps that touch neither, nor the site record. -/
theorem KeptListSound.of_eq (hactive : t.tables.active = s.tables.active)
    (hkept : t.alloc.kept = s.alloc.kept) (hrotation : t.alloc.rotation = s.alloc.rotation)
    (h : KeptListSound s) : KeptListSound t := by
  have hsite : t.site = s.site := by simp only [State.site, hactive]
  unfold KeptListSound
  rw [hsite, hkept, hrotation]
  exact h

theorem SweepAlone.of_eq (hactive : t.tables.active = s.tables.active) (halloc : t.alloc = s.alloc)
    (hheld : s.alloc.sweep = none → s.mode.held = none → t.mode.held = none) (h : SweepAlone s) : SweepAlone t := by
  unfold SweepAlone
  rw [halloc, hactive]
  exact ⟨h.1, fun hn => hheld hn (h.2 hn)⟩

/-- A step on what the invariants do not speak of: but for the blocks they do not read, the scope with its marks, a
change held, the resolution and the ages of the groups. -/
theorem Keeps.of_parts (hactive : t.tables.active = s.tables.active)
    (hpads : ∀ p : PadId, t.pads[p] = { s.pads[p] with inScope := t.pads[p].inScope })
    (halloc : t.alloc = s.alloc)
    (hmode : t.mode =
      { s.mode with resolution := t.mode.resolution, scope := t.mode.scope, held := t.mode.held })
    (hheld : s.alloc.sweep = none → s.mode.held = none → t.mode.held = none) (hlines : t.lines = s.lines)
    (hgroups : ∀ g : GroupId, t.groups[g] = { s.groups[g] with age := t.groups[g].age })
    (htaken : t.signals.taken = s.signals.taken) (hlatch : t.signals.latch = s.signals.latch)
    (htimer : s.time.timer = none → t.time.timer = none) : Keeps s t :=
  { Firm.of_blocks hactive hpads halloc (by rw [hmode]) hlines (fun g => by rw [hgroups]) htimer with
    fresh := fun hc hf => by
      obtain ⟨hshed, hstop⟩ := inputsNow_eq hactive htaken hlatch
      refine ⟨fun g => ?_, fun g => ?_, ?_⟩
      · have hrec : t.feederRec g = s.feederRec g := by simp only [State.feederRec, hactive]
        rw [hgroups, hrec]
        exact hc g
      · rw [hgroups, hshed]
        exact hf.1 g
      · rw [hmode, hstop]
        exact hf.2
    alone := fun _ ha hk => ⟨ha.of_eq hactive halloc hheld, hk.of_eq hactive (by rw [halloc]) (by rw [halloc])⟩ }

/-- A property of the pads that a change of every pad keeps, pad by pad. -/
theorem SessionsSound.of_pads (hactive : t.tables.active = s.tables.active)
    (h : ∀ (p : PadId) (e : Bool), (s.pads[p]).Sound e → (t.pads[p]).Sound e) (hs : SessionsSound s) :
    SessionsSound t := by
  rw [sessionsSound_iff] at hs ⊢
  intro p
  have hrec : t.padRec p = s.padRec p := by simp only [State.padRec, hactive]
  rw [hrec]
  exact h p _ (hs p)

end

/-! ## The start of a sweep (R59, R60, R121) -/

/-- A pad at the start of a sweep: the reservation countdown, the deadline watch, and its stay in the issue set. -/
def Pad.atSweepStart (now : Ticks) (q : Pad) : Pad :=
  let r := if q.countdown.misses now then q.countdown.markMissed else q.countdown
  { r with stayed := r.state.served }

theorem startSweep_get (s : State) (p : PadId) :
    (startSweep s).pads[p.val] = (s.pads[p.val]).atSweepStart s.time.running := by
  simp [startSweep, deadlineWatch, Pad.atSweepStart]

theorem Pad.countdown_eq (q : Pad) :
    q.countdown = { q with roundsLeft := q.countdown.roundsLeft, reservation := q.countdown.reservation } := by
  unfold Pad.countdown
  (repeat' split) <;> rfl

theorem Pad.countdown_reservation_le (q : Pad) : q.countdown.reservation ≤ q.reservation := by
  unfold Pad.countdown
  (repeat' split) <;> simp

theorem Pad.atSweepStart_eq (now : Ticks) (q : Pad) : q.atSweepStart now =
    { q with
      dispatch := (q.atSweepStart now).dispatch, reservation := q.countdown.reservation
      roundsLeft := q.countdown.roundsLeft, stayed := q.state.served } := by
  unfold Pad.atSweepStart Pad.markMissed
  dsimp only
  split <;> rw [Pad.countdown_eq]

theorem Pad.atSweepStart_dispatch (now : Ticks) (q : Pad) :
    (q.atSweepStart now).dispatch = none ↔ q.dispatch = none := by
  have hd : q.countdown.dispatch = q.dispatch := by rw [Pad.countdown_eq]
  unfold Pad.atSweepStart Pad.markMissed
  dsimp only
  split <;> simp [hd]

theorem Pad.Sound.atSweepStart {e : Bool} {q : Pad} (h : q.Sound e) (now : Ticks) : (q.atSweepStart now).Sound e := by
  have hd := Pad.atSweepStart_dispatch now q
  rw [Pad.atSweepStart_eq]
  exact ⟨h.ordered, h.settled, h.matched, h.powered, id, h.faulty, fun hn => h.energy (hd.mp hn)⟩

theorem startSweep_alloc (s : State) : (startSweep s).alloc =
    { s.alloc with sweep := (startSweep s).alloc.sweep, sweepWaiting := false } := by
  simp [startSweep]

theorem startSweep_snapshot (s : State) : ∃ x : Snapshot,
    (startSweep s).alloc.sweep = some x ∧ x.bank = s.tables.active := ⟨_, rfl, by simp [takeSnapshot]⟩

theorem Pad.charging_served {e : Bool} {q : Pad} (h : q.Sound e) (hpos : 0 < q.grant) : q.state.served = true := by
  rw [h.powered.mp hpos]
  rfl

theorem steady_startSweep (s : State) (h : IdleUnlessRunning s → s.mode.engine = .running) :
    Steady s (startSweep s) where
  sound := .of_pads (by simp) fun p e hs => by
    simp only [Fin.getElem_fin, startSweep_get]
    exact hs.atSweepStart _
  covers hs hk p hp := by
    rw [sessionsSound_iff] at hs
    simp only [Fin.getElem_fin, startSweep_get] at hp ⊢
    rw [Pad.atSweepStart_eq] at hp ⊢
    rw [startSweep_alloc]
    exact ⟨(hk p hp).1, fun _ => Pad.charging_served (hs p) hp⟩
  idle hi hengine := absurd (by simpa using h hi) hengine
  fresh hc hf := by
    obtain ⟨hshed, hstop⟩ := inputsNow_eq (s := s) (t := startSweep s) (by simp) (by simp) (by simp)
    refine ⟨fun g => ?_, fun g => ?_, ?_⟩
    · simpa [State.feederRec] using hc g
    · simpa [hshed] using hf.1 g
    · simpa [hstop] using hf.2
  within hw := by
    refine hw.of_le (by simp) (fun p => ?_) (fun g => by simp) (by rw [startSweep_alloc]; exact id)
    simp only [Fin.getElem_fin, startSweep_get]
    rw [Pad.atSweepStart_eq]
    exact ⟨le_rfl, Pad.countdown_reservation_le _⟩
  distinct hl l := by simpa using hl l
  ordered hb l := by simpa using hb l

theorem startSweep_alone {s : State} (hshed : s.alloc.fastShed ≠ .running) (hk : KeptListSound s) :
    SweepAlone (startSweep s) ∧ KeptListSound (startSweep s) := by
  obtain ⟨x, hx, hbank⟩ := startSweep_snapshot s
  refine ⟨⟨fun y hy => ?_, fun hn => by simp [hx] at hn⟩, ?_⟩
  · obtain rfl : x = y := Option.some.inj (hx.symm.trans hy)
    rw [startSweep_alloc]
    exact ⟨hshed, by simpa using hbank⟩
  · have hsite : (startSweep s).site = s.site := by simp [State.site]
    unfold KeptListSound
    rw [hsite, startSweep_alloc]
    exact hk

/-- The start of the round timer in RUNNING (R57). -/
theorem keeps_startTimer (s : State) (h : s.mode.engine = .running) : Keeps s (startTimer s) :=
  { Keeps.of_parts (s := s) (t := s.withTime s.time) rfl (fun _ => rfl) rfl rfl (fun _ => id) rfl (fun _ => rfl) rfl rfl id with
    idle := fun _ hengine => absurd h hengine }

theorem keeps_discoveryEnd (s : State) (h : s.mode.engine ≠ .running) : Keeps s (discoveryEnd s) := by
  have hrun : Steady s (s.withMode { s.mode with engine := .running }) :=
    { Keeps.of_parts (s := s) (t := s) rfl (fun _ => rfl) rfl rfl (fun _ => id) rfl (fun _ => rfl) rfl rfl id with
      idle := fun _ hengine => absurd rfl hengine
      fresh := fun hc hf => ⟨hc, hf⟩ }
  have hsweep := hrun.trans (steady_startSweep (s.withMode { s.mode with engine := .running }) fun _ => rfl)
  have htimer := keeps_startTimer (startSweep (s.withMode { s.mode with engine := .running })) (by simp)
  refine { hsweep.trans htimer.toSteady with alone := fun hi ha hk => ?_ }
  have hshed : s.alloc.fastShed ≠ .running := by rw [(hi h).2.1]; simp
  obtain ⟨ha', hk'⟩ := startSweep_alone (s := s.withMode { s.mode with engine := .running }) hshed hk
  exact htimer.alone (fun hengine => absurd (by simp) hengine) ha' hk'

theorem keeps_endDiscoveryIfDone (s : State) : Keeps s (endDiscoveryIfDone s) := by
  rcases endDiscoveryIfDone_cases s with h | ⟨hengine, -, h⟩
  · rw [h]
    exact .refl s
  · rw [h]
    exact keeps_discoveryEnd s (by simp [hengine])

end Sys2Proof.Machine

/-! PROOFS. The entry to HALTED, a scope, and an activation keep the invariants. -/

namespace Sys2Proof.Machine

/-! ## Lists in a free order -/

theorem insertBy_perm {α : Type} (le : α → α → Bool) (x : α) (l : List α) : (insertBy le x l).Perm (x :: l) := by
  induction l with
  | nil => exact .refl _
  | cons y ys ih =>
    unfold insertBy
    split
    · exact .refl _
    · exact (ih.cons y).trans (.swap x y ys)

theorem sortBy_perm {α : Type} (le : α → α → Bool) (l : List α) : (sortBy le l).Perm l := by
  induction l with
  | nil => exact .refl _
  | cons x xs ih => exact (insertBy_perm le x _).trans (ih.cons x)

theorem freelyOrdered_perm {α : Type} (n : Nat) (f : α → Nat) (l : List α) : (freelyOrdered n f l).Perm l :=
  sortBy_perm _ l

@[simp] theorem mem_freelyOrdered {α : Type} {n : Nat} {f : α → Nat} {l : List α} {a : α} :
    a ∈ freelyOrdered n f l ↔ a ∈ l :=
  (freelyOrdered_perm n f l).mem_iff

theorem allPads_nodup : allPads.Nodup := List.nodup_finRange 64

/-! ## The decrease of several pads -/

/-- The pads that a decrease of several joins to the urgent list of a line, in their free order (R76, R139). -/
def joiningMany (target : PadId → Option Nat) (s : State) (l : LineId) : List PadId :=
  freelyOrdered s.freeCount Fin.val (allPads.filter fun p =>
    (match target p with
      | some v => decide (v < s.pads[p].sent)
      | none => false) && (s.padRec p).line == l && !s.lines[l].urgent.contains p)

theorem decreaseMany_line (target : PadId → Option Nat) (s : State) (l : LineId) :
    (decreaseMany target s).lines[l.val] =
      { s.lines[l.val] with urgent := s.lines[l.val].urgent ++ joiningMany target s l } := by
  simp [decreaseMany, joiningMany]
  rfl

theorem mem_joiningMany {target : PadId → Option Nat} {s : State} {l : LineId} {p : PadId} :
    p ∈ joiningMany target s l ↔ (∃ v : Nat, target p = some v ∧ v < s.pads[p].sent)
      ∧ (s.padRec p).line = l ∧ p ∉ s.lines[l].urgent := by
  unfold joiningMany
  cases h : target p <;> simp [allPads, h, and_assoc]

theorem decreaseMany_nodup (target : PadId → Option Nat) {s : State} {l : LineId}
    (h : s.lines[l.val].urgent.Nodup) : (decreaseMany target s).lines[l.val].urgent.Nodup := by
  rw [decreaseMany_line]
  refine List.nodup_append.mpr ⟨h, (freelyOrdered_perm _ _ _).nodup_iff.mpr (allPads_nodup.filter _), ?_⟩
  rintro a ha b hb rfl
  exact (mem_joiningMany.mp hb).2.2 ha

theorem quiet_decreaseMany (target : PadId → Option Nat) (s : State)
    (htarget : ∀ (p : PadId) (v : Nat), target p = some v → v ≤ s.pads[p.val].grant) :
    Quiet none s (decreaseMany target s) := by
  have hfall (p : PadId) : (s.pads[p]).Fall (decreaseMany target s).pads[p] := by
    simp only [Fin.getElem_fin, decreaseMany_get]
    cases h : target p with
    | none => exact .refl _
    | some v => exact Pad.fall_lower _ (htarget p v h)
  refine Calm.quiet ?_ (by simp) (fun g => by simp) (by simp)
  exact
    { time := by simp
      tables := by simp
      mode := by simp
      signals := by simp
      pending := by simp
      alloc := by simp
      groups := fun g => by simp
      moves := by simp
      others := fun p _ => hfall p
      lines := fun l => by simp [decreaseMany_line]
      grows := fun l => by simp [decreaseMany_line]
      nodup := fun l hl => decreaseMany_nodup target hl
      joins := fun l p hp => by
        simp only [Fin.getElem_fin, decreaseMany_line, List.mem_append] at hp
        rcases hp with hp | hp
        · exact .inl hp
        · obtain ⟨⟨v, hv, hlt⟩, -, -⟩ := mem_joiningMany.mp hp
          refine .inr (.inr ?_)
          simp only [Fin.getElem_fin] at hlt
          simp [decreaseMany_get, hv, Pad.lower_eq, hlt]
      atRest := fun h _ => by simpa using h
      fresh := (capacityFresh_iff_of_eq (by simp) (by simp)).mpr
      noticed := .of_eq (by simp) (by simp) }

/-! ## Scope (R86, R176, R177) -/

theorem keeps_applyScope (x : Scope) (s : State) : Keeps s (applyScope x s) := by
  have hmarked : Keeps s ((s.withMode { s.mode with scope := x }).mapPads fun p q =>
      { q with inScope := x.holds p }) :=
    Keeps.of_parts rfl (fun p => by simp) rfl rfl (fun _ => id) rfl (fun _ => rfl) rfl rfl id
  refine hmarked.trans (quiet_decreaseMany _ _ fun p v h => ?_).keeps
  simp only [Option.ite_none_right_eq_some, Option.some.injEq] at h
  omega

theorem keeps_applyHeld (s : State) : Keeps s (applyHeld s) := by
  unfold applyHeld
  split
  · exact .refl s
  · exact Keeps.trans
      (Keeps.of_parts (s := s) (t := s.withMode { s.mode with held := none }) rfl (fun _ => rfl) rfl rfl
        (fun _ _ => rfl) rfl (fun _ => rfl) rfl rfl id)
      (keeps_applyScope _ _)

theorem applyHeld_held (s : State) : (applyHeld s).mode.held = none := by
  unfold applyHeld
  split
  · assumption
  · simp [applyScope]

theorem applyHeld_engine (s : State) : (applyHeld s).mode.engine = s.mode.engine := by
  unfold applyHeld
  split
  · rfl
  · simp [applyScope]

/-! ## The entry to HALTED (R88, R142, R170) -/

theorem LineCtl.startBreak_eq (c : LineCtl) :
    c.startBreak = { c with breakPending := c.startBreak.breakPending, breaking := c.startBreak.breaking } := by
  unfold LineCtl.startBreak
  split <;> rfl

theorem LineCtl.startBreak_ordered {c : LineCtl} (hbreaking : c.breaking = true → c.inFlight = none ∧ c.busy = false)
    (hbusy : c.busy = true → c.inFlight = none) : c.startBreak.Ordered := by
  unfold LineCtl.startBreak
  split
  next h => exact ⟨fun _ => ⟨h.2.1, h.2.2.2⟩, fun hb => absurd (h.2.2.2.symm.trans hb) (by simp), by simp⟩
  next h =>
    refine ⟨hbreaking, hbusy, fun hp => ?_⟩
    by_contra hno
    simp only [not_or, Bool.not_eq_true, Option.isSome_eq_false_iff, Option.isNone_iff_eq_none] at hno
    exact h ⟨hp, hno.1, hno.2.1, hno.2.2⟩

theorem Pad.halt_eq (q : Pad) : q.halt =
    { q with
      state := if q.state = .charging then .waiting else q.state
      grant := 0, sent := 0, prior := 0, decPending := false, reservation := 0, roundsLeft := 0 } := by
  unfold Pad.halt
  dsimp only
  split
  next h => simp [Pad.setState, Pad.clearReservation, Pad.clearFigures, SessionState.served]
  next => rfl

theorem Pad.halt_idle (q : Pad) : q.halt.Idle := by
  rw [Pad.halt_eq]
  exact ⟨rfl, rfl, rfl, rfl, rfl⟩

theorem Pad.Sound.halt {e : Bool} {q : Pad} (h : q.Sound e) : q.halt.Sound e := by
  have hm := h.matched
  have hs := h.served
  have hf := h.faulty
  rw [Pad.halt_eq]
  refine ⟨le_rfl, fun _ => rfl, ?_, ?_, ?_, ?_, h.energy⟩ <;> dsimp only <;> split
  next hc => simpa [hc] using hm
  next => exact hm
  next => simp
  next hc => simp [hc]
  next => exact fun _ => rfl
  next => exact hs
  next hc => simpa [hc] using hf
  next => exact hf

theorem haltEffects_line (s : State) (l : LineId) : (haltEffects s).lines[l.val] =
    ({ s.lines[l.val] with discovery := false, breakPending := true } : LineCtl).startBreak := by
  simp [haltEffects, LineCtl.askBreak]

theorem idle_haltEffects (s : State) : IdleUnlessRunning (haltEffects s) := by
  obtain ⟨-, htime, halloc⟩ := haltEffects_engine s
  intro _
  rw [halloc, htime]
  refine ⟨rfl, rfl, rfl, rfl, fun p => ?_⟩
  have h := Pad.halt_idle s.pads[p.val]
  rw [← haltEffects_get] at h
  exact ⟨h.grant, h.sent, h.prior, h.decPending, h.reservation⟩

theorem steady_haltEffects (s : State) : Steady s (haltEffects s) where
  sound := .of_pads (by simp) fun p e h => by
    simp only [Fin.getElem_fin, haltEffects_get]
    exact h.halt
  covers _ _ p hp := by
    simp only [Fin.getElem_fin, haltEffects_get, (Pad.halt_idle _).grant] at hp
    omega
  idle _ := idle_haltEffects s
  fresh hc hf := by
    obtain ⟨hshed, hstop⟩ := inputsNow_eq (s := s) (t := haltEffects s) (by simp) (by simp) (by simp)
    refine ⟨fun g => ?_, fun g => ?_, ?_⟩
    · simpa [State.feederRec] using hc g
    · simpa [hshed] using hf.1 g
    · rw [(haltEffects_engine s).1, hstop]
      exact hf.2
  within _ := by
    rw [withinLimits_iff]
    refine fun _ => needsShed_of_no_grant fun p => ?_
    simp only [Fin.getElem_fin, haltEffects_get]
    exact (Pad.halt_idle _).grant
  distinct h l := by
    simp only [Fin.getElem_fin, haltEffects_line]
    rw [LineCtl.startBreak_eq]
    exact h l
  ordered h := by
    rw [breaksOrdered_iff] at h ⊢
    intro l
    simp only [Fin.getElem_fin, haltEffects_line]
    exact LineCtl.startBreak_ordered (h l).breaking (h l).busy

theorem SweepAlone.of_none {s : State} (hsweep : s.alloc.sweep = none) (hheld : s.mode.held = none) :
    SweepAlone s :=
  ⟨fun x hx => by simp [hsweep] at hx, fun _ => hheld⟩

/-- The entry to HALTED where no scope change is held. -/
theorem haltEffects_alone {s : State} (hheld : s.mode.held = none) (hk : KeptListSound s) :
    SweepAlone (haltEffects s) ∧ KeptListSound (haltEffects s) := by
  obtain ⟨hmode, -, halloc⟩ := haltEffects_engine s
  exact ⟨.of_none (by rw [halloc]) (by rw [hmode]; exact hheld),
    hk.of_eq (by simp) (by rw [halloc]) (by rw [halloc])⟩

/-- The entry to HALTED with the held scope change that an abandoned sweep leaves (R86). -/
theorem keeps_haltScope (s : State) :
    Keeps s (if s.alloc.sweep.isSome then applyHeld (haltEffects s) else haltEffects s) := by
  split
  next hsweep =>
    have happly := keeps_applyHeld (haltEffects s)
    refine { (steady_haltEffects s).trans happly.toSteady with alone := fun _ _ hk => ?_ }
    obtain ⟨-, -, halloc⟩ := haltEffects_engine s
    have hk' : KeptListSound (haltEffects s) := hk.of_eq (by simp) (by rw [halloc]) (by rw [halloc])
    refine ⟨.of_none (by rw [applyHeld_alloc, halloc]) (applyHeld_held _), ?_⟩
    exact hk'.of_eq (by simp) (by simp) (by simp)
  next hsweep =>
    refine { steady_haltEffects s with alone := fun _ ha hk => haltEffects_alone (ha.2 ?_) hk }
    simpa using hsweep

end Sys2Proof.Machine

/-! PROOFS. An activation keeps the invariants (R17 to R23, R111, R196), and with it every entry to HALTED and the end of
a sweep. -/

namespace Sys2Proof.Machine

/-! ## A step on the lines alone -/

theorem Keeps.of_lines {s : State} {v : Vector LineCtl 4}
    (hdistinct : ∀ l : LineId, (s.lines[l].urgent.Nodup → (v[l]).urgent.Nodup)
      ∧ (s.lines[l].final.Nodup → (v[l]).final.Nodup))
    (hordered : ∀ l : LineId, (s.lines[l]).Ordered → (v[l]).Ordered) : Keeps s (s.withLines v) :=
  { Keeps.of_parts (s := s) (t := s) rfl (fun _ => rfl) rfl rfl (fun _ => id) rfl (fun _ => rfl) rfl rfl id with
    sound := id
    covers := fun _ => id
    idle := id
    fresh := fun hc hf => ⟨hc, hf⟩
    within := id
    distinct := fun h l => ⟨(hdistinct l).1 (h l).1, (hdistinct l).2 (h l).2⟩
    ordered := fun h => (breaksOrdered_iff _).mpr fun l => hordered l ((breaksOrdered_iff s).mp h l)
    alone := fun _ h h' => ⟨h, h'⟩ }

/-! ## What follows the inputs, formed anew (R23, R106, R111, R168) -/

/-- Every shed-input state, the stop latch and every effective capacity formed anew. -/
def reformAll (s : State) : State := storeAllCapacities (reformStop (reformAllSheds s))

theorem reformAll_fresh (s : State) : CapacityFresh (reformAll s) ∧ InputsFollowed (reformAll s) := by
  refine ⟨fun g => ?_, fun g => ?_, rfl⟩
  · simp [reformAll, storeAllCapacities]
    rfl
  · simp [reformAll, storeAllCapacities, reformAllSheds, reformStop]
    rfl

theorem reformAll_mode (s : State) : (reformAll s).mode = { s.mode with stopLatch := (reformAll s).stopLatchNow } := rfl

section
variable (s : State)

@[simp] theorem reformAll_time : (reformAll s).time = s.time := by simp [reformAll]
@[simp] theorem reformAll_tables : (reformAll s).tables = s.tables := by simp [reformAll]
@[simp] theorem reformAll_pads : (reformAll s).pads = s.pads := by simp [reformAll]
@[simp] theorem reformAll_alloc : (reformAll s).alloc = s.alloc := by simp [reformAll]
@[simp] theorem reformAll_lines : (reformAll s).lines = s.lines := by simp [reformAll]
@[simp] theorem reformAll_fleet : (reformAll s).fleet = s.fleet := by simp [reformAll]
@[simp] theorem reformAll_notices : (reformAll s).notices = s.notices := by simp [reformAll]
@[simp] theorem reformAll_signals : (reformAll s).signals = s.signals := by simp [reformAll]
@[simp] theorem reformAll_freeCount : (reformAll s).freeCount = s.freeCount := by simp [reformAll]

end

/-! ## The pads at an activation (R19, R33) -/

theorem Pad.activated_grant_le (x : PadClass) (b : Bool) (q : Pad) : (q.activated x b).grant ≤ q.grant := by
  cases x with
  | kept => cases b <;> exact le_rfl
  | disabled => exact Nat.zero_le _
  | moved => exact Nat.zero_le _
  | _ => exact le_rfl

theorem Pad.Idle.activated {q : Pad} (h : q.Idle) (x : PadClass) (b : Bool) : (q.activated x b).Idle := by
  obtain ⟨hg, hs, hp, hd, hr⟩ := h
  cases x with
  | kept => cases b <;> exact ⟨hg, hs, hp, hd, hr⟩
  | disabled => exact ⟨rfl, rfl, rfl, rfl, rfl⟩
  | moved => exact ⟨rfl, rfl, rfl, rfl, rfl⟩
  | _ => exact ⟨hg, hs, hp, hd, hr⟩

theorem Pad.Sound.sampleOnly {e : Bool} {q : Pad} (h : q.Sound e) (x : Option Nat) :
    Pad.Sound e { q with sample := x } :=
  ⟨h.ordered, h.settled, h.matched, h.powered, h.served, h.faulty, h.energy⟩

theorem Pad.Sound.activated {q : Pad} {old new : PadRec} (h : q.Sound old.enabled) (b : Bool) :
    (q.activated (padClass old new) b).Sound new.enabled := by
  have hdisabled : old.enabled = false → q.grant = 0 := fun he => h.grant_eq_zero (by
    rw [h.matched.mpr he]
    simp)
  unfold padClass
  cases hold : old.enabled <;> cases hnew : new.enabled <;> dsimp only <;> rw [hold] at h
  · exact h
  · have hg := hdisabled hold
    have hs : q.sent = 0 := Nat.le_zero.mp (hg ▸ h.ordered)
    refine ⟨?_, h.settled, ?_, ?_, ?_, ?_, fun _ => ⟨rfl, rfl⟩⟩ <;>
      simp [Pad.activated, Pad.activateEnabled, Pad.enterEmpty, Pad.dropDispatch, Pad.setState, SessionState.served,
        hg, hs]
  · refine ⟨le_rfl, fun _ => rfl, ?_, ?_, ?_, ?_, fun _ => ⟨rfl, rfl⟩⟩ <;>
      simp [Pad.activated, Pad.activateDisabled, Pad.dropDispatch, Pad.clearFigures, Pad.clearReservation,
        Pad.setState, SessionState.served]
  · split
    · cases b
      · exact h.sampleOnly none
      · exact h
    · refine ⟨le_rfl, fun _ => rfl, ?_, ?_, ?_, ?_, fun _ => ⟨rfl, rfl⟩⟩ <;>
        simp [Pad.activated, Pad.activateMoved, Pad.enterEmpty, Pad.dropDispatch, Pad.clearFigures,
          Pad.clearReservation, Pad.setState, SessionState.served]

/-- A pad that keeps a grant through an activation is one whose stay stands. -/
theorem Pad.activated_stays {q : Pad} {old new : PadRec} (h : q.Sound old.enabled) (b : Bool)
    (hpos : 0 < (q.activated (padClass old new) b).grant) :
    (q.activated (padClass old new) b).stayed = q.stayed := by
  unfold padClass at hpos ⊢
  cases hold : old.enabled <;> cases hnew : new.enabled <;> simp only [hold, hnew] at hpos ⊢
  · rfl
  · have hg : q.grant = 0 := h.grant_eq_zero (by
      rw [h.matched.mpr hold]
      simp)
    exact absurd hpos (by simp [Pad.activated, Pad.activateEnabled, Pad.enterEmpty, Pad.dropDispatch, Pad.setState, hg])
  · exact absurd hpos (by simp [Pad.activated, Pad.activateDisabled, Pad.dropDispatch, Pad.clearFigures,
      Pad.clearReservation, Pad.setState])
  · split at hpos
    next hkept =>
      rw [if_pos hkept]
      cases b <;> rfl
    next =>
      exact absurd hpos (by simp [Pad.activated, Pad.activateMoved, Pad.clearFigures, Pad.clearReservation])

section
variable (s : State) (old new : Bank)

theorem activatePads_get (p : PadId) : ((s.pads[p.val]).activated (classOf old new p) (keepsSample old new p)).Fall
    (activatePads old new s).pads[p.val] := by
  unfold activatePads
  dsimp only
  have hpad : (activateLines old new (s.mapPads fun p q =>
      q.activated (classOf old new p) (keepsSample old new p))).pads[p.val] =
        (s.pads[p.val]).activated (classOf old new p) (keepsSample old new p) := by
    simp [activateLines]
  rw [← hpad]
  split
  · exact (quiet_increaseRelease _).others p (by simp)
  · exact .refl _

theorem activateBanks_get (p : PadId) : ((s.pads[p.val]).activated (classOf s.tables.active s.tables.shadow p)
    (keepsSample s.tables.active s.tables.shadow p)).Fall (activateBanks s).pads[p.val] := by
  simp only [activateBanks, activateRest_pads]
  have h := activatePads_get (activateCopy s) s.tables.active s.tables.shadow p
  rwa [activateCopy_pads] at h

/-! ## The lines, the groups, the inputs and the rotation at an activation -/

/-- The pads of a line that leave their address when bank `old` gives way to bank `new` (R20). -/
def leaving (old new : Bank) (l : LineId) : List PadId :=
  allPads.filter fun p => (classOf old new p).leaves && (old.padRec p).line == l

/-- The lines at the copy of a bank: the urgent lists lose those pads, and the final poll lists gain their drops
(R20). -/
theorem activateLines_line (l : LineId) : (activateLines old new s).lines[l.val] =
    { s.lines[l.val] with
      urgent := s.lines[l.val].urgent.filter fun p => !(leaving old new l).contains p
      final := (freelyOrdered s.freeCount id ((leaving old new l).map fun p => (old.padRec p).drop)).foldl joinFinal
        s.lines[l.val].final } := by
  simp only [activateLines, State.spend_lines, State.mapLines_get]
  rfl

theorem activateBanks_lines : (activateBanks s).lines =
    (activateLines s.tables.active s.tables.shadow (activateCopy s)).lines := by
  simp only [activateBanks, activateRest_lines, activatePads]
  split
  · rw [increaseRelease_lines]
    rfl
  · rfl

theorem activateBanks_line (l : LineId) : (activateBanks s).lines[l.val] =
    { s.lines[l.val] with
      urgent := s.lines[l.val].urgent.filter fun p => !(leaving s.tables.active s.tables.shadow l).contains p
      final := (freelyOrdered s.freeCount id ((leaving s.tables.active s.tables.shadow l).map fun p =>
        (s.tables.active.padRec p).drop)).foldl joinFinal s.lines[l.val].final } := by
  simp only [activateBanks_lines, activateLines_line, activateCopy_lines, activateCopy_freeCount]

theorem joinFinal_nodup {l : List Nat} (h : l.Nodup) (drops : List Nat) : (drops.foldl joinFinal l).Nodup := by
  induction drops generalizing l with
  | nil => exact h
  | cons d ds ih =>
    refine ih ?_
    unfold joinFinal
    split
    · exact h
    next hd => exact List.nodup_append.mpr ⟨h, by simp, by
      rintro a ha b hb rfl
      exact hd (List.mem_singleton.mp hb ▸ ha)⟩

/-- Capacities and inputs are formed anew at the end of an activation's copy, whatever stood before (R23, R111). -/
theorem activateRest_fresh (before : Vector Pad 64) :
    CapacityFresh (activateRest old new before s) ∧ InputsFollowed (activateRest old new before s) :=
  reformAll_fresh _

theorem activateBanks_rotation : (activateBanks s).alloc.rotation =
    if (siteView s.tables.active.site).head = (siteView s.tables.shadow.site).head
      ∧ (siteView s.tables.active.site).tail = (siteView s.tables.shadow.site).tail then s.alloc.rotation else 0 := by
  simp only [activateBanks, activateRest_alloc, activateRotation]
  split <;> simp

end

/-! ## The copy of the bank with its check -/

theorem calm_endCheckOf (b : Bool) (s : State) : Calm none s (endCheckOf b s) := by
  cases b
  · exact calm_fastShedCheck s
  · exact calm_checkAtPassEnd s

theorem withinLimits_endCheckOf (b : Bool) (s : State) : WithinLimits (endCheckOf b s) := by
  cases b
  · exact withinLimits_fastShedCheck s
  · exact withinLimits_checkAtPassEnd s

theorem steady_activateBanks_check (b : Bool) (s : State) : Steady s (endCheckOf b (activateBanks s)) := by
  have hcheck : Steady (activateBanks s) (endCheckOf b (activateBanks s)) :=
    (calm_endCheckOf b _).steady fun _ => withinLimits_endCheckOf b _
  have hsound (hs : SessionsSound s) : SessionsSound (activateBanks s) := by
    rw [sessionsSound_iff] at hs ⊢
    intro p
    have hrec : (activateBanks s).padRec p = s.tables.shadow.padRec p := by simp [State.padRec]
    rw [hrec]
    exact (activateBanks_get s p).sound _ ((hs p).activated _)
  have halloc := activateBanks_alloc s
  have hmode := activateBanks_mode s
  refine
    { sound := hcheck.sound ∘ hsound
      covers := fun hs hk => hcheck.covers (hsound hs) fun p hp => ?_
      idle := fun hi => hcheck.idle fun hengine => ?_
      fresh := fun _ _ => (activateRest_fresh _ _ _ _).elim hcheck.fresh
      within := fun _ => withinLimits_endCheckOf b _
      distinct := fun hl => hcheck.distinct fun l => ?_
      ordered := fun ho => hcheck.ordered ((breaksOrdered_iff _).mpr fun l => ?_) }
  · have hget := activateBanks_get s p
    have hpos := hp.trans_le hget.grant
    rw [sessionsSound_iff] at hs
    have hstays := Pad.activated_stays (hs p) (keepsSample s.tables.active s.tables.shadow p) hpos
    have hkept := hk p (hpos.trans_le (Pad.activated_grant_le _ _ _))
    rw [halloc]
    exact ⟨hkept.1, fun h => hget.stayed.trans (hstays.trans (hkept.2 h))⟩
  · rw [hmode] at hengine
    obtain ⟨hsweep, hshed, hwaiting, htimer, hpads⟩ := hi hengine
    rw [halloc, activateBanks_time]
    refine ⟨hsweep, hshed, hwaiting, htimer, fun p => ?_⟩
    obtain ⟨hg, hs, hp, hd, hr⟩ := hpads p
    have := (activateBanks_get s p).idle (Pad.Idle.activated ⟨hg, hs, hp, hd, hr⟩ _ _)
    exact ⟨this.grant, this.sent, this.prior, this.decPending, this.reservation⟩
  · simp only [Fin.getElem_fin, activateBanks_line]
    exact ⟨(hl l).1.filter _, joinFinal_nodup (hl l).2 _⟩
  · have hl := (breaksOrdered_iff s).mp ho l
    simp only [Fin.getElem_fin, activateBanks_line]
    exact ⟨hl.breaking, hl.busy, hl.waiting⟩

theorem activateBanks_check_alone (b : Bool) {s : State} (hsweep : s.alloc.sweep = none) (ha : SweepAlone s)
    (hk : KeptListSound s) : SweepAlone (endCheckOf b (activateBanks s))
      ∧ KeptListSound (endCheckOf b (activateBanks s)) := by
  have halloc := (calm_endCheckOf b (activateBanks s)).alloc
  have halloc' := activateBanks_alloc s
  have hmode := activateBanks_mode s
  refine ⟨.of_none ?_ ?_, ?_, ?_⟩
  · rw [halloc, halloc']
    exact hsweep
  · rw [endCheckOf_mode, hmode]
    exact ha.2 hsweep
  · rw [halloc, halloc']
    exact hk.1
  · have hsite : (endCheckOf b (activateBanks s)).site = siteView s.tables.shadow.site := by simp [State.site]
    have hold : s.site = siteView s.tables.active.site := rfl
    have hrotation : (endCheckOf b (activateBanks s)).alloc.rotation = (activateBanks s).alloc.rotation := by
      rw [halloc]
    have hk2 := hk.2
    rw [hold] at hk2
    rw [hsite, hrotation, activateBanks_rotation]
    split
    next h => rwa [← h.1, ← h.2]
    next => omega

/-! ## Activation as a whole -/

theorem steady_haltIfStopped (old new : Bank) (s : State) : Steady s (haltIfStopped old new s) := by
  unfold haltIfStopped
  split
  · exact steady_haltEffects s
  · exact .refl s

theorem haltIfStopped_alone (old new : Bank) {s : State} (hheld : s.mode.held = none) (ha : SweepAlone s)
    (hk : KeptListSound s) :
    SweepAlone (haltIfStopped old new s) ∧ KeptListSound (haltIfStopped old new s) := by
  unfold haltIfStopped
  split
  · exact haltEffects_alone hheld hk
  · exact ⟨ha, hk⟩

theorem LineCtl.activateMark_eq (ms : List Nat) (c : LineCtl) :
    c.activateMark ms = { c with discovery := (c.activateMark ms).discovery } := by
  unfold LineCtl.activateMark
  dsimp only
  (repeat' split) <;> rfl

theorem keeps_activateMarks (s : State) : Keeps s (activateMarks s) := by
  unfold activateMarks
  split
  · refine Keeps.trans (Keeps.of_lines (fun l => ?_) fun l h => ?_) (keeps_endDiscoveryIfDone _) <;>
      simp only [Fin.getElem_fin, tabulate_get] <;> rw [LineCtl.activateMark_eq]
    · exact ⟨id, id⟩
    · exact ⟨h.breaking, h.busy, h.waiting⟩
  · exact .refl s

theorem steady_activate (b : Bool) (s : State) : Steady s (activate b s) := by
  rw [activate_eq]
  exact (steady_activateBanks_check b s).trans ((steady_haltIfStopped _ _ _).trans (keeps_activateMarks _).toSteady)

/-- An activation with no sweep in progress (R17). -/
theorem keeps_activate (b : Bool) (s : State) (hsweep : s.alloc.sweep = none) : Keeps s (activate b s) := by
  refine { steady_activate b s with alone := fun hi ha hk => ?_ }
  have hcheck := activateBanks_check_alone b hsweep ha hk
  have hheld : (endCheckOf b (activateBanks s)).mode.held = none := by
    rw [endCheckOf_mode, activateBanks_mode]
    exact ha.2 hsweep
  obtain ⟨ha', hk'⟩ := haltIfStopped_alone s.tables.active s.tables.shadow hheld hcheck.1 hcheck.2
  rw [activate_eq]
  exact (keeps_activateMarks _).alone
    ((steady_haltIfStopped _ _ _).idle ((steady_activateBanks_check b s).idle hi)) ha' hk'

theorem keeps_activatePending (s : State) (hsweep : s.alloc.sweep = none) : Keeps s (activatePending s) := by
  unfold activatePending
  split
  · exact keeps_activate false s hsweep
  · exact .refl s

theorem keeps_enterHalted (s : State) : Keeps s (enterHalted s) := by
  unfold enterHalted
  dsimp only
  refine (keeps_haltScope s).trans (keeps_activatePending _ ?_)
  have halloc := (haltEffects_engine s).2.2
  split
  · rw [applyHeld_alloc, halloc]
  · rw [halloc]

/-- The steps at a sweep's end (R86), once the sweep is over. -/
theorem keeps_sweepEnd (s : State) (hsweep : s.alloc.sweep = none) : Keeps s (sweepEnd s) :=
  (keeps_applyHeld s).trans ((keeps_activatePending _ (by simpa using hsweep)).trans (quiet_fastShedCheck _).keeps)

theorem keeps_enterDiscovering (s : State) (h : s.mode.engine = .halted) : Keeps s (enterDiscovering s) := by
  have hidle (hi : IdleUnlessRunning s) (e : EngineMode) :
      IdleUnlessRunning (s.withMode { s.mode with engine := e }) := fun _ => hi (by simp [h])
  have hmode : Keeps s (s.withMode { s.mode with engine := .discovering }) :=
    { Keeps.of_parts (s := s) (t := s) rfl (fun _ => rfl) rfl rfl (fun _ => id) rfl (fun _ => rfl) rfl rfl id with
      sound := id
      covers := fun _ => id
      idle := fun hi => hidle hi _
      fresh := fun hc hf => ⟨hc, hf⟩
      within := id
      alone := fun _ h h' => ⟨h, h'⟩ }
  refine hmode.trans (Keeps.trans (Keeps.of_lines (fun l => ?_) fun l h => ?_) (keeps_endDiscoveryIfDone _)) <;>
    simp only [Fin.getElem_fin, tabulate_get]
  · exact ⟨id, id⟩
  · refine ⟨fun hb => ?_, fun hb => ?_, fun hb => ?_⟩
    · exact ⟨by simpa using (h.breaking hb).1, (h.breaking hb).2⟩
    · simpa using h.busy hb
    · simpa using h.waiting hb

end Sys2Proof.Machine

/-! PROOFS. The rest of what a command does keeps the invariants: a reset and a RESTART, the issue stage and the end of a
pass, the timer, the capacities and the inputs, the lines, and the owners of the requests; and with them every step. -/

namespace Sys2Proof.Machine

/-! ## Power-on and RESTART (R180, R179) -/

theorem Pad.initial_idle : Pad.initial.Idle := ⟨rfl, rfl, rfl, rfl, rfl⟩

theorem Pad.restarted_sound (enabled : Bool) : (Pad.restarted enabled).Sound enabled := by
  cases enabled <;> exact ⟨by decide, by decide, by decide, by decide, by decide, by decide, by decide⟩

theorem Pad.restarted_idle (enabled : Bool) : (Pad.restarted enabled).Idle := ⟨rfl, rfl, rfl, rfl, rfl⟩

/-- With every figure 0 and no sweep in progress the engine is idle and its lists cover every grant. -/
theorem idle_of_zero {s : State} (hpads : ∀ p : PadId, (s.pads[p.val]).Idle) (hsweep : s.alloc.sweep = none)
    (hshed : s.alloc.fastShed = .none) (hwaiting : s.alloc.sweepWaiting = false) (htimer : s.time.timer = none) :
    IdleUnlessRunning s :=
  fun _ => ⟨hsweep, hshed, hwaiting, htimer, fun p =>
    ⟨(hpads p).grant, (hpads p).sent, (hpads p).prior, (hpads p).decPending, (hpads p).reservation⟩⟩

theorem covers_of_zero {s : State} (hpads : ∀ p : PadId, (s.pads[p.val]).Idle) : KeptListCovers s :=
  fun p hp => absurd (hpads p).grant (by simpa using hp.ne')

theorem within_of_zero {s : State} (hpads : ∀ p : PadId, (s.pads[p.val]).Idle) : WithinLimits s :=
  (withinLimits_iff s).mpr fun _ => needsShed_of_no_grant fun p => (hpads p).grant

/-- An empty kept list with the offset at 0 is sound for every site record. -/
theorem keptListSound_of_empty {s : State} (hkept : s.alloc.kept = []) (hrotation : s.alloc.rotation = 0) :
    KeptListSound s := by
  refine ⟨by simp [hkept], ?_⟩
  rw [hrotation]
  omega

section
variable (level : Vector Bool 8) (n : Nat) (q : List Instr)

theorem afterPowerOn_pad (p : PadId) : (State.afterPowerOn level n q).pads[p.val] = Pad.initial := by
  simp [State.afterPowerOn]

theorem afterPowerOn_group (g : GroupId) : (State.afterPowerOn level n q).groups[g.val] = Group.initial := by
  simp [State.afterPowerOn]

theorem afterPowerOn_line (l : LineId) : (State.afterPowerOn level n q).lines[l.val] = LineCtl.initial := by
  simp [State.afterPowerOn]

theorem afterPowerOn_sound : SessionsSound (State.afterPowerOn level n q) := by
  rw [sessionsSound_iff]
  intro p
  have hrec : (State.afterPowerOn level n q).padRec p = padView (Vector.replicate 12 0) := by
    simp [State.padRec, State.afterPowerOn, Bank.padRec, Bank.zero]
  simp only [Fin.getElem_fin, afterPowerOn_pad, hrec]
  exact Pad.restarted_sound false

theorem afterPowerOn_idle (p : PadId) : ((State.afterPowerOn level n q).pads[p.val]).Idle := by
  rw [afterPowerOn_pad]
  exact Pad.initial_idle

theorem afterPowerOn_fresh :
    CapacityFresh (State.afterPowerOn level n q) ∧ InputsFollowed (State.afterPowerOn level n q) := by
  have hinput (i : InputId) : (State.afterPowerOn level n q).inputRec i = inputView (Vector.replicate 4 0) := by
    simp [State.inputRec, State.afterPowerOn, Bank.inputRec, Bank.zero]
  refine ⟨fun g => ?_, fun g => ?_, ?_⟩
  · have hrec : (State.afterPowerOn level n q).feederRec g = feederView (Vector.replicate 16 0) := by
      simp [State.feederRec, State.afterPowerOn, Bank.feederRec, Bank.zero]
    simp only [Fin.getElem_fin, afterPowerOn_group, hrec]
    decide
  · have hnone : (State.afterPowerOn level n q).shedInputNow g = false := by
      simp only [State.shedInputNow, hinput]
      simp [inputView, functionOf]
    simp only [Fin.getElem_fin, afterPowerOn_group, hnone]
    rfl
  · have hnone : (State.afterPowerOn level n q).stopLatchNow = false := by
      simp only [State.stopLatchNow, hinput]
      simp [inputView, functionOf]
    rw [hnone]
    rfl

theorem afterPowerOn_distinct : ListsDistinct (State.afterPowerOn level n q) := fun l => by
  simp [afterPowerOn_line, LineCtl.initial]

theorem afterPowerOn_ordered : BreaksOrdered (State.afterPowerOn level n q) := fun l => by
  simp [afterPowerOn_line, LineCtl.initial]

theorem afterPowerOn_alone : SweepAlone (State.afterPowerOn level n q) ∧ KeptListSound (State.afterPowerOn level n q) :=
  ⟨.of_none rfl rfl, keptListSound_of_empty rfl rfl⟩

theorem keeps_afterPowerOn (s : State) : Keeps s (State.afterPowerOn level n q) where
  sound _ := afterPowerOn_sound level n q
  covers _ _ := covers_of_zero (afterPowerOn_idle level n q)
  idle _ := idle_of_zero (afterPowerOn_idle level n q) rfl rfl rfl rfl
  within _ := within_of_zero (afterPowerOn_idle level n q)
  distinct _ := afterPowerOn_distinct level n q
  ordered _ := afterPowerOn_ordered level n q
  fresh _ _ := afterPowerOn_fresh level n q
  alone _ _ _ := afterPowerOn_alone level n q

end

/-- The blocks but for the signal lines at a RESTART. -/
def restartedBlocks (s : State) : State := restartPorts (restartBlocks (haltEffects (restartTables s)))

/-- A RESTART up to the fast-shed check that ends it, with what follows the inputs still to be formed anew. -/
def restartedInputs (s : State) : State :=
  let v := (restartedBlocks s).withSignals { (restartedBlocks s).signals with latch := tabulate 8 fun _ => false }
  raiseIf (allInputs.any v.entersLevel) .inputEvent v

theorem restartEffect_eq (s : State) : restartEffect s = fastShedCheck (reformAll (restartedInputs s)) := rfl

section
variable (s : State)

theorem restartedInputs_pad (p : PadId) :
    (restartedInputs s).pads[p.val] = Pad.restarted (s.padRec p).enabled := by
  simp [restartedInputs, restartedBlocks, restartPorts, restartBlocks, restartTables, State.padRec]

theorem restartedInputs_line (l : LineId) : (restartedInputs s).lines[l.val] =
    ({ s.lines[l.val] with discovery := false, breakPending := true } : LineCtl).startBreak.restarted := by
  have hhalt := haltEffects_line (restartTables s) l
  simp only [restartedInputs, raiseIf_lines, State.withSignals_lines, restartedBlocks, restartPorts,
    State.withFleet_lines, State.withNotices_lines, restartBlocks, State.withMode_lines, State.withAlloc_lines,
    State.mapLines_get, State.mapGroups_lines, State.mapPads_lines, hhalt]
  rfl

theorem restartedInputs_alloc : (restartedInputs s).alloc =
    { sweep := none, fastShed := .none, sweepWaiting := false, rotation := 0, rounds := 0, kept := [] } := by
  simp [restartedInputs, restartedBlocks, restartPorts, restartBlocks, haltEffects]

theorem restartedInputs_tables : (restartedInputs s).tables =
    { s.tables with shadow := s.tables.active, commit := .idle, window := none } := by
  simp [restartedInputs, restartedBlocks, restartPorts, restartBlocks, restartTables]

theorem restartedInputs_time : (restartedInputs s).time = { s.time with timer := none } := by
  simp [restartedInputs, restartedBlocks, restartPorts, restartBlocks, restartTables, haltEffects]

theorem restartedInputs_mode : (restartedInputs s).mode =
    { engine := .halted, resolution := .fine, scope := .full, held := none, stopLatch := s.mode.stopLatch } := by
  simp [restartedInputs, restartedBlocks, restartPorts, restartBlocks, restartTables, haltEffects]

end

theorem keeps_restartEffect (s : State) : Keeps s (restartEffect s) := by
  have hidle (p : PadId) : ((reformAll (restartedInputs s)).pads[p.val]).Idle := by
    simp only [reformAll_pads, restartedInputs_pad]
    exact Pad.restarted_idle _
  have halloc : (reformAll (restartedInputs s)).alloc = _ := (reformAll_alloc _).trans (restartedInputs_alloc s)
  have hsettled : Keeps s (reformAll (restartedInputs s)) :=
    { sound := fun _ => by
        rw [sessionsSound_iff]
        intro p
        have hrec : (reformAll (restartedInputs s)).padRec p = s.padRec p := by simp [State.padRec, restartedInputs_tables]
        simp only [Fin.getElem_fin, reformAll_pads, restartedInputs_pad, hrec]
        exact Pad.restarted_sound _
      covers := fun _ _ => covers_of_zero hidle
      idle := fun _ => idle_of_zero hidle (by rw [halloc]) (by rw [halloc]) (by rw [halloc])
        (by rw [reformAll_time, restartedInputs_time])
      within := fun _ => within_of_zero hidle
      distinct := fun h l => by
        simp only [Fin.getElem_fin, reformAll_lines, restartedInputs_line, LineCtl.restarted]
        rw [LineCtl.startBreak_eq]
        exact h l
      ordered := fun h => by
        rw [breaksOrdered_iff] at h ⊢
        intro l
        simp only [Fin.getElem_fin, reformAll_lines, restartedInputs_line]
        have hbreak := LineCtl.startBreak_ordered
          (c := { s.lines[l.val] with discovery := false, breakPending := true }) (h l).breaking (h l).busy
        exact ⟨hbreak.breaking, hbreak.busy, hbreak.waiting⟩
      fresh := fun _ _ => reformAll_fresh _
      alone := fun _ _ _ =>
        ⟨.of_none (by rw [halloc]) (by rw [reformAll_mode, restartedInputs_mode]),
          keptListSound_of_empty (by rw [halloc]) (by rw [halloc])⟩ }
  rw [restartEffect_eq]
  exact hsettled.trans (quiet_fastShedCheck _).keeps

/-! ## The issue stage (R58, R73 to R75, R86) -/

theorem entryOf_pad {x : Snapshot} {o : Nat} {p : PadId} {e : Entry} (h : entryOf x o p = some e) : e.pad = p := by
  unfold entryOf at h
  dsimp only at h
  split at h
  · split at h
    · simp only [Option.some.injEq] at h
      rw [← h]
    · exact absurd h (by simp)
  · exact absurd h (by simp)

theorem mem_orderList {x : Snapshot} {o : Nat} {e : Entry} :
    e ∈ orderList x o ↔ entryOf x o e.pad = some e := by
  unfold orderList
  rw [(sortBy_perm _ _).mem_iff, List.mem_filterMap]
  constructor
  · rintro ⟨p, -, h⟩
    rwa [entryOf_pad h]
  · exact fun h => ⟨e.pad, by simp [allPads], h⟩

/-- No pad stands twice on the grant order list (R67). -/
theorem orderList_nodup (x : Snapshot) (o : Nat) : ((orderList x o).map Entry.pad).Nodup := by
  have hperm := (sortBy_perm Entry.precedes (allPads.filterMap (entryOf x o))).map Entry.pad
  refine hperm.nodup_iff.mpr ?_
  rw [List.map_filterMap]
  refine allPads_nodup.filterMap fun p p' b hp hp' => ?_
  simp only [Option.mem_def, Option.map_eq_some_iff] at hp hp'
  obtain ⟨e, he, rfl⟩ := hp
  obtain ⟨e', he', hb⟩ := hp'
  rw [← entryOf_pad he, ← entryOf_pad he', hb]

theorem passOne_entries (round : Capability → Nat → Nat) (w : Pool) (es : List Entry) :
    (passOne round w es).1.map Prod.fst = es := by
  induction es generalizing w with
  | nil => rfl
  | cons e es ih => simp [passOne, ih]

theorem passTwo_pads (round : Capability → Nat → Nat) (w : Pool) (es : List (Entry × Nat)) :
    (passTwo round w es).map Prod.fst = es.map fun x => x.1.pad := by
  induction es generalizing w with
  | nil => rfl
  | cons e es ih => simp [passTwo, ih]

/-- A sweep's grants are those of the pads of its list, in list order. -/
theorem sweepGrants_pads (x : Snapshot) (o : Nat) :
    (sweepGrants x o).map Prod.fst = (orderList x o).map Entry.pad := by
  unfold sweepGrants
  dsimp only
  rw [passTwo_pads]
  conv => rhs; rw [← passOne_entries (roundGrant x.resolution (siteView x.bank.site).step) (poolOf x)
    (orderList x o), List.map_map]
  rfl

theorem mem_of_newGrant_pos {x : Snapshot} {o : Nat} {p : PadId} (h : 0 < newGrant (sweepGrants x o) p) :
    p ∈ (orderList x o).map Entry.pad := by
  rw [← sweepGrants_pads]
  by_contra hno
  have hnone : (sweepGrants x o).lookup p = none := by
    rw [List.lookup_eq_none_iff]
    intro y hy
    rw [bne_iff_ne]
    rintro rfl
    exact hno (List.mem_map_of_mem hy)
  simp [newGrant, hnone] at h

/-- A pad of the issue set after the issue of grant `g`, the increase release apart (R74, R75). -/
def Pad.issued (g : Nat) (q : Pad) : Pad := if q.stayed then ((if g < q.sent then q.lower g else q).issue g) else q

theorem Pad.writeNeed_eq (es : List Entry) (p : PadId) (q : Pad) :
    q.writeNeed es p = { q with need := (q.writeNeed es p).need, urgency := (q.writeNeed es p).urgency } := by
  unfold Pad.writeNeed
  split <;> rfl

theorem issuePads_get (x : Snapshot) (s : State) (p : PadId) : (issuePads x s).pads[p.val] =
    ((s.pads[p.val]).issued (newGrant (sweepGrants x s.alloc.rotation) p)).writeNeed
      (orderList x s.alloc.rotation) p := by
  unfold issuePads Pad.issued
  dsimp only
  rw [State.mapPads_get, decreaseMany_get]
  by_cases hs : s.pads[p.val].stayed = true
  · by_cases hlt : newGrant (sweepGrants x s.alloc.rotation) p < s.pads[p.val].sent <;> simp [hs, hlt]
  · simp [hs]

theorem Pad.Sound.issued {e : Bool} {q : Pad} (h : q.Sound e) (g : Nat) : (q.issued g).Sound e := by
  unfold Pad.issued
  split
  next hstay =>
    have hserved := h.served hstay
    have he : e = true := h.enabled (by
      intro hd
      simp [hd, SessionState.served] at hserved)
    have hfault : q.fault.isSome = false := by
      rw [← Bool.not_eq_true, h.faulty]
      intro hf
      simp [hf, SessionState.served] at hserved
    have hstate (x : Nat) : (if 0 < x then SessionState.charging else .waiting) ≠ .disabled
        ∧ (if 0 < x then SessionState.charging else .waiting) ≠ .faulted
        ∧ (0 < x ↔ (if 0 < x then SessionState.charging else .waiting) = .charging)
        ∧ (if 0 < x then SessionState.charging else .waiting).served = true := by
      split <;> simp [SessionState.served] <;> omega
    obtain ⟨hd, hf, hc, hsv⟩ := hstate g
    split
    next hlt =>
      simp only [Pad.issue, Pad.setState, Pad.lower_eq]
      refine ⟨min_le_left _ _, ?_, by simp [hd, he], hc, fun _ => hsv, by simp [hfault, hf], h.energy⟩
      simp [hlt]
    next hle =>
      have hp := h.settled
      refine ⟨by simpa [Pad.issue, Pad.setState] using hle, hp, ?_, hc, fun _ => hsv, ?_, h.energy⟩
      · simp [Pad.issue, Pad.setState, hd, he]
      · simp [Pad.issue, Pad.setState, hfault, hf]
  next => exact h

theorem Pad.issued_grant (g : Nat) (q : Pad) : (q.issued g).grant = if q.stayed then g else q.grant := by
  unfold Pad.issued Pad.issue
  split <;> rfl

/-- The state with the grants of a sweep issued and the sweep completed (R58). -/
def issued (x : Snapshot) (s : State) : State := completeSweep x (increaseRelease (issuePads x s))

theorem issueStage_eq {s : State} {x : Snapshot} (h : s.alloc.sweep = some x) :
    issueStage s = sweepEnd (issued x s) := by
  simp [issueStage, h, issued]

theorem issued_get (x : Snapshot) (s : State) (p : PadId) :
    (((s.pads[p.val]).issued (newGrant (sweepGrants x s.alloc.rotation) p)).writeNeed
      (orderList x s.alloc.rotation) p).Fall (issued x s).pads[p.val] := by
  rw [← issuePads_get]
  exact (quiet_increaseRelease (issuePads x s)).others p (by simp)

theorem issued_alloc (x : Snapshot) (s : State) : (issued x s).alloc =
    { s.alloc with
      kept := (orderList x s.alloc.rotation).map Entry.pad
      rotation := nextRotation (siteView x.bank.site) s.alloc.rotation
      rounds := s.alloc.rounds + 1, sweep := none } := by
  simp [issued, completeSweep, issuePads]

section
variable (x : Snapshot) (s : State)

@[simp] theorem issued_time : (issued x s).time = s.time := by simp [issued, completeSweep, issuePads]
@[simp] theorem issued_tables : (issued x s).tables = s.tables := by simp [issued, completeSweep, issuePads]
@[simp] theorem issued_groups : (issued x s).groups = s.groups := by simp [issued, completeSweep, issuePads]
@[simp] theorem issued_mode : (issued x s).mode = s.mode := by simp [issued, completeSweep, issuePads]
@[simp] theorem issued_signals : (issued x s).signals = s.signals := by simp [issued, completeSweep, issuePads]
@[simp] theorem issued_lines : (issued x s).lines = (issuePads x s).lines := by simp [issued, completeSweep]

end

theorem issued_line (x : Snapshot) (s : State) (l : LineId) : ∃ target : PadId → Option Nat,
    (issued x s).lines[l.val] =
      { s.lines[l.val] with urgent := s.lines[l.val].urgent ++ joiningMany target s l } :=
  ⟨_, by simp only [issued_lines, issuePads, State.mapPads_lines]; exact decreaseMany_line _ _ _⟩

theorem nextRotation_sound (r : SiteRec) (o : Nat) : nextRotation r o < 64 - r.head - r.tail
    ∨ (64 - r.head - r.tail = 0 ∧ nextRotation r o = 0) := by
  unfold nextRotation
  split
  next h => exact .inr ⟨h, rfl⟩
  next h => exact .inl (Nat.mod_lt _ (by omega))

theorem withinLimits_sweepEnd (s : State) : WithinLimits (sweepEnd s) := withinLimits_fastShedCheck _

theorem keeps_issueStage (s : State) : Keeps s (issueStage s) := by
  cases hsweep : s.alloc.sweep with
  | none =>
    have hsame : issueStage s = s := by simp [issueStage, hsweep]
    rw [hsame]
    exact .refl s
  | some x =>
    have halloc := issued_alloc x s
    have hnone : (issued x s).alloc.sweep = none := by rw [halloc]
    have hend := keeps_sweepEnd (issued x s) hnone
    have hsound (hs : SessionsSound s) : SessionsSound (issued x s) := by
      rw [sessionsSound_iff] at hs ⊢
      intro p
      have hrec : (issued x s).padRec p = s.padRec p := by simp [State.padRec]
      rw [hrec]
      refine (issued_get x s p).sound _ ?_
      have h := (hs p).issued (newGrant (sweepGrants x s.alloc.rotation) p)
      rw [Pad.writeNeed_eq]
      exact ⟨h.ordered, h.settled, h.matched, h.powered, h.served, h.faulty, h.energy⟩
    have hidle (hi : IdleUnlessRunning s) : IdleUnlessRunning (issued x s) := fun hengine => by
      rw [issued_mode] at hengine
      exact absurd (hi hengine).1 (by simp [hsweep])
    rw [issueStage_eq hsweep]
    refine
      { sound := hend.sound ∘ hsound
        covers := fun hs hk => hend.covers (hsound hs) fun p hp => ⟨?_, fun h => by simp [hnone] at h⟩
        idle := hend.idle ∘ hidle
        within := fun _ => withinLimits_sweepEnd _
        distinct := fun h => hend.distinct fun l => ?_
        ordered := fun h => hend.ordered ((breaksOrdered_iff _).mpr fun l => ?_)
        fresh := fun hc hf => hend.fresh ?_ ?_
        alone := fun hi ha hk => ?_ }
    · have hpos := hp.trans_le (issued_get x s p).grant
      rw [Pad.writeNeed_eq, Pad.issued_grant] at hpos
      rw [halloc]
      split at hpos
      · exact mem_of_newGrant_pos hpos
      next hstay => exact absurd ((hk p hpos).2 (by simp [hsweep])) hstay
    · simp only [Fin.getElem_fin, issued_lines, issuePads, State.mapPads_lines]
      refine ⟨decreaseMany_nodup _ (h l).1, ?_⟩
      rw [decreaseMany_line]
      exact (h l).2
    · obtain ⟨target, hline⟩ := issued_line x s l
      have hl := (breaksOrdered_iff s).mp h l
      simp only [Fin.getElem_fin, hline]
      exact ⟨hl.breaking, hl.busy, hl.waiting⟩
    · exact (capacityFresh_iff_of_eq (by simp) (by simp)).mpr hc
    · obtain ⟨hshed, hstop⟩ := inputsNow_eq (s := s) (t := issued x s) (by simp) (by simp) (by simp)
      exact ⟨fun g => by simpa [hshed] using hf.1 g, by rw [issued_mode, hstop]; exact hf.2⟩
    · have hbank : x.bank = s.tables.active := (ha.1 x hsweep).2
      have hk' : KeptListSound (issued x s) := by
        have hsite : (issued x s).site = siteView x.bank.site := by simp [State.site, hbank]
        unfold KeptListSound
        rw [hsite, halloc]
        exact ⟨orderList_nodup x _, nextRotation_sound _ _⟩
      have hheld : SweepAlone (applyHeld (issued x s)) :=
        .of_none (by rw [applyHeld_alloc, hnone]) (applyHeld_held _)
      have hkept : KeptListSound (applyHeld (issued x s)) := hk'.of_eq (by simp) (by simp) (by simp)
      have happly := (keeps_applyHeld (issued x s)).idle (hidle hi)
      exact ((keeps_activatePending _ (by rw [applyHeld_alloc, hnone])).trans (quiet_fastShedCheck _).keeps).alone
        happly hheld hkept

end Sys2Proof.Machine

/-! PROOFS. The pass, the timer, the capacities, the inputs, the lines and the owners keep the invariants; and with them
every step does. -/

namespace Sys2Proof.Machine

/-! ## The end of a pass and the round timer (R57, R84) -/

theorem steady_startWaiting (s : State) : Steady s (startWaiting s) := by
  unfold startWaiting
  split
  next h =>
    refine steady_startSweep s fun hi => ?_
    by_contra hengine
    rw [(hi hengine).2.2.1] at h
    simp at h
  next => exact .refl s

theorem startWaiting_alone {s : State} (ha : SweepAlone s) (hk : KeptListSound s) :
    SweepAlone (startWaiting s) ∧ KeptListSound (startWaiting s) := by
  unfold startWaiting
  split
  next h => exact startSweep_alone h.2 hk
  next => exact ⟨ha, hk⟩

theorem keeps_passEnd (s : State) : Keeps s (passEnd s) := by
  unfold passEnd
  split
  next hrunning =>
    have hend : Steady s (if s.tables.commit = .pending then activate true s else checkAtPassEnd s) := by
      split
      · exact steady_activate true s
      · exact (calm_checkAtPassEnd s).steady fun _ => withinLimits_checkAtPassEnd s
    refine { hend.trans (steady_startWaiting _) with alone := fun hi ha hk => ?_ }
    have hnone : s.alloc.sweep = none := by
      by_contra hsome
      obtain ⟨x, hx⟩ := Option.ne_none_iff_exists'.mp hsome
      exact (ha.1 x hx).1 hrunning
    have hended : SweepAlone (if s.tables.commit = .pending then activate true s else checkAtPassEnd s)
        ∧ KeptListSound (if s.tables.commit = .pending then activate true s else checkAtPassEnd s) := by
      split
      · exact (keeps_activate true s hnone).alone hi ha hk
      · exact (calm_checkAtPassEnd s).alone (fun h => by simp [hnone] at h) ha hk
    exact startWaiting_alone hended.1 hended.2
  next => exact .refl s

theorem keeps_timerExpiry (s : State) : Keeps s (timerExpiry s) := by
  unfold timerExpiry
  split
  next h =>
    have htimer := keeps_startTimer s h.1
    dsimp only
    split
    next hrunning =>
      have hwait : Keeps (startTimer s)
          ((startTimer s).withAlloc { (startTimer s).alloc with sweepWaiting := true }) :=
        { Keeps.refl (startTimer s) with
          sound := id
          covers := fun _ => id
          idle := fun _ hengine => absurd (by simpa using h.1) hengine
          within := id
          fresh := fun hc hf => ⟨hc, hf⟩
          alone := fun _ ha hk => ⟨ha, hk⟩ }
      exact htimer.trans hwait
    next hrunning =>
      have hsweep : Keeps (startTimer s) (startSweep (startTimer s)) :=
        { steady_startSweep (startTimer s) fun _ => by simpa using h.1 with
          alone := fun _ _ hk => startSweep_alone hrunning hk }
      exact htimer.trans hsweep
  next => exact .refl s

/-! ## Capacities (R92, R94, R95) -/

/-- A recomputed capacity is fresh where the others were. -/
theorem recompute_fresh {u : State} (g : GroupId)
    (h : ∀ k : GroupId, k ≠ g → u.groups[k.val].capacity = capacityOf (u.feederRec k) u.groups[k.val]) :
    CapacityFresh (recompute g u) := by
  have hstored : CapacityFresh (storeCapacity g u) := fun k => by
    have hrec : (storeCapacity g u).feederRec k = u.feederRec k := by simp [State.feederRec]
    simp only [Fin.getElem_fin, storeCapacity_get, hrec]
    split
    · rfl
    next hne => exact h k (Ne.symm hne)
  unfold recompute
  split
  · exact (calm_fastShedCheck _).fresh hstored
  · exact hstored

/-- A group changed but for its capacity, and that recomputed. -/
theorem Keeps.recomputed {s u : State} (g : GroupId) (hactive : u.tables.active = s.tables.active)
    (hpads : u.pads = s.pads) (halloc : u.alloc = s.alloc) (hlines : u.lines = s.lines)
    (hmode : u.mode.engine = s.mode.engine) (hheld : u.mode.held = s.mode.held) (htime : u.time = s.time)
    (hcapacity : ∀ k : GroupId, u.groups[k].capacity = s.groups[k].capacity)
    (hothers : ∀ k : GroupId, k ≠ g → u.groups[k] = s.groups[k])
    (hinputs : InputsFollowed s → InputsFollowed u) : Keeps s (recompute g u) := by
  have hfirm : Firm s u :=
    .of_blocks hactive (fun p => by rw [hpads]) halloc hmode hlines hcapacity (fun h => by rw [htime, h])
  have hquiet := (quiet_recompute g u).keeps
  refine
    { hfirm.trans hquiet.toFirm with
      fresh := fun hc hf => ⟨recompute_fresh g fun k hk => ?_, ?_⟩
      alone := fun hi ha hk => hquiet.alone (hfirm.idle hi) (ha.of_eq hactive halloc fun _ h => hheld.trans h)
        (hk.of_eq hactive (by rw [halloc]) (by rw [halloc])) }
  · have hrec : u.feederRec k = s.feederRec k := by simp only [State.feederRec, hactive]
    have hk' := hc k
    rw [← hothers k hk, ← hrec] at hk'
    exact hk'
  · obtain ⟨hshed, hstop⟩ := inputsNow_eq (s := u) (t := recompute g u) (by simp) (by simp) (by simp)
    have hu := hinputs hf
    refine ⟨fun k => ?_, by rw [recompute_mode, hstop]; exact hu.2⟩
    have hgroup := (quiet_recompute g u).groups k
    rw [hgroup, hshed]
    exact hu.1 k

theorem InputsFollowed.of_eq {s t : State} (hactive : t.tables.active = s.tables.active)
    (hsignals : t.signals = s.signals) (hshed : ∀ g : GroupId, t.groups[g].shedInput = s.groups[g].shedInput)
    (hstop : t.mode.stopLatch = s.mode.stopLatch) (h : InputsFollowed s) : InputsFollowed t := by
  obtain ⟨hs, hl⟩ := inputsNow_eq (s := s) (t := t) hactive (by rw [hsignals]) (by rw [hsignals])
  exact ⟨fun g => by rw [hshed, hs]; exact h.1 g, by rw [hstop, hl]; exact h.2⟩

/-- A group's headroom or its state changed, with the capacity that follows. -/
theorem keeps_headroomChange (g : GroupId) (f : Group → Group) (k : Option Notice) (s : State)
    (hf : ∀ x : Group, (f x).capacity = x.capacity ∧ (f x).shedInput = x.shedInput) :
    Keeps s (recompute g (raiseAll k.toList (s.updGroup g f))) := by
  refine Keeps.recomputed g (by simp) (by simp) (by simp) (by simp) (by simp) (by simp) (by simp) (fun h => ?_)
    (fun h hne => ?_) (.of_eq (by simp) (by simp) (fun h => ?_) (by simp)) <;>
    simp only [Fin.getElem_fin, raiseAll_groups, State.updGroup_get]
  · split
    · exact (hf _).1
    · rfl
  · rw [if_neg (Ne.symm hne)]
  · split
    · exact (hf _).2
    · rfl

theorem keeps_turnStale (g : GroupId) (s : State) : Keeps s (turnStale g s) := by
  unfold turnStale
  split
  · exact keeps_headroomChange g _ (some .headroomStale) s fun _ => ⟨rfl, rfl⟩
  · exact .refl s

/-! ## Inputs (R106, R168, R191 to R196) -/

/-- What follows the inputs, but for what follows input `i`: the shed-input state of its group where its function is
SHED, and the stop latch where it is STOP (R106, R168). -/
def FollowedBut (i : InputId) (s : State) : Prop :=
  (∀ g : GroupId, ((s.inputRec i).function = .shed ∧ (s.inputRec i).group = g) ∨ s.groups[g].shedInput = s.shedInputNow g)
    ∧ ((s.inputRec i).function = .stop ∨ s.mode.stopLatch = s.stopLatchNow)

theorem FollowedBut.of_inputs {i : InputId} {s t : State} (hactive : t.tables.active = s.tables.active)
    (hgroups : t.groups = s.groups) (hmode : t.mode = s.mode)
    (hinputs : ∀ j : InputId, j ≠ i → t.signals.taken[j] = s.signals.taken[j] ∧ t.signals.latch[j] = s.signals.latch[j])
    (h : InputsFollowed s) : FollowedBut i t := by
  have hrec (j : InputId) : t.inputRec j = s.inputRec j := by simp only [State.inputRec, hactive]
  refine ⟨fun g => ?_, ?_⟩
  · refine or_iff_not_imp_left.mpr fun hno => ?_
    rw [hgroups, h.1 g]
    unfold State.shedInputNow
    congr 1
    funext j
    by_cases hj : j = i
    · subst hj
      have hfalse : ((s.inputRec j).function == .shed && (s.inputRec j).group == g) = false := by
        rw [hrec] at hno
        simpa using hno
      rw [hrec, hfalse, Bool.false_and, Bool.false_and]
    · simp only [State.active, hrec, hinputs j hj]
  · refine or_iff_not_imp_left.mpr fun hno => ?_
    rw [hmode, h.2]
    unfold State.stopLatchNow
    congr 1
    funext j
    by_cases hj : j = i
    · subst hj
      have hfalse : ((s.inputRec j).function == .stop) = false := by
        rw [hrec] at hno
        simpa using hno
      simp only [hrec, hfalse, Bool.false_and]
    · rw [hrec, (hinputs j hj).2]

theorem updGroup_followed {g : GroupId} {s : State}
    (hothers : ∀ h : GroupId, h ≠ g → s.groups[h].shedInput = s.shedInputNow h)
    (hstop : s.mode.stopLatch = s.stopLatchNow) :
    InputsFollowed (s.updGroup g fun x => { x with shedInput := s.shedInputNow g }) := by
  refine ⟨fun h => ?_, hstop⟩
  change _ = s.shedInputNow h
  simp only [Fin.getElem_fin, State.updGroup_get]
  split
  next hg => rw [hg]
  next hg => exact hothers h (Ne.symm hg)

/-- Where the function of input `i` is neither SHED nor STOP, nothing follows it. -/
theorem FollowedBut.followed {i : InputId} {s : State} (h : FollowedBut i s) (hshed : (s.inputRec i).function ≠ .shed)
    (hstop : (s.inputRec i).function ≠ .stop) : InputsFollowed s :=
  ⟨fun g => (h.1 g).resolve_left fun hg => hshed hg.1, h.2.resolve_left hstop⟩

section
variable {s t : State}

/-- A change of the inputs alone, with what the invariants need of it. -/
theorem firm_inputs (ht : t = { s with signals := t.signals }) : Firm s t :=
  .of_blocks (by rw [ht]) (fun p => by rw [ht]) (by rw [ht]) (by rw [ht]) (by rw [ht]) (fun g => by rw [ht])
    (fun h => by rw [ht]; exact h)

theorem fresh_inputs (ht : t = { s with signals := t.signals }) (h : CapacityFresh s) : CapacityFresh t :=
  (capacityFresh_iff_of_eq (by rw [ht]) (by rw [ht])).mpr h

theorem alone_inputs (ht : t = { s with signals := t.signals }) (ha : SweepAlone s) (hk : KeptListSound s) :
    SweepAlone t ∧ KeptListSound t :=
  ⟨ha.of_eq (by rw [ht]) (by rw [ht]) fun _ h => by rw [ht]; exact h,
    hk.of_eq (by rw [ht]) (by rw [ht]) (by rw [ht])⟩

theorem keeps_inputs (ht : t = { s with signals := t.signals }) (hf : InputsFollowed s → InputsFollowed t) :
    Keeps s t :=
  { firm_inputs ht with
    fresh := fun hc hi => ⟨fresh_inputs ht hc, hf hi⟩
    alone := fun _ => alone_inputs ht }

/-- What follows the inputs depends on which of them are active, and on the latches. -/
theorem InputsFollowed.of_active (ht : t = { s with signals := t.signals })
    (hactive : ∀ j : InputId, t.active j = s.active j) (hlatch : t.signals.latch = s.signals.latch)
    (h : InputsFollowed s) : InputsFollowed t := by
  have hrec (j : InputId) : t.inputRec j = s.inputRec j := by rw [ht]; rfl
  refine ⟨fun g => ?_, ?_⟩
  · have hg : t.groups[g] = s.groups[g] := by rw [ht]
    rw [hg, h.1 g]
    simp only [State.shedInputNow, hrec, hactive]
  · have hm : t.mode = s.mode := by rw [ht]
    rw [hm, h.2]
    simp only [State.stopLatchNow, hrec, hlatch]

variable {i : InputId}

/-- The owner of a changed input re-forms what follows it, and nothing else is disturbed. -/
theorem keeps_reformOwner (ht : t = { s with signals := t.signals })
    (hinputs : ∀ j : InputId, j ≠ i →
      t.signals.taken[j] = s.signals.taken[j] ∧ t.signals.latch[j] = s.signals.latch[j]) :
    Keeps s (reformOwner i t) := by
  have hfirm := firm_inputs ht
  have hfresh : CapacityFresh s → CapacityFresh t := fresh_inputs ht
  have halone : SweepAlone s → KeptListSound s → SweepAlone t ∧ KeptListSound t := alone_inputs ht
  have hgroups : t.groups = s.groups := by rw [ht]
  have hbut (h : InputsFollowed s) : FollowedBut i t :=
    .of_inputs (by rw [ht]) hgroups (by rw [ht]) hinputs h
  have hnothing (hshed : (t.inputRec i).function ≠ .shed) (hstop : (t.inputRec i).function ≠ .stop) : Keeps s t :=
    keeps_inputs ht fun h => (hbut h).followed hshed hstop
  unfold reformOwner
  cases hfun : (t.inputRec i).function with
  | none => exact hnothing (by simp [hfun]) (by simp [hfun])
  | notify => exact hnothing (by simp [hfun]) (by simp [hfun])
  | stop =>
    exact
      { hfirm with
        sound := hfirm.sound
        covers := hfirm.covers
        idle := hfirm.idle
        within := hfirm.within
        fresh := fun hc hf => ⟨hfresh hc, fun g => ((hbut hf).1 g).resolve_left (by simp [hfun]), rfl⟩
        alone := fun _ => halone }
  | shed =>
    have hothers (hf : InputsFollowed s) (h : GroupId) (hne : h ≠ (t.inputRec i).group) :
        t.groups[h].shedInput = t.shedInputNow h :=
      ((hbut hf).1 h).resolve_left fun hg => hne hg.2.symm
    have hstop (hf : InputsFollowed s) : t.mode.stopLatch = t.stopLatchNow :=
      (hbut hf).2.resolve_left (by simp [hfun])
    dsimp only
    unfold reformShed
    split
    next heq =>
      refine { hfirm with fresh := fun hc hf => ⟨hfresh hc, fun h => ?_, hstop hf⟩, alone := fun _ => halone }
      by_cases hg : h = (t.inputRec i).group
      · exact hg ▸ heq
      · exact hothers hf h hg
    next =>
      refine Keeps.recomputed _ (by rw [ht]; simp) (by rw [ht]; simp) (by rw [ht]; simp) (by rw [ht]; simp)
        (by rw [ht]; simp) (by rw [ht]; simp) (by rw [ht]; simp) (fun h => ?_) (fun h hne => ?_)
        fun hf => updGroup_followed (hothers hf) (hstop hf) <;>
        simp only [Fin.getElem_fin, State.updGroup_get, hgroups]
      · split <;> rfl
      · rw [if_neg (Ne.symm hne)]

theorem keeps_becomeActive (ht : t = { s with signals := t.signals })
    (hinputs : ∀ j : InputId, j ≠ i →
      t.signals.taken[j] = s.signals.taken[j] ∧ t.signals.latch[j] = s.signals.latch[j]) :
    Keeps s (becomeActive i t) := by
  have hhalt (u : State) : Keeps u (stopHalts i u) := by
    unfold stopHalts
    split
    · exact keeps_enterHalted u
    · exact .refl u
  exact (keeps_reformOwner ht hinputs).trans ((hhalt _).trans (quiet_raise (own := none) _ _).keeps)

end

theorem set_other {x : Vector Bool 8} {i j : InputId} (b : Bool) (h : j ≠ i) : (x.set i b)[j.val] = x[j.val] :=
  Vector.getElem_set_ne _ _ fun e => h (Fin.ext e.symm)

theorem keeps_takeEdge (i : InputId) (s : State) : Keeps s (takeEdge i s) := by
  have htaken (j : InputId) (hj : j ≠ i) :
      (s.signals.taken.set i s.signals.level[i])[j] = s.signals.taken[j] ∧ s.signals.latch[j] = s.signals.latch[j] :=
    ⟨set_other _ hj, rfl⟩
  have hlatch (j : InputId) (hj : j ≠ i) : (s.signals.taken.set i s.signals.level[i])[j] = s.signals.taken[j]
      ∧ (s.signals.latch.set i true)[j] = s.signals.latch[j] :=
    ⟨set_other _ hj, set_other _ hj⟩
  unfold takeEdge
  dsimp only
  split
  · exact .refl s
  · split
    next hnone =>
      exact keeps_inputs rfl fun h =>
        FollowedBut.followed (i := i) (.of_inputs (s := s) rfl rfl rfl htaken h)
          (fun h => nomatch hnone.symm.trans h) (fun h => nomatch hnone.symm.trans h)
    next hfun =>
      split
      · split
        · exact keeps_becomeActive rfl htaken
        · exact keeps_reformOwner rfl htaken
      next hedge =>
        split
        · exact keeps_becomeActive rfl hlatch
        · refine keeps_inputs rfl (.of_active rfl (fun j => ?_) rfl)
          by_cases hj : j = i
          · subst hj
            simp only [State.active, inputActive, State.inputRec] at hedge ⊢
            simp [hedge]
          · simp only [State.active, htaken j hj, State.withSignals]
            rfl

end Sys2Proof.Machine

/-! PROOFS. The pad lines: what a turn, the end of a transaction and the end of a break do to a line (R130 to R144), and
that each keeps the invariants. -/

namespace Sys2Proof.Machine

/-! ## One line changed -/

theorem keeps_updLine (l : LineId) (f : LineCtl → LineCtl) (s : State)
    (hurgent : s.lines[l.val].urgent.Nodup → (f s.lines[l.val]).urgent.Nodup)
    (hfinal : s.lines[l.val].final.Nodup → (f s.lines[l.val]).final.Nodup)
    (hordered : (s.lines[l.val]).Ordered → (f s.lines[l.val]).Ordered) : Keeps s (s.updLine l f) := by
  refine Keeps.of_lines (v := s.lines.set l (f s.lines[l])) (fun k => ?_) fun k => ?_ <;>
    simp only [Fin.getElem_fin, Vector.getElem_set] <;> split
  next h => obtain rfl := Fin.ext h; exact ⟨hurgent, hfinal⟩
  next => exact ⟨id, id⟩
  next h => obtain rfl := Fin.ext h; exact hordered
  next => exact id

/-! ## The start of a transaction and the end of a break (R130, R131, R142) -/

section
variable {c : LineCtl}

theorem LineCtl.fallIdle_eq (c : LineCtl) : c.fallIdle =
    { c with
      busy := false, breakPending := c.fallIdle.breakPending, breaking := c.fallIdle.breaking } := by
  unfold LineCtl.fallIdle
  split
  · rw [LineCtl.startBreak_eq]
  next h => simp only [Bool.not_eq_true] at h; simp [← h]

theorem LineCtl.Ordered.fallIdle (h : c.Ordered) : c.fallIdle.Ordered := by
  unfold LineCtl.fallIdle
  split
  next hbusy =>
    exact LineCtl.startBreak_ordered (fun hb => ⟨(h.breaking hb).1, rfl⟩) (fun hb => by simp at hb)
  next => exact h

theorem LineCtl.afterTurn_urgent (t : Turn) (c : LineCtl) : (c.afterTurn t).urgent.Sublist c.urgent := by
  unfold LineCtl.afterTurn
  split
  · exact .refl _
  · exact List.drop_sublist 1 _
  · dsimp only
    split
    · exact List.filter_sublist
    · exact .refl _

theorem LineCtl.afterTurn_final (t : Turn) (c : LineCtl) : (c.afterTurn t).final.Sublist c.final := by
  unfold LineCtl.afterTurn
  split
  · exact List.drop_sublist 1 _
  · exact .refl _
  · exact .refl _

theorem LineCtl.afterTurn_breaks (t : Turn) (c : LineCtl) : (c.afterTurn t).breaking = c.breaking
    ∧ (c.afterTurn t).busy = c.busy ∧ (c.afterTurn t).breakPending = c.breakPending := by
  unfold LineCtl.afterTurn
  split <;> exact ⟨rfl, rfl, rfl⟩

theorem LineCtl.Ordered.endBreak (h : c.Ordered) : c.endBreak.Ordered := by
  unfold LineCtl.endBreak
  split
  · exact LineCtl.startBreak_ordered (by simp) h.fallIdle.busy
  · exact h

theorem LineCtl.endBreak_urgent (c : LineCtl) : c.endBreak.urgent.Sublist c.urgent := by
  unfold LineCtl.endBreak
  split
  · rw [LineCtl.startBreak_eq]
    exact List.nil_sublist _
  · exact .refl _

theorem LineCtl.endBreak_final (c : LineCtl) : c.endBreak.final = c.final := by
  unfold LineCtl.endBreak
  split
  · rw [LineCtl.startBreak_eq, LineCtl.fallIdle_eq]
  · rfl

end

theorem keeps_fallIdle (l : LineId) (s : State) : Keeps s (s.updLine l LineCtl.fallIdle) :=
  keeps_updLine l _ s (by rw [LineCtl.fallIdle_eq]; exact id) (by rw [LineCtl.fallIdle_eq]; exact id)
    LineCtl.Ordered.fallIdle

theorem keeps_pickAndSend (l : LineId) (s : State) (hbusy : s.lines[l.val].busy = false) :
    Keeps s (pickAndSend l s) := by
  unfold pickAndSend
  split
  · exact .refl s
  next hmay =>
    simp only [LineCtl.mayStart, Fin.getElem_fin, Bool.not_eq_false, Bool.and_eq_true, Bool.not_eq_true'] at hmay
    obtain ⟨⟨-, hpending⟩, hbreaking⟩ := hmay
    split
    · exact .refl s
    next t _ =>
      obtain ⟨hb, hw, hp⟩ := LineCtl.afterTurn_breaks t s.lines[l.val]
      refine keeps_updLine l _ s (fun h => h.sublist (LineCtl.afterTurn_urgent t _))
        (fun h => h.sublist (LineCtl.afterTurn_final t _)) fun _ => ⟨fun h => ?_, fun h => ?_, fun _ => .inl rfl⟩
      · exact absurd (hbreaking.symm.trans (hb.symm.trans h)) (by simp)
      · exact absurd (hbusy.symm.trans (hw.symm.trans h)) (by simp)

theorem keeps_startTransaction (l : LineId) (s : State) : Keeps s (startTransaction l s) := by
  refine (keeps_fallIdle l s).trans (keeps_pickAndSend l _ ?_)
  rw [State.updLine_same, LineCtl.fallIdle_eq]

theorem keeps_endBreak (l : LineId) (s : State) : Keeps s (s.updLine l LineCtl.endBreak) :=
  keeps_updLine l _ s (fun h => h.sublist (LineCtl.endBreak_urgent _))
    (by rw [LineCtl.endBreak_final]; exact id) LineCtl.Ordered.endBreak

/-! ## The end of a transaction (R132, R134, R143, R144) -/

/-- The pad that a result reaches is the one of its transaction. -/
theorem reaches_eq_some {s : State} {l : LineId} {tx : Transaction} {p : PadId} :
    reaches s l tx = some p ↔
      tx.pad = some p ∧ s.onLine l p = true ∧ (s.padRec p).drop = tx.drop ∧ s.pads[p].state ≠ .disabled := by
  unfold reaches
  split
  next h => simp [h]
  next q h =>
    split
    next hq => simp only [Option.some.injEq, h, Fin.getElem_fin]; exact ⟨fun e => ⟨e, e ▸ hq⟩, And.left⟩
    next hq => simp only [reduceCtorEq, false_iff, h, Option.some.injEq]; rintro ⟨rfl, hq'⟩; exact hq hq'

/-- A result is counted at its line, and then all that happens is the handling of the session it reaches. -/
theorem quiet_deliver (l : LineId) (tx : Transaction) (o : LineOutcome) (rx : List RxChar) (s : State) :
    Quiet tx.pad (s.updLine l (LineCtl.count o)) (deliver l tx o rx s) := by
  unfold deliver
  dsimp only
  split
  · exact .refl _ _
  next p h =>
    rw [(reaches_eq_some.mp h).1]
    have hcount : Quiet (some p) (s.updLine l (LineCtl.count o))
        ((s.updLine l (LineCtl.count o)).updPad p (Pad.countFailure o)) :=
      quiet_updPad p _ _ (.of_record rfl rfl rfl rfl rfl rfl rfl rfl fun h => h) le_rfl
    exact hcount.trans (quiet_handUp p _ o rx _)

/-- Line `c` as its transaction ends, before a break starts and a discovery mark goes: nothing is in flight, the outcome
is counted unless the transaction was abandoned, and the line is busy after a reply of 300 characters (R131, R134,
R143). -/
def LineCtl.closing (o : LineOutcome) (long : Bool) (c : LineCtl) : LineCtl :=
  { (if c.abandon then c else c.count o) with inFlight := none, abandon := false, busy := long }

/-- A reply was ended at its 300th character (R131). -/
def endsLong (rx : List RxChar) : Bool := decide (Config.replyLimit ≤ (replyChars rx).length)

/-- The end of `tx` clears a discovery mark of line `l` (R144). -/
def State.clears (s : State) (l : LineId) (tx : Transaction) : Bool :=
  decide (tx.slot = .normal) && tx.inDiscovery && noneAbove (s.members l) tx.drop

/-- The end of a transaction up to the discovery marks: the line closed, and the result handed up. -/
def handedUp (l : LineId) (tx : Transaction) (o : LineOutcome) (rx : List RxChar) (s : State) : State :=
  let s1 := s.updLine l fun c => { c with inFlight := none, abandon := false, busy := endsLong rx }
  if s.lines[l].abandon then s1 else deliver l tx o rx s1

theorem State.updLine_updLine (l : LineId) (f g : LineCtl → LineCtl) (s : State) :
    (s.updLine l f).updLine l g = s.updLine l fun c => g (f c) := by
  simp [State.updLine, State.withLines]

section
variable (l : LineId) (tx : Transaction) (o : LineOutcome) (rx : List RxChar) (s : State)

theorem endTransaction_eq : endTransaction l tx o rx s =
    (clearMark l tx (handedUp l tx o rx s)).updLine l LineCtl.startBreak := rfl

theorem quiet_handedUp : Quiet tx.pad (s.updLine l (LineCtl.closing o (endsLong rx))) (handedUp l tx o rx s) := by
  have hclosing : s.updLine l (LineCtl.closing o (endsLong rx)) =
      s.updLine l fun c => { (if s.lines[l].abandon then c else c.count o) with
        inFlight := none, abandon := false, busy := endsLong rx } := rfl
  unfold handedUp
  rw [hclosing]
  dsimp only
  split
  · exact .refl _ _
  · have h := quiet_deliver l tx o rx
      (s.updLine l fun c => { c with inFlight := none, abandon := false, busy := endsLong rx })
    rw [State.updLine_updLine] at h
    cases o <;> exact h

theorem clearMark_line (k : LineId) : (clearMark l tx s).lines[k.val] =
    { s.lines[k.val] with
      discovery := s.lines[k.val].discovery && !(decide (k = l) && s.clears l tx) } := by
  unfold clearMark
  split
  next h =>
    obtain ⟨-, hslot, hin, habove⟩ := h
    have hclears : s.clears l tx = true := by simp [State.clears, hslot, hin, habove]
    simp only [endDiscoveryIfDone_lines, State.updLine_get, hclears]
    by_cases hk : k = l
    · simp [hk]
    · simp [hk, Ne.symm hk]
  next h =>
    have hstays : (s.lines[k.val].discovery && !(decide (k = l) && s.clears l tx)) = s.lines[k.val].discovery := by
      by_cases hk : k = l
      · subst hk
        cases hd : s.lines[k.val].discovery with
        | false => rfl
        | true =>
          have hclears : s.clears k tx = false := by simpa [State.clears, hd] using h
          simp [hclears]
      · simp [hk]
    rw [hstays]

theorem keeps_clearMark : Keeps s (clearMark l tx s) := by
  unfold clearMark
  split
  · exact (keeps_updLine l _ s id id fun h => ⟨h.breaking, h.busy, h.waiting⟩).trans (keeps_endDiscoveryIfDone _)
  · exact .refl s

/-- The urgent list of a line at the end of a transaction is that of the handing up. -/
theorem endTransaction_urgent (k : LineId) :
    (endTransaction l tx o rx s).lines[k.val].urgent = (handedUp l tx o rx s).lines[k.val].urgent := by
  simp only [endTransaction_eq, State.updLine_get]
  split
  · rw [LineCtl.startBreak_eq, clearMark_line]
  · rw [clearMark_line]

theorem handedUp_line (k : LineId) : (handedUp l tx o rx s).lines[k.val] =
    { (if l = k then s.lines[k.val].closing o (endsLong rx) else s.lines[k.val]) with
      urgent := (endTransaction l tx o rx s).lines[k.val].urgent } := by
  have hclosed := (quiet_handedUp l tx o rx s).lines k
  simp only [Fin.getElem_fin, State.updLine_get] at hclosed
  rw [endTransaction_urgent]
  exact hclosed

theorem LineCtl.closing_discovery (o : LineOutcome) (long : Bool) (c : LineCtl) :
    (c.closing o long).discovery = c.discovery := by
  unfold LineCtl.closing LineCtl.count
  split
  · rfl
  · cases o <;> rfl

/-- The line of a transaction that has ended: closed, its discovery mark cleared where the end clears one, and a break
that waits started; and pads may have joined its urgent list. -/
theorem endTransaction_line : (endTransaction l tx o rx s).lines[l.val] =
    ({ s.lines[l.val].closing o (endsLong rx) with
        discovery := s.lines[l.val].discovery && !s.clears l tx
        urgent := (endTransaction l tx o rx s).lines[l.val].urgent } : LineCtl).startBreak := by
  have hclears : (handedUp l tx o rx s).clears l tx = s.clears l tx := by
    unfold State.clears State.members State.onLine State.padRec
    rw [(quiet_handedUp l tx o rx s).tables]
    rfl
  have hline := handedUp_line l tx o rx s l
  generalize (endTransaction l tx o rx s).lines[l.val].urgent = u at hline
  rw [endTransaction_eq, State.updLine_same, clearMark_line, hclears, hline]
  simp [LineCtl.closing_discovery]

/-- The other lines, but for pads that may have joined their urgent lists. -/
theorem endTransaction_other (k : LineId) (hk : l ≠ k) : (endTransaction l tx o rx s).lines[k.val] =
    { s.lines[k.val] with urgent := (endTransaction l tx o rx s).lines[k.val].urgent } := by
  have hline := handedUp_line l tx o rx s k
  generalize (endTransaction l tx o rx s).lines[k.val].urgent = u at hline
  rw [endTransaction_eq, State.updLine_other _ _ _ _ hk, clearMark_line, hline]
  simp [hk, Ne.symm hk]

theorem LineCtl.closing_keeps (o : LineOutcome) (long : Bool) (c : LineCtl) :
    (c.closing o long).urgent = c.urgent ∧ (c.closing o long).final = c.final
      ∧ (c.closing o long).breaking = c.breaking := by
  unfold LineCtl.closing LineCtl.count
  split
  · exact ⟨rfl, rfl, rfl⟩
  · cases o <;> exact ⟨rfl, rfl, rfl⟩

theorem endTransaction_ordered (h : s.lines[l.val].inFlight = some tx) (hs : BreaksOrdered s) :
    BreaksOrdered (endTransaction l tx o rx s) := by
  rw [breaksOrdered_iff] at hs ⊢
  intro k
  have hk := hs k
  simp only [Fin.getElem_fin] at hk ⊢
  by_cases hne : l = k
  · subst hne
    have hbreaking : s.lines[l.val].breaking ≠ true := fun hb => by
      have hnone := (hk.breaking hb).1
      rw [h] at hnone
      simp at hnone
    rw [endTransaction_line]
    exact LineCtl.startBreak_ordered
      (fun hb => absurd ((LineCtl.closing_keeps o (endsLong rx) _).2.2.symm.trans hb) hbreaking) fun _ => rfl
  · rw [endTransaction_other l tx o rx s k hne]
    exact ⟨hk.breaking, hk.busy, hk.waiting⟩

theorem keeps_endTransaction (h : s.lines[l.val].inFlight = some tx) : Keeps s (endTransaction l tx o rx s) := by
  have hafter : Keeps (s.updLine l (LineCtl.closing o (endsLong rx))) (endTransaction l tx o rx s) :=
    ((quiet_handedUp l tx o rx s).keeps.trans (keeps_clearMark l tx _)).trans
      (keeps_updLine l LineCtl.startBreak _ (by rw [LineCtl.startBreak_eq]; exact id)
        (by rw [LineCtl.startBreak_eq]; exact id) fun h => LineCtl.startBreak_ordered h.breaking h.busy)
  refine
    { sound := hafter.sound
      covers := hafter.covers
      idle := hafter.idle
      within := hafter.within
      distinct := fun hd => hafter.distinct fun k => ?_
      ordered := endTransaction_ordered l tx o rx s h
      fresh := hafter.fresh
      alone := hafter.alone }
  obtain ⟨hurgent, hfinal, -⟩ := LineCtl.closing_keeps o (endsLong rx) s.lines[k.val]
  simp only [Fin.getElem_fin, State.updLine_get]
  split
  · rw [hurgent, hfinal]
    exact hd k
  · exact hd k

end

theorem keeps_replyTimeout (l : LineId) (s : State) : Keeps s (replyTimeout l s) := by
  unfold replyTimeout
  split
  · exact .refl s
  next tx h => exact keeps_endTransaction l tx _ _ s h

theorem keeps_endReply (l : LineId) (rx : List RxChar) (s : State) : Keeps s (endReply l rx s) := by
  unfold endReply
  split
  · exact .refl s
  next tx h =>
    split
    · exact .refl s
    · exact keeps_endTransaction l tx _ _ s h

end Sys2Proof.Machine

/-! PROOFS. Every step keeps the invariants: the events and the owners of the requests, one after another; and the
statements that follow. -/

namespace Sys2Proof.Machine

/-! ## What the invariants do not read -/

/-- The blocks that no invariant of the engine reads: the ports, the notices, the pin levels, the outputs, the
shadow bank, the commit and the window, the waiting commands and the free-value counter. -/
structure PortsOnly (s t : State) : Prop where
  time : t.time = s.time
  active : t.tables.active = s.tables.active
  pads : t.pads = s.pads
  alloc : t.alloc = s.alloc
  groups : t.groups = s.groups
  lines : t.lines = s.lines
  mode : t.mode = s.mode
  taken : t.signals.taken = s.signals.taken
  latch : t.signals.latch = s.signals.latch

theorem PortsOnly.keeps {s t : State} (h : PortsOnly s t) : Keeps s t :=
  .of_parts h.active (fun p => by rw [h.pads]) h.alloc (by rw [h.mode]) (fun _ hn => by rw [h.mode]; exact hn) h.lines
    (fun g => by rw [h.groups]) h.taken h.latch (fun hn => by rw [h.time]; exact hn)

theorem PortsOnly.refl (s : State) : PortsOnly s s := ⟨rfl, rfl, rfl, rfl, rfl, rfl, rfl, rfl, rfl⟩

theorem PortsOnly.trans {s t u : State} (h : PortsOnly s t) (h' : PortsOnly t u) : PortsOnly s u :=
  ⟨h'.time.trans h.time, h'.active.trans h.active, h'.pads.trans h.pads, h'.alloc.trans h.alloc,
    h'.groups.trans h.groups, h'.lines.trans h.lines, h'.mode.trans h.mode, h'.taken.trans h.taken,
    h'.latch.trans h.latch⟩

theorem portsOnly_withFleet (f : Fleet) (s : State) : PortsOnly s (s.withFleet f) :=
  ⟨rfl, rfl, rfl, rfl, rfl, rfl, rfl, rfl, rfl⟩

theorem portsOnly_withNotices (u : NoticeUnit) (s : State) : PortsOnly s (s.withNotices u) :=
  ⟨rfl, rfl, rfl, rfl, rfl, rfl, rfl, rfl, rfl⟩

theorem portsOnly_withTables (x : Tables) (s : State) (h : x.active = s.tables.active) : PortsOnly s (s.withTables x) :=
  ⟨rfl, h, rfl, rfl, rfl, rfl, rfl, rfl, rfl⟩

theorem portsOnly_raise (k : Notice) (s : State) : PortsOnly s (raise k s) := by constructor <;> simp

theorem portsOnly_callNotice (s : State) : PortsOnly s (callNotice s) := by constructor <;> simp

theorem portsOnly_withdrawNotice (s : State) : PortsOnly s (withdrawNotice s) := by constructor <;> simp

/-! ## The events that carry no request -/

theorem keeps_tick (s : State) : Keeps s (tick s) := by
  refine Keeps.of_parts rfl (fun _ => rfl) rfl rfl (fun _ => id) rfl (fun g => ?_) rfl rfl fun h => ?_
  · simp only [tick, Fin.getElem_fin, State.withTime_groups, State.mapGroups_get, Group.tick]
    split <;> rfl
  · simp [tick, h]

theorem portsOnly_receiveByte (s : State) (b : RxByte) : PortsOnly s (receiveByte s b) := by
  have hjoin (f : RxFrame) (u : State) : PortsOnly u (joinQueue f u) := by
    unfold joinQueue
    split
    · exact portsOnly_withFleet _ u
    · exact (portsOnly_withFleet _ u).trans (portsOnly_raise _ _)
  unfold receiveByte
  split
  · split
    · exact portsOnly_withFleet _ s
    · exact .refl s
  · unfold frameByte
    dsimp only
    split
    · exact portsOnly_withFleet _ s
    · split
      · unfold frameEnds
        split
        · exact (portsOnly_withFleet _ s).trans (hjoin _ _)
        · exact portsOnly_withFleet _ s
      · exact portsOnly_withFleet _ s

theorem portsOnly_receiveBytes (bytes : List RxByte) (s : State) : PortsOnly s (receiveBytes bytes s) := by
  induction bytes generalizing s with
  | nil => exact .refl s
  | cons b bytes ih => exact (portsOnly_receiveByte s b).trans (ih _)

theorem portsOnly_transmitStart (s : State) : PortsOnly s (transmitStart s) := by
  unfold transmitStart
  split
  · exact .refl s
  · split
    · exact .refl s
    · exact portsOnly_withFleet _ s
    · split <;> exact portsOnly_withFleet _ s

theorem keeps_transmitEnd (s : State) : Keeps s (transmitEnd s) := by
  unfold transmitEnd
  split
  · exact .refl s
  · dsimp only
    split
    · exact (portsOnly_withFleet _ s).keeps.trans (keeps_restartEffect _)
    · exact (portsOnly_withFleet _ s).keeps

theorem keeps_endCheck (s : State) : Keeps s (endCheck s) := by
  have hanswer (x : CommitState) (tag : Byte) (code : ResultCode) (data : List Byte) :
      Keeps s (respond kindCommit tag code data (s.setCommit x)) :=
    ((portsOnly_withTables { s.tables with commit := x } s rfl).trans (portsOnly_withFleet _ _)).keeps
  unfold endCheck
  split
  · dsimp only
    split
    · exact hanswer _ _ _ _
    · split
      · exact hanswer _ _ _ _
      · split
        next h => exact (hanswer _ _ _ _).trans (keeps_activate false _ (by simpa using h.1))
        · exact hanswer _ _ _ _
  · exact .refl s

theorem keeps_event (c : Instr) (s : State) : Keeps s (eventOf c s) := by
  cases c with
  | powerOn | resetInput => exact keeps_afterPowerOn _ _ _ s
  | tick => exact keeps_tick s
  | roundTimerExpiry => exact keeps_timerExpiry s
  | headroomTurnsStale g => exact keeps_turnStale g s
  | issueStage => exact keeps_issueStage s
  | fastShedPassEnd => exact keeps_passEnd s
  | commitCheckEnd => exact keeps_endCheck s
  | fleetFrameReceived | fleetLengthAbove240 => exact (portsOnly_receiveBytes _ s).keeps
  | fleetFrameAbort =>
    simp only [eventOf, abortFrame]
    split
    · exact .refl s
    · exact (portsOnly_withFleet _ s).keeps
  | frameTransmitStart => exact (portsOnly_transmitStart s).keeps
  | frameTransmitEnd => exact keeps_transmitEnd s
  | transactionStart l => exact keeps_startTransaction l s
  | replyTimeout l => exact keeps_replyTimeout l s
  | report l rx | faultReport l rx | caps l rx | replyFailed l rx => exact keeps_endReply l rx s
  | lineBreakEnd l => exact keeps_endBreak l s
  | inputLineChange i high => exact PortsOnly.keeps ⟨rfl, rfl, rfl, rfl, rfl, rfl, rfl, rfl, rfl⟩
  | inputEdgeTaken i => exact keeps_takeEdge i s
  | _ => exact .refl s

/-! ## The owners of the requests -/

theorem keeps_modeActs {s t : State} (h : ModeActs s t) : Keeps s t := by
  cases h with
  | nothing => exact .refl s
  | halts => exact keeps_enterHalted s
  | resumes h => exact keeps_enterDiscovering s h
  | resolves x =>
    exact .of_parts rfl (fun _ => rfl) rfl rfl (fun _ => id) rfl (fun _ => rfl) rfl rfl id
  | holds x h =>
    exact .of_parts rfl (fun _ => rfl) rfl rfl (fun hn => by simp [hn] at h) rfl (fun _ => rfl) rfl rfl id
  | scopes x => exact (keeps_applyScope x s).trans (quiet_fastShedCheck _).keeps

/-- RELEASE lowers the grant by the decrease path and drops the dispatch (R43). -/
theorem quiet_release (p : PadId) (s : State)
    (h : s.pads[p].state = .waiting ∨ s.pads[p].state = .charging ∨ s.pads[p].state = .complete) :
    Quiet (some p) s ((decrease p 0 s).updPad p fun q => q.dropDispatch.setState .releasing) := by
  have hlower : (decrease p 0 s).pads[p.val] = (s.pads[p.val]).lower 0 := by simp [decrease_get]
  have hstate : ((s.pads[p.val]).lower 0).state ≠ .disabled ∧ ((s.pads[p.val]).lower 0).state ≠ .faulted := by
    simp only [Fin.getElem_fin] at h
    rw [Pad.lower_state]
    rcases h with h | h | h <;> simp [h, SessionState.served]
  refine ((quiet_decrease p 0 s (Nat.zero_le _)).weaken _).trans (quiet_updPad p _ _ ?_ le_rfl)
  simp only [Fin.getElem_fin, hlower]
  exact .of_entry hstate.1 (by simp [Pad.setState])
    (.inl ⟨Pad.lower_grant _ _, by simp [Pad.setState, Pad.dropDispatch, Pad.lower_sent]⟩) (.inr ⟨rfl, rfl⟩)
    (fun hi => hi.reservation) (by simp [Pad.setState, SessionState.served])
    (by simp [Pad.setState, Pad.dropDispatch, hstate.2]) fun _ _ => ⟨rfl, rfl⟩

/-- RELEASE from PROBING clears the figures at once (R38, R43). -/
theorem Pad.move_endProbing {q : Pad} (h : q.state = .probing) :
    q.Move (q.dropDispatch.clearFigures.setState .releasing) :=
  .of_entry (by simp [h]) (by simp [Pad.setState]) (.inl ⟨rfl, rfl⟩) (.inl ⟨rfl, rfl⟩) (fun hi => hi.reservation)
    (by simp [Pad.setState, SessionState.served]) (by simp [Pad.setState, Pad.clearFigures, Pad.dropDispatch, h])
    fun _ _ => ⟨rfl, rfl⟩

section
variable {q : Pad} {r : Report}

/-- CLEAR_PAD with no vehicle in the latest report (R54). -/
theorem Pad.cleared_of_absent (h : ∀ r : Report, q.report = some r → r.present = false) : q.cleared =
    { q with
      state := .empty, stayed := false, fault := none, overdraw := 0, caps := none, attempts := 0
      dispatch := none, delivered := 0, remaining := 0, inDocking := false } := by
  unfold Pad.cleared
  dsimp only
  split
  · simp [Pad.enterEmpty, Pad.setState, Pad.dropDispatch, SessionState.served]
  next r hr =>
    rw [if_pos (h r hr)]
    simp [Pad.enterEmpty, Pad.setState, Pad.dropDispatch, SessionState.served]

/-- CLEAR_PAD with the vehicle of the docking count seen (R54). -/
theorem Pad.cleared_of_present (hr : q.report = some r) (hpresent : r.present = true) (hdocking : r.docking = q.docking) :
    q.cleared =
      { q with
        state := .probing, stayed := false, fault := none, overdraw := 0, caps := none, attempts := 0 } := by
  unfold Pad.cleared
  simp [hr, hpresent, hdocking, Pad.enterProbing, Pad.setState, SessionState.served]

/-- CLEAR_PAD with another vehicle (R54). -/
theorem Pad.cleared_of_swapped (hr : q.report = some r) (hpresent : r.present = true) (hdocking : r.docking ≠ q.docking) :
    q.cleared =
      { q with
        state := .probing, stayed := false, fault := none, overdraw := 0, caps := none, attempts := 0
        dispatch := none, delivered := 0, remaining := 0, docking := r.docking } := by
  unfold Pad.cleared
  simp [hr, hpresent, hdocking, Pad.enterProbing, Pad.dropDispatch, Pad.setState, SessionState.served]

theorem Pad.cleared_reservation (q : Pad) : q.cleared.reservation = q.reservation := by
  unfold Pad.cleared
  dsimp only
  (repeat' split) <;> rfl

/-- CLEAR_PAD ends a fault (R54). -/
theorem Pad.move_cleared (h : q.state = .faulted) : q.Move q.cleared := by
  have hfrom : q.state ≠ .disabled ∧ q.state ≠ .charging := by simp [h]
  by_cases habsent : ∀ r : Report, q.report = some r → r.present = false
  · rw [Pad.cleared_of_absent habsent]
    exact .of_entry hfrom.1 (by simp) (.inr ⟨rfl, rfl, hfrom.2⟩) (.inr ⟨rfl, rfl⟩) (fun hi => hi.reservation)
      (by simp) (by simp) fun _ _ => ⟨rfl, rfl⟩
  · push Not at habsent
    obtain ⟨r, hr, hpresent⟩ := habsent
    simp only [ne_eq, Bool.not_eq_false] at hpresent
    by_cases hdocking : r.docking = q.docking
    · rw [Pad.cleared_of_present hr hpresent hdocking]
      exact .of_entry hfrom.1 (by simp) (.inr ⟨rfl, rfl, hfrom.2⟩) (.inr ⟨rfl, rfl⟩) (fun hi => hi.reservation)
        (by simp) (by simp) id
    · rw [Pad.cleared_of_swapped hr hpresent hdocking]
      exact .of_entry hfrom.1 (by simp) (.inr ⟨rfl, rfl, hfrom.2⟩) (.inr ⟨rfl, rfl⟩) (fun hi => hi.reservation)
        (by simp) (by simp) fun _ _ => ⟨rfl, rfl⟩

end

theorem keeps_ownerActs {s t : State} (h : OwnerActs s t) : Keeps s t := by
  cases h with
  | nothing => exact .refl s
  | dispatches p d =>
    have hrecord : Quiet (some p) s (s.updPad p fun q =>
        { q with dispatch := some d, delivered := 0, remaining := d.target }) :=
      quiet_updPad p _ s (.of_record rfl rfl rfl rfl rfl rfl rfl rfl fun _ h => by simp at h) le_rfl
    exact (hrecord.trans (quiet_afterDispatch p _ _)).keeps
  | releases p h => exact (quiet_release p s h).keeps
  | endsProbing p h => exact (quiet_updPad p _ s (Pad.move_endProbing h) le_rfl).keeps
  | limits p l => exact (quiet_updPad p _ s (.of_record rfl rfl rfl rfl rfl rfl rfl rfl id) le_rfl).keeps
  | clears p h => exact (quiet_updPad p _ s (Pad.move_cleared h) (Pad.cleared_reservation _).le).keeps
  | takesHeadroom g x => exact keeps_headroomChange g (fun y => { y with headroom := x, age := 0, hstate := .fresh }) none s fun _ => ⟨rfl, rfl⟩
  | clearsInput i => exact keeps_reformOwner rfl fun j hj => ⟨rfl, set_other _ hj⟩
  | writesTables x hactive => exact (portsOnly_withTables x s hactive).keeps
  | setsMode u h => exact (keeps_modeActs h).trans (PortsOnly.keeps ⟨rfl, rfl, rfl, rfl, rfl, rfl, rfl, rfl, rfl⟩)
  | restarts => exact (portsOnly_withFleet _ s).keeps
  | takesCapture => exact (portsOnly_withNotices _ s).keeps
  | acknowledges set => exact ((portsOnly_withNotices _ s).trans (portsOnly_withdrawNotice _)).keeps
  | masks set =>
    have hmask : PortsOnly s (if s.notices.mask &&& ~~~set &&& s.notices.pendingSet = 0 then
        s.withNotices { s.notices with mask := set }
      else callNotice (s.withNotices { s.notices with mask := set })) := by
      split
      · exact portsOnly_withNotices _ s
      · exact (portsOnly_withNotices _ s).trans (portsOnly_callNotice _)
    exact (hmask.trans (portsOnly_withdrawNotice _)).keeps

theorem keeps_takenActs {s t : State} (h : TakenActs s t) : Keeps s t := by
  cases h with
  | acts h => exact keeps_ownerActs h
  | beginsCheck w tag => exact (portsOnly_withTables { s.tables with commit := .checking w tag } s rfl).keeps

/-! ## The statements -/

theorem keeps_respond (kind tag : Byte) (code : ResultCode) (data : List Byte) (s : State) :
    Keeps s (respond kind tag code data s) :=
  (portsOnly_withFleet _ s).keeps

/-- Every command keeps the invariants. -/
theorem keeps_effect (c : Instr) (s : State) : Keeps s (effect c s) :=
  effect_keeps (P := Keeps s) c (fun t kind tag code data h => h.trans (keeps_respond kind tag code data t))
    (fun rest _ h => ((portsOnly_withFleet _ s).keeps (t := s.taking rest)).trans (keeps_takenActs h))
    (keeps_event c s) (.refl s)

/-- Every step keeps the invariants. -/
theorem keeps_step {s t : State} (h : step s = .next t) : Keeps s t := by
  rcases step_cases h with rfl | ⟨c, rest, -, rfl⟩
  · exact .refl _
  · have hqueue : Keeps s { s with pending := rest } :=
      PortsOnly.keeps ⟨rfl, rfl, rfl, rfl, rfl, rfl, rfl, rfl, rfl⟩
    have hdrive (u : State) : Keeps u (driveOutputs u) := PortsOnly.keeps ⟨rfl, rfl, rfl, rfl, rfl, rfl, rfl, rfl, rfl⟩
    exact hqueue.trans ((keeps_effect c _).trans (hdrive _))

/-- Settles O54: the sessions stay sound, and the kept list goes on covering the grants. -/
theorem stepsKeepSessionsSound : Obligations.StepsKeepSessionsSound :=
  ⟨fun _ _ hs h => (keeps_step h).sound hs, fun _ _ hs hk h => (keeps_step h).covers hs hk⟩

/-- Settles O55: outside RUNNING no pad ever holds power. -/
theorem stepsKeepPowerOffUnlessRunning : Obligations.StepsKeepPowerOffUnlessRunning :=
  fun _ _ hs h => (keeps_step h).idle hs

/-- Settles O56: a sweep stays alone, and the kept list and the rotation offset sound. -/
theorem stepsKeepSweepAlone : Obligations.StepsKeepSweepAlone := fun _ _ hi ha hk h => (keeps_step h).alone hi ha hk

/-- Settles O57: the capacities and what follows the inputs stay as they should be. -/
theorem stepsKeepCapacityFresh : Obligations.StepsKeepCapacityFresh := fun _ _ hc hf h => (keeps_step h).fresh hc hf

/-- Settles O58: every group and the site stay within their limits. -/
theorem stepsKeepWithinLimits : Obligations.StepsKeepWithinLimits := fun _ _ hs h => (keeps_step h).within hs

end Sys2Proof.Machine

/-! PROOFS. The bounds of the queues and the soundness of the ports through every step (R149 to R158, R181), and the
invariants of the state after reset. -/

namespace Sys2Proof.Machine

/-! ## The relation -/

/-- From `s` to `t` the bounds of the queues and the soundness of the ports are kept. -/
structure Held (s t : State) : Prop where
  bounded : QueuesBounded s → QueuesBounded t
  sound : PortSound s → PortSound t

section
variable {s t u : State}

theorem Held.refl (s : State) : Held s s := ⟨id, id⟩

theorem Held.trans (h : Held s t) (h' : Held t u) : Held s u := ⟨h'.bounded ∘ h.bounded, h'.sound ∘ h.sound⟩

theorem portSound_iff (s : State) : PortSound s ↔
    (s.fleet.noticeWaiting = true → s.notices.unmasked ≠ 0)
      ∧ ∀ got : List RxByte, s.fleet.receiver = .frame got →
          got = [] ∨ ∃ b bs, got = b :: bs ∧ b.data.toNat ≤ 240 ∧ got.length < b.data.toNat + 5 :=
  Iff.rfl

/-- The responses are those of the transmit queue and the frame in transmission. -/
theorem responses_eq {f g : Fleet} (htx : g.tx.filter (fun x => !x.isNotice) = f.tx.filter fun x => !x.isNotice)
    (hsending : g.sending = f.sending) : g.responses = f.responses := by
  simp only [Fleet.responses, htx, hsending]

/-- What raisings and captures do, when no commit check begins. -/
theorem Noticed.held (h : Noticed s t)
    (hcommit : t.tables.commit.isChecking = true → s.tables.commit.isChecking = true) : Held s t where
  bounded := fun ⟨hrx, hresponses, hchecking, hsingle, hcaptures⟩ => by
    have heq : t.fleet.responses = s.fleet.responses := responses_eq h.responses (by rw [h.fleet])
    refine ⟨by rw [h.fleet]; exact hrx, heq ▸ hresponses, fun hc => ?_, h.single hsingle, h.captures hcaptures⟩
    rw [heq]
    exact hchecking (hcommit hc)
  sound := fun ⟨hnotice, hreceiver⟩ => ⟨h.sound hnotice, by rw [h.fleet]; exact hreceiver⟩

/-- The Table Store untouched, a step is held by its raisings and captures. -/
theorem Noticed.held_of_tables (h : Noticed s t) (htables : t.tables = s.tables) : Held s t :=
  h.held (by rw [htables]; exact id)

end

/-! ## No commit check begins but by COMMIT (R11) -/

theorem activatePending_checking {s : State} (h : (activatePending s).tables.commit.isChecking = true) :
    s.tables.commit.isChecking = true := by
  unfold activatePending at h
  split at h
  · simp [CommitState.isChecking] at h
  · exact h

theorem enterHalted_checking {s : State} (h : (enterHalted s).tables.commit.isChecking = true) :
    s.tables.commit.isChecking = true := by
  unfold enterHalted at h
  have hpending := activatePending_checking h
  split at hpending
  · simpa using hpending
  · simpa using hpending

theorem modeActs_checking {s t : State} (h : ModeActs s t) (hc : t.tables.commit.isChecking = true) :
    s.tables.commit.isChecking = true := by
  cases h with
  | halts => exact enterHalted_checking hc
  | _ => simpa using hc

theorem reformOwner_tables (i : InputId) (s : State) : (reformOwner i s).tables = s.tables := by
  unfold reformOwner
  split <;> simp

theorem ownerActs_checking {s t : State} (h : OwnerActs s t) (hc : t.tables.commit.isChecking = true) :
    s.tables.commit.isChecking = true := by
  cases h with
  | dispatches p d =>
    have htables := (quiet_afterDispatch p d.target
      (s.updPad p fun q => { q with dispatch := some d, delivered := 0, remaining := d.target })).tables
    rw [htables] at hc
    exact hc
  | clearsInput i =>
    rw [reformOwner_tables] at hc
    exact hc
  | writesTables x _ _ hcommit => exact hcommit ▸ hc
  | setsMode t h => exact modeActs_checking h hc
  | masks set => split at hc <;> simpa using hc
  | _ => simpa using hc

theorem becomeActive_checking {i : InputId} {s : State} (h : (becomeActive i s).tables.commit.isChecking = true) :
    s.tables.commit.isChecking = true := by
  simp only [becomeActive, raise_tables, stopHalts] at h
  split at h
  · simpa [reformOwner_tables] using enterHalted_checking h
  · simpa [reformOwner_tables] using h

theorem takeEdge_checking {i : InputId} {s : State} (h : (takeEdge i s).tables.commit.isChecking = true) :
    s.tables.commit.isChecking = true := by
  have hactive {u : State} (hu : u.tables = s.tables) (h : (becomeActive i u).tables.commit.isChecking = true) :
      s.tables.commit.isChecking = true := hu ▸ becomeActive_checking h
  unfold takeEdge at h
  dsimp only at h
  (repeat' split at h)
  · exact h
  · exact h
  · exact hactive (State.withSignals_tables _ _) h
  · simpa [reformOwner_tables] using h
  · exact hactive (by simp) h
  · exact h

theorem issueStage_checking {s : State} (h : (issueStage s).tables.commit.isChecking = true) :
    s.tables.commit.isChecking = true := by
  unfold issueStage at h
  split at h
  · exact h
  next x _ =>
    unfold sweepEnd at h
    simp only [fastShedCheck_tables] at h
    simpa [completeSweep, issuePads] using activatePending_checking h

theorem passEnd_checking {s : State} (h : (passEnd s).tables.commit.isChecking = true) :
    s.tables.commit.isChecking = true := by
  unfold passEnd startWaiting at h
  (repeat' split at h) <;> simp_all [CommitState.isChecking]

/-! ## The receiver and the transmitter (R149 to R158) -/

theorem held_joinQueue (f : RxFrame) (s : State) : Held s (joinQueue f s) := by
  unfold joinQueue
  split
  next hroom =>
    refine ⟨fun ⟨_, hresponses, hchecking, hsingle, hcaptures⟩ => ⟨?_, hresponses, hchecking, hsingle, hcaptures⟩, id⟩
    simpa using hroom
  · have hdrop : Held s (s.withFleet { s.fleet with dropped := satInc 65535 s.fleet.dropped }) := ⟨id, id⟩
    exact hdrop.trans ((noticed_raise _ _).held_of_tables (by simp))

/-- A frame being received that has not come to its end (R149, R150). -/
theorem held_setReceiver {r : Receiver} {s : State} (h : ∀ got : List RxByte, r = .frame got →
      got = [] ∨ ∃ b bs, got = b :: bs ∧ b.data.toNat ≤ 240 ∧ got.length < b.data.toNat + 5) :
    Held s (s.setReceiver r) :=
  ⟨id, fun hs => ⟨hs.1, h⟩⟩

theorem held_discardFrame (s : State) : Held s (discardFrame s) :=
  ⟨id, fun hs => ⟨hs.1, fun _ h => nomatch h⟩⟩

theorem held_receiveByte (s : State) (b : RxByte) : Held s (receiveByte s b) := by
  unfold receiveByte
  split
  · split
    · exact held_setReceiver fun got h => .inl (by injection h with h; exact h.symm)
    · exact .refl s
  next got hgot =>
    unfold frameByte
    dsimp only
    split
    · exact held_discardFrame s
    next hlimit =>
      split
      · unfold frameEnds
        split
        · exact (held_setReceiver fun _ h => by simp at h).trans (held_joinQueue _ _)
        · exact held_discardFrame s
      next hend =>
        refine ⟨id, fun hs => ⟨hs.1, fun x hx => .inr ?_⟩⟩
        injection hx with hx
        subst hx
        simp only [Config.bodyLimit] at hlimit
        rcases hs.2 got hgot with rfl | ⟨b0, bs, rfl, -, hlen⟩
        · refine ⟨b, [], rfl, ?_, ?_⟩
          · simpa [byteAt] using hlimit
          · simp
        · refine ⟨b0, bs ++ [b], rfl, ?_, ?_⟩
          · simpa [byteAt] using hlimit
          · simp [byteAt] at hend hlen ⊢
            omega

theorem held_receiveBytes (bytes : List RxByte) (s : State) : Held s (receiveBytes bytes s) := by
  induction bytes generalizing s with
  | nil => exact .refl s
  | cons b bytes ih => exact (held_receiveByte s b).trans (ih _)

theorem held_transmitStart (s : State) : Held s (transmitStart s) := by
  unfold transmitStart
  split
  · exact .refl s
  next hidle =>
    have hsending : s.fleet.sending = none := by simpa using hidle
    have hresponses : s.fleet.responses = (s.fleet.tx.filter fun x => !x.isNotice).length := by
      simp [Fleet.responses, hsending]
    split
    · exact .refl s
    next f rest htx =>
      have hle : ({ s.fleet with tx := rest, sending := some f } : Fleet).responses ≤ s.fleet.responses := by
        rw [hresponses, htx]
        simp only [Fleet.responses, TxItem.isNotice, Bool.not_false, List.filter_cons_of_pos, List.length_cons]
        split <;> omega
      refine ⟨fun ⟨hrx, hr, hc, hsingle, hcaptures⟩ =>
        ⟨hrx, hle.trans hr, fun h => hle.trans_lt (hc h), ?_, hcaptures⟩, fun hs => ⟨fun hw => hs.1 ?_, hs.2⟩⟩
      · simpa [htx, TxItem.isNotice] using hsingle
      · simpa [Fleet.noticeWaiting, htx, TxItem.isNotice] using hw
    next rest htx =>
      have hwaiting : s.fleet.noticeWaiting = true := by simp [Fleet.noticeWaiting, htx, TxItem.isNotice]
      have hsingle : (s.fleet.tx.filter TxItem.isNotice).length ≤ 1 → (rest.filter TxItem.isNotice).length ≤ 1 := by
        rw [htx, List.filter_cons_of_pos rfl, List.length_cons]
        omega
      have hheld {f : Fleet} (hf : f = { s.fleet with tx := rest, sending := f.sending })
          (hkind : ∀ x : TxFrame, f.sending = some x → x.kind ≠ kindResponse) : Held s (s.withFleet f) := by
        have htx' : f.tx = rest := by rw [hf]
        have heq : f.responses = s.fleet.responses := by
          rw [hresponses, htx]
          simp only [Fleet.responses, htx', TxItem.isNotice, Bool.not_true, Bool.false_eq_true, not_false_eq_true,
            List.filter_cons_of_neg]
          split
          next x hx => rw [if_neg (hkind x hx)]; rfl
          · rfl
        refine ⟨fun ⟨hrx, hr, hc, hone, hcaptures⟩ => ⟨?_, heq ▸ hr, fun h => heq ▸ hc h, ?_, hcaptures⟩,
          fun hs => ⟨fun _ => hs.1 hwaiting, ?_⟩⟩
        · rw [State.withFleet_fleet, hf]
          exact hrx
        · rw [State.withFleet_fleet, htx']
          exact hsingle hone
        · rw [State.withFleet_fleet, hf]
          exact hs.2
      split
      · exact hheld rfl fun x hx => by simp [hsending] at hx
      · refine hheld rfl fun x hx => ?_
        injection hx with hx
        rw [← hx]
        simp [kindNotice, kindResponse]

/-- After a RESTART no NOTICE waits, but for the kinds that level-sensed inputs then raise (R159, R190). -/
theorem held_restartEffect (s : State) : Held s (restartEffect s) := by
  have hports : Held s (restartedBlocks s) := by
    have hfleet : (restartedBlocks s).fleet =
        { s.fleet with
          tx := s.fleet.tx.filter fun x => !x.isNotice, corrupt := 0, dropped := 0, restartWaiting := false } := by
      simp [restartedBlocks, restartPorts, restartBlocks, restartTables]
    have heq : (restartedBlocks s).fleet.responses = s.fleet.responses :=
      responses_eq (by rw [hfleet]; simp [List.filter_filter]) (by rw [hfleet])
    refine ⟨fun ⟨hrx, hr, _, _, _⟩ => ⟨by rw [hfleet]; exact hrx, heq ▸ hr, fun h => ?_, ?_, Nat.zero_le _⟩,
      fun hs => ⟨fun h => ?_, by rw [hfleet]; exact hs.2⟩⟩
    · simp [restartedBlocks, restartPorts, restartBlocks, restartTables, CommitState.isChecking] at h
    · simp [hfleet, List.filter_filter]
    · simp [hfleet, Fleet.noticeWaiting, List.any_filter] at h
  have hrest : Noticed (restartedBlocks s) (restartEffect s) := by
    rw [restartEffect_eq]
    have hinputs : Noticed (restartedBlocks s) (restartedInputs s) := (noticed_raiseIf _ _ _).before rfl rfl
    exact hinputs.after_eq (by simp) (by simp)
  exact hports.trans (hrest.held_of_tables (by simp [restartEffect_eq, restartedInputs]))

theorem held_transmitEnd (s : State) : Held s (transmitEnd s) := by
  unfold transmitEnd
  split
  · exact .refl s
  next f hf =>
    have hle : ({ s.fleet with sending := none } : Fleet).responses ≤ s.fleet.responses := by
      simp [Fleet.responses]
    have hend : Held s (s.withFleet { s.fleet with sending := none }) :=
      ⟨fun ⟨hrx, hr, hc, hone, hcaptures⟩ => ⟨hrx, hle.trans hr, fun h => hle.trans_lt (hc h), hone, hcaptures⟩, id⟩
    dsimp only
    split
    · exact hend.trans (held_restartEffect _)
    · exact hend

/-! ## Responses (R155, R157) -/

theorem responses_respond (kind tag : Byte) (code : ResultCode) (data : List Byte) (s : State) :
    (respond kind tag code data s).fleet.responses = s.fleet.responses + 1 := by
  simp only [respond, Fleet.responses, State.withFleet_fleet, List.filter_append, List.length_append]
  simp [TxItem.isNotice]
  omega

theorem respond_bounded {kind tag : Byte} {code : ResultCode} {data : List Byte} {s : State} (h : QueuesBounded s)
    (hroom : s.fleet.responses < Config.responseLimit) (hcommit : s.tables.commit.isChecking = false) :
    QueuesBounded (respond kind tag code data s) := by
  obtain ⟨hrx, -, -, hsingle, hcaptures⟩ := h
  refine ⟨hrx, (responses_respond ..).trans_le hroom, fun hc => ?_, ?_, hcaptures⟩
  · exact absurd (hcommit.symm.trans hc) (by simp)
  · simpa [respond, TxItem.isNotice] using hsingle

theorem respond_sound {kind tag : Byte} {code : ResultCode} {data : List Byte} {s : State} (h : PortSound s) :
    PortSound (respond kind tag code data s) := by
  refine ⟨fun hw => h.1 ?_, h.2⟩
  simpa [respond, Fleet.noticeWaiting, TxItem.isNotice] using hw

theorem held_endCheck (s : State) : Held s (endCheck s) := by
  unfold endCheck
  split
  next carried tag hchecking =>
    have hanswer (x : CommitState) (hx : x.isChecking = false) (code : ResultCode) (data : List Byte) :
        Held s (respond kindCommit tag code data (s.setCommit x)) := by
      refine ⟨fun hs => ?_, fun hs => respond_sound hs⟩
      obtain ⟨hrx, hr, hc, hone, hcaptures⟩ := hs
      exact respond_bounded ⟨hrx, hr, fun h => absurd (hx.symm.trans h) (by simp), hone, hcaptures⟩
        (hc (by rw [hchecking]; rfl)) hx
    dsimp only
    split
    · exact hanswer .idle rfl _ _
    · split
      · exact hanswer .idle rfl _ _
      · split
        · refine (hanswer .pending rfl _ _).trans ((noticed_activate false _).held fun h => ?_)
          simp [CommitState.isChecking] at h
        · exact hanswer .pending rfl _ _
  · exact .refl s

/-! ## Every event -/

theorem afterPowerOn_bounded (level : Vector Bool 8) (n : Nat) (q : List Instr) :
    QueuesBounded (State.afterPowerOn level n q) := by
  simp [QueuesBounded, State.afterPowerOn, Fleet.responses, CommitState.isChecking]

theorem afterPowerOn_portSound (level : Vector Bool 8) (n : Nat) (q : List Instr) :
    PortSound (State.afterPowerOn level n q) := by
  simp [PortSound, State.afterPowerOn, Fleet.noticeWaiting]

theorem held_afterPowerOn (level : Vector Bool 8) (n : Nat) (q : List Instr) (s : State) :
    Held s (State.afterPowerOn level n q) :=
  ⟨fun _ => afterPowerOn_bounded level n q, fun _ => afterPowerOn_portSound level n q⟩

theorem timerExpiry_tables (s : State) : (timerExpiry s).tables = s.tables := by
  unfold timerExpiry
  dsimp only
  (repeat' split) <;> simp

theorem turnStale_tables (g : GroupId) (s : State) : (turnStale g s).tables = s.tables := by
  unfold turnStale
  split <;> simp

/-- The start of a transaction touches nothing but the lines. -/
theorem startTransaction_eq (l : LineId) (s : State) :
    startTransaction l s = s.withLines (startTransaction l s).lines := by
  unfold startTransaction pickAndSend
  split
  · rfl
  · split <;> rfl

theorem endTransaction_tables (l : LineId) (tx : Transaction) (o : LineOutcome) (rx : List RxChar) (s : State) :
    (endTransaction l tx o rx s).tables = s.tables := by
  have hmark (u : State) : (clearMark l tx u).tables = u.tables := by
    unfold clearMark
    split <;> simp
  rw [endTransaction_eq, State.updLine_tables, hmark, (quiet_handedUp l tx o rx s).tables]
  rfl

theorem held_event (c : Instr) (s : State) : Held s (eventOf c s) := by
  have heq {t : State} (hfleet : t.fleet = s.fleet) (hnotices : t.notices = s.notices) (htables : t.tables = s.tables) :
      Held s t := (Noticed.of_eq hfleet hnotices).held_of_tables htables
  cases c with
  | powerOn | resetInput => exact held_afterPowerOn _ _ _ s
  | tick => exact heq rfl rfl rfl
  | roundTimerExpiry => exact (noticed_timerExpiry s).held_of_tables (timerExpiry_tables s)
  | headroomTurnsStale g => exact (noticed_turnStale g s).held_of_tables (turnStale_tables g s)
  | issueStage => exact (noticed_issueStage s).held issueStage_checking
  | fastShedPassEnd => exact (noticed_passEnd s).held passEnd_checking
  | commitCheckEnd => exact held_endCheck s
  | fleetFrameReceived | fleetLengthAbove240 => exact held_receiveBytes _ s
  | fleetFrameAbort =>
    simp only [eventOf, abortFrame]
    split
    · exact .refl s
    · exact held_discardFrame s
  | frameTransmitStart => exact held_transmitStart s
  | frameTransmitEnd => exact held_transmitEnd s
  | transactionStart l =>
    simp only [eventOf]
    rw [startTransaction_eq]
    exact heq rfl rfl rfl
  | replyTimeout l =>
    simp only [eventOf, replyTimeout]
    split
    · exact .refl s
    · exact (noticed_endTransaction _ _ _ _ s).held_of_tables (endTransaction_tables _ _ _ _ s)
  | report l rx | faultReport l rx | caps l rx | replyFailed l rx =>
    simp only [eventOf, endReply]
    split
    · exact .refl s
    · split
      · exact .refl s
      · exact (noticed_endTransaction _ _ _ _ s).held_of_tables (endTransaction_tables _ _ _ _ s)
  | lineBreakEnd l => exact heq rfl rfl rfl
  | inputLineChange i high => exact heq rfl rfl rfl
  | inputEdgeTaken i => exact (noticed_takeEdge i s).held takeEdge_checking
  | _ => exact .refl s

/-! ## The owners -/

/-- After a withdrawal a NOTICE waits only while a pending kind is unmasked (R187, R188). -/
theorem withdrawNotice_sound {s : State} (h : (withdrawNotice s).fleet.noticeWaiting = true) :
    s.notices.unmasked ≠ 0 := by
  intro hzero
  rw [withdrawNotice_fleet, if_pos hzero] at h
  simp [Fleet.noticeWaiting, List.any_filter] at h

theorem withdrawNotice_single (s : State) :
    ((withdrawNotice s).fleet.tx.filter TxItem.isNotice).length ≤ (s.fleet.tx.filter TxItem.isNotice).length := by
  rw [withdrawNotice_fleet]
  split
  · simp [List.filter_filter]
  · exact le_rfl

/-- An owner's act that withdraws a NOTICE when its own is done. -/
theorem held_withdrawing {s u : State} (htables : u.tables = s.tables)
    (hcaptures : u.notices.captures = s.notices.captures)
    (hfleet : u.fleet = { s.fleet with tx := u.fleet.tx })
    (hresponses : u.fleet.tx.filter (fun x => !x.isNotice) = s.fleet.tx.filter fun x => !x.isNotice)
    (hsingle : (s.fleet.tx.filter TxItem.isNotice).length ≤ 1 → (u.fleet.tx.filter TxItem.isNotice).length ≤ 1) :
    Held s (withdrawNotice u) := by
  have hport : (withdrawNotice u).fleet = { s.fleet with tx := (withdrawNotice u).fleet.tx }
      ∧ (withdrawNotice u).fleet.tx.filter (fun x => !x.isNotice) = s.fleet.tx.filter fun x => !x.isNotice := by
    rw [withdrawNotice_fleet]
    split
    · refine ⟨?_, by simpa [List.filter_filter] using hresponses⟩
      rw [hfleet]
    · exact ⟨hfleet, hresponses⟩
  obtain ⟨hf, hr⟩ := hport
  have heq : (withdrawNotice u).fleet.responses = s.fleet.responses := responses_eq hr (by rw [hf])
  refine ⟨fun ⟨hrx, hresp, hc, hone, hcap⟩ => ⟨by rw [hf]; exact hrx, heq ▸ hresp, fun h => ?_,
    (withdrawNotice_single u).trans (hsingle hone), ?_⟩, fun hs => ⟨fun hw => ?_, by rw [hf]; exact hs.2⟩⟩
  · rw [heq]
    rw [withdrawNotice_tables, htables] at h
    exact hc h
  · rw [withdrawNotice_notices, hcaptures]
    exact hcap
  · rw [withdrawNotice_notices]
    exact withdrawNotice_sound hw

theorem held_ownerActs {s t : State} (h : OwnerActs s t) : Held s t := by
  have heq {u : State} (hfleet : u.fleet = s.fleet) (hnotices : u.notices = s.notices) (hu : OwnerActs s u) : Held s u :=
    (Noticed.of_eq hfleet hnotices).held (ownerActs_checking hu)
  cases h with
  | dispatches p d h =>
    have hacts : OwnerActs s _ := .dispatches p d h
    have hnoticed := (noticed_afterDispatch p d.target
      (s.updPad p fun q => { q with dispatch := some d, delivered := 0, remaining := d.target })).before
      (s := s) rfl rfl
    exact hnoticed.held (ownerActs_checking hacts)
  | clearsInput i h =>
    obtain ⟨hfleet, hnotices⟩ := reformOwner_fleet_notices i
      (s.withSignals { s.signals with latch := s.signals.latch.set i false })
    exact heq hfleet hnotices (.clearsInput i h)
  | setsMode t h => exact ((noticed_modeActs h).after_eq (u := t.spend 4) rfl rfl).held (ownerActs_checking (.setsMode t h))
  | restarts => exact ⟨id, id⟩
  | takesCapture =>
    refine ⟨fun ⟨hrx, hr, hc, hone, hcaptures⟩ => ⟨hrx, hr, hc, hone, ?_⟩, id⟩
    simp only [State.withNotices_notices, List.length_drop]
    omega
  | acknowledges set => exact held_withdrawing rfl rfl rfl rfl id
  | masks set =>
    split
    · exact held_withdrawing rfl rfl rfl rfl id
    · refine held_withdrawing (by simp) (by simp) (by rw [callNotice_fleet]; rfl) ?_ fun hone => ?_
      · rw [callNotice_tx]
        split <;> simp [TxItem.isNotice]
      · rw [callNotice_tx]
        split
        · exact hone
        next hw =>
          have hnone : s.fleet.tx.filter TxItem.isNotice = [] := by
            simpa [Fleet.noticeWaiting, List.filter_eq_nil_iff] using hw
          simp only [State.withNotices_fleet, List.filter_append, hnone]
          exact le_rfl
  | nothing => exact .refl s
  | releases p h => exact heq (by simp) (by simp) (.releases p h)
  | endsProbing p h => exact heq rfl rfl (.endsProbing p h)
  | limits p l => exact heq rfl rfl (.limits p l)
  | clears p h => exact heq rfl rfl (.clears p h)
  | takesHeadroom g x => exact heq (by simp) (by simp) (.takesHeadroom g x)
  | writesTables x h h' h'' => exact heq rfl rfl (.writesTables x h h' h'')

theorem held_taking {s : State} {rest : List RxFrame} (h : rest.length ≤ s.fleet.rx.length) : Held s (s.taking rest) :=
  ⟨fun ⟨hrx, hr, hc, hone, hcaptures⟩ => ⟨h.trans hrx, hr, hc, hone, hcaptures⟩, id⟩

/-- The answer of an owner: one response more where the port took the request, and none for a COMMIT whose check has
begun. -/
theorem held_takeRequest {c : Instr} {f : RxFrame} (hc : requestOf c = some f) (s : State) :
    Held s (takeRequest f.kind f.tag f.body (ownerOf c) s) := by
  rcases takeRequest_cases f.kind f.tag f.body (ownerOf c) s with h | ⟨rest, hready, hrest, h⟩
  · rw [h]
    exact .refl s
  rw [h]
  obtain ⟨hidle, -, hroom⟩ := (portReady_iff s).mp hready
  have htaken : Held s (s.taking rest) := held_taking hrest
  have hanswer {u : State} (hu : OwnerActs (s.taking rest) u) (code : ResultCode) (data : List Byte) :
      Held s (respond f.kind f.tag code data u) := by
    have hheld := htaken.trans (held_ownerActs hu)
    refine ⟨fun hs => respond_bounded (hheld.bounded hs) ?_ ?_, fun hs => respond_sound (hheld.sound hs)⟩
    · obtain ⟨hfleet, hresponses⟩ := hu.port
      rw [responses_eq (f := s.fleet) hresponses (by rw [hfleet]; rfl)]
      exact hroom
    · rw [Bool.eq_false_iff]
      intro hchecking
      have hbefore : s.tables.commit.isChecking = true := ownerActs_checking (s := s.taking rest) hu hchecking
      exact absurd (hidle.symm.trans hbefore) (by simp)
  have hfair := ownerOf_fair (s := s.taking rest) hc
  generalize ownerOf c (s.taking rest) = a at hfair
  obtain ⟨kind, tag, body⟩ := f
  cases hfair with
  | refuses _ code _ => exact hanswer .nothing code []
  | accepts _ t clamped data hu => exact hanswer hu _ data
  | defers w tag =>
    exact ⟨fun ⟨hrx, hr, _, hone, hcaptures⟩ => ⟨hrest.trans hrx, hr, fun _ => hroom, hone, hcaptures⟩, id⟩

theorem held_effect (c : Instr) (s : State) : Held s (effect c s) := by
  unfold effect
  split
  next hc => exact held_takeRequest hc s
  · exact held_event c s

theorem held_step {s t : State} (h : step s = .next t) : Held s t := by
  rcases step_cases h with rfl | ⟨c, rest, -, rfl⟩
  · exact .refl _
  · have hqueue : Held s { s with pending := rest } := ⟨id, id⟩
    have hdrive (u : State) : Held u (driveOutputs u) := ⟨id, id⟩
    exact hqueue.trans ((held_effect c _).trans (hdrive _))

/-- Settles O59: the queues, the lists, the breaks and the port. -/
theorem stepsKeepQueuesAndLists : Obligations.StepsKeepQueuesAndLists :=
  ⟨fun _ _ hq hl hb h => ⟨(held_step h).bounded hq, (keeps_step h).distinct hl, (keeps_step h).ordered hb⟩,
    fun _ _ hs h => (held_step h).sound hs⟩

/-- Power-on drives every output low: an all-zero record names no source (R7, R24, R197). -/
theorem afterPowerOn_driven (level : Vector Bool 8) (n : Nat) (q : List Instr) (o : OutputId) :
    (State.afterPowerOn level n q).driven o = false := by
  have hrec : (State.afterPowerOn level n q).outputRec o = outputView (Vector.replicate 4 0) := by
    simp [State.outputRec, State.afterPowerOn, Bank.outputRec, Bank.zero]
  rw [State.driven, hrec]
  simp [outputView, sourceOf, State.source]

theorem reset_outputs : OutputsFollow State.reset := fun o => by
  rw [State.reset, afterPowerOn_driven]
  simp [State.afterPowerOn]

/-- Settles O60: the state after reset has every invariant. -/
theorem resetHasEveryInvariant : Obligations.ResetHasEveryInvariant := by
  have halone := afterPowerOn_alone (Vector.replicate 8 false) 0 []
  have hfresh := afterPowerOn_fresh (Vector.replicate 8 false) 0 []
  exact ⟨reset_outputs, afterPowerOn_sound _ _ _, idle_of_zero (afterPowerOn_idle _ _ _) rfl rfl rfl rfl, halone.1,
    halone.2, covers_of_zero (afterPowerOn_idle _ _ _), hfresh.1, hfresh.2, within_of_zero (afterPowerOn_idle _ _ _),
    afterPowerOn_bounded _ _ _, afterPowerOn_distinct _ _ _, afterPowerOn_ordered _ _ _,
    afterPowerOn_portSound _ _ _⟩

end Sys2Proof.Machine

/-! PROOFS. What is checked of every request, and what a refusal leaves (R9, R10, R154, R156, R171, R201); the events
whose occasion has not arisen; and the tick. -/

namespace Sys2Proof.Machine

/-! ## Refusals (R156) -/

/-- Settles O6: the response tells which kind of answer the owner gave, and a refusal leaves the state. -/
theorem refusalChangesNoState : Obligations.RefusalChangesNoState := by
  unfold Obligations.RefusalChangesNoState
  intro c f rest s t code data hc htakes ht htx hok hclamped
  rw [exec_next hc htakes] at ht
  injection ht with ht
  subst ht
  have hfair := ownerOf_fair (s := s.taking rest) hc
  generalize ownerOf c (s.taking rest) = a at hfair htx ⊢
  obtain ⟨kind, tag, body⟩ := f
  cases hfair with
  | refuses _ x _ =>
    have hlast := List.append_inj_right' htx rfl
    simp only [List.cons.injEq, TxItem.response.injEq, TxFrame.mk.injEq, and_true, true_and] at hlast
    rw [delivered_refused, hlast.1, hlast.2]
  | accepts _ u clamped d hu =>
    have hlast := List.append_inj_right' htx rfl
    simp only [List.cons.injEq, TxItem.response.injEq, TxFrame.mk.injEq, and_true, true_and] at hlast
    cases clamped
    · exact absurd hlast.1.symm hok
    · exact absurd hlast.1.symm hclamped
  | defers w tag =>
    simp [Answer.delivered] at htx

/-! ## Lengths, numbers and kinds (R9, R10, R154, R171, R201) -/

/-- A body of a length that its request does not allow is refused with BAD_LENGTH (R9, R10, R201). -/
theorem ownerOf_badLength {c : Instr} {f : RxFrame} {s : State} (hc : requestOf c = some f)
    (hkind : f.kind ∈ requestKinds) (hlength : lengthAllowed f.kind s.tables.window f.body.length = false)
    (hpending : f.kind = 0x11 → s.tables.commit ≠ .pending) : ownerOf c s = refuse .badLength s := by
  cases c with
  | writeRecords tag body =>
    simp only [requestOf, Option.some.injEq] at hc
    subst hc
    have hcommit := hpending rfl
    cases hw : s.tables.window with
    | none => simp [lengthAllowed, hw] at hlength
    | some w =>
      have hbody : body = [] ∨ body.length % w.table.size ≠ 0 ∨ Config.writeLimit < body.length / w.table.size := by
        simp [lengthAllowed, hw] at hlength
        by_cases hnil : body = []
        · exact .inl hnil
        · by_cases hmod : body.length % w.table.size = 0
          · exact .inr (.inr (hlength hmod (List.length_pos_iff.mpr hnil)))
          · exact .inr (.inl hmod)
      simp only [ownerOf, writeRecords, hw, if_neg hcommit, if_pos hbody]
  | readRecords tag body =>
    simp only [requestOf, Option.some.injEq] at hc
    subst hc
    cases hw : s.tables.window with
    | none => simp [lengthAllowed, hw] at hlength
    | some w =>
      simp [lengthAllowed, hw] at hlength
      simp [ownerOf, readRecords, hw, hlength]
  | badKindRequest kind tag body =>
    simp only [requestOf, Option.ite_none_left_eq_some, Option.some.injEq] at hc
    obtain ⟨hno, rfl⟩ := hc
    exact absurd hkind hno
  | dispatch _ body | release _ body | padLimit _ body | clearPad _ body | headroom _ body | clearInput _ body
  | openWindow _ body | commit _ body | readPad _ body | readFeeder _ body | readLine _ body | ackNotices _ body
  | setNoticeMask _ body | setModeHalt _ body | setModeResume _ body | setModeFine _ body | setModeStepped _ body
  | setModeFull _ body | setModePartial _ body =>
    simp only [requestOf, Option.some.injEq] at hc
    subst hc
    simp [lengthAllowed] at hlength
    simp [ownerOf, dispatchRequest, releaseRequest, padLimitRequest, clearPadRequest, headroomRequest,
      clearInputRequest, Machine.openWindow, Machine.commit, readPadRequest, readFeederRequest, readLineRequest,
      ackNoticesRequest, setNoticeMaskRequest, setModeRequest, hlength]
  | discard _ body | restart _ body | readCapture _ body | readStatus _ body =>
    simp only [requestOf, Option.some.injEq] at hc
    subst hc
    simp [lengthAllowed] at hlength
    simp [ownerOf, Machine.discard, restartRequest, readCaptureRequest, readStatusRequest, hlength]
  | _ => simp [requestOf] at hc

/-- A number or a setting out of range in a body of an allowed length is refused with RANGE (R156, R171). -/
theorem ownerOf_outOfRange {c : Instr} {f : RxFrame} {s : State} (hc : requestOf c = some f)
    (hlength : lengthAllowed f.kind s.tables.window f.body.length = true)
    (hrange : (f.kind ∈ [0x01, 0x02, 0x03, 0x04, 0x29] ∧ 63 < (byteAt f.body 0).toNat)
      ∨ (f.kind ∈ [0x08, 0x0C, 0x2A] ∧ 7 < (byteAt f.body 0).toNat)
      ∨ (f.kind = 0x2B ∧ 3 < (byteAt f.body 0).toNat) ∨ (f.kind = 0x18 ∧ 5 < (byteAt f.body 0).toNat)) :
    ownerOf c s = refuse .range s := by
  cases c with
  | dispatch _ body | release _ body | padLimit _ body | clearPad _ body =>
    simp only [requestOf, Option.some.injEq] at hc
    subst hc
    simp at hrange
    simp [lengthAllowed] at hlength
    simp [ownerOf, dispatchRequest, releaseRequest, padLimitRequest, clearPadRequest, hlength, padOf_of_above, hrange]
  | readPad _ body =>
    simp only [requestOf, Option.some.injEq] at hc
    subst hc
    simp at hrange
    simp [lengthAllowed] at hlength
    simp [ownerOf, readPadRequest, hlength, Nat.not_lt.mpr hrange]
  | headroom _ body =>
    simp only [requestOf, Option.some.injEq] at hc
    subst hc
    simp at hrange
    simp [lengthAllowed] at hlength
    simp [ownerOf, headroomRequest, hlength, groupOf_of_above hrange]
  | clearInput _ body | readFeeder _ body =>
    simp only [requestOf, Option.some.injEq] at hc
    subst hc
    simp at hrange
    simp [lengthAllowed] at hlength
    simp [ownerOf, clearInputRequest, readFeederRequest, hlength, Nat.not_lt.mpr hrange]
  | readLine _ body =>
    simp only [requestOf, Option.some.injEq] at hc
    subst hc
    simp at hrange
    simp [lengthAllowed] at hlength
    simp [ownerOf, readLineRequest, hlength, Nat.not_lt.mpr hrange]
  | setModeHalt _ body | setModeResume _ body | setModeFine _ body | setModeStepped _ body | setModeFull _ body
  | setModePartial _ body =>
    simp only [requestOf, Option.some.injEq] at hc
    subst hc
    simp at hrange
    simp [lengthAllowed] at hlength
    simp only [ownerOf, setModeRequest, hlength, ne_eq, not_true_eq_false, if_false]
    split <;> [omega; omega; omega; omega; omega; omega; rfl]
  | badKindRequest kind _ body =>
    simp only [requestOf, Option.ite_none_left_eq_some, Option.some.injEq] at hc
    obtain ⟨hno, rfl⟩ := hc
    have hkinds : kind ∈ [0x01, 0x02, 0x03, 0x04, 0x29] ∨ kind ∈ [0x08, 0x0C, 0x2A] ∨ kind = 0x2B ∨ kind = 0x18 :=
      hrange.imp And.left (Or.imp And.left (Or.imp And.left And.left))
    simp only [List.mem_cons, List.not_mem_nil, or_false] at hkinds
    refine absurd ?_ hno
    rcases hkinds with (rfl | rfl | rfl | rfl | rfl) | (rfl | rfl | rfl) | rfl | rfl <;> decide
  | openWindow | writeRecords | readRecords | commit | discard | restart | readCapture | ackNotices | setNoticeMask
  | readStatus =>
    simp only [requestOf, Option.some.injEq] at hc
    subst hc
    simp at hrange
  | _ => simp [requestOf] at hc

/-- Settles O5: each owner looks at the length first, and then at the number or the setting. -/
theorem lengthAndKindAreChecked : Obligations.LengthAndKindAreChecked := by
  refine ⟨fun c f rest s hc ht hkind hlength hpending => ?_, fun c f rest s hc ht hlength hrange => ?_,
    fun kind tag body rest s hkind ht => ?_, rfl⟩
  · rw [exec_next hc ht, ownerOf_badLength (s := s.taking rest) hc hkind hlength hpending, delivered_refused]
    rfl
  · rw [exec_next hc ht, ownerOf_outOfRange (s := s.taking rest) hc hlength hrange, delivered_refused]
    rfl
  · rw [exec_next (f := ⟨kind, tag, body⟩) (by simp [requestOf, hkind]) ht]
    rfl

/-! ## Events without occasion (log entry 7) -/

theorem exec_event {c : Instr} (hc : requestOf c = none) (s : State) : exec c s = .next (driveOutputs (eventOf c s)) := by
  rw [exec_eq, effect, hc]

section
variable {s : State}

theorem timerExpiry_of_no_occasion (h : s.mode.engine ≠ .running ∨ s.time.timer ≠ some 0 ∨ s.alloc.sweep ≠ none) :
    timerExpiry s = s := by
  unfold timerExpiry
  refine if_neg fun ⟨hengine, htimer, hsweep⟩ => ?_
  rcases h with h | h | h
  · exact h hengine
  · exact h htimer
  · exact h (by simpa using hsweep)

theorem issueStage_of_no_sweep (h : s.alloc.sweep = none) : issueStage s = s := by
  unfold issueStage
  rw [h]

theorem endCheck_of_not_checking (h : s.tables.commit.isChecking = false) : endCheck s = s := by
  unfold endCheck
  split
  next hc => simp [hc, CommitState.isChecking] at h
  · rfl

theorem transmitStart_of_busy (h : s.fleet.sending ≠ none ∨ s.fleet.tx = []) : transmitStart s = s := by
  unfold transmitStart
  split
  · rfl
  next hsending =>
    have htx : s.fleet.tx = [] := h.resolve_left (by simpa using hsending)
    rw [htx]

theorem transmitEnd_of_idle (h : s.fleet.sending = none) : transmitEnd s = s := by
  unfold transmitEnd
  rw [h]

theorem turnStale_of_young {g : GroupId} (h : s.groups[g].hstate ≠ .fresh ∨ s.groups[g].age ≤ 10 * s.site.holdTime) :
    turnStale g s = s := by
  unfold turnStale
  refine if_neg fun ⟨hfresh, hage⟩ => ?_
  rcases h with h | h
  · exact h hfresh
  · omega

theorem updLine_of_fixed {l : LineId} {f : LineCtl → LineCtl} (h : f s.lines[l] = s.lines[l]) : s.updLine l f = s := by
  unfold State.updLine
  rw [h]
  simp [State.withLines]

theorem endReply_of_idle {l : LineId} (h : s.lines[l].inFlight = none) (rx : List RxChar) : endReply l rx s = s := by
  unfold endReply
  rw [h]

theorem replyTimeout_of_idle {l : LineId} (h : s.lines[l].inFlight = none) : replyTimeout l s = s := by
  unfold replyTimeout
  rw [h]

theorem LineCtl.fallIdle_of_idle {c : LineCtl} (h : c.busy = false) : c.fallIdle = c := by
  simp [LineCtl.fallIdle, h]

theorem startTransaction_of_busy {l : LineId} (hmay : s.lines[l].mayStart = false) (hbusy : s.lines[l].busy = false) :
    startTransaction l s = s := by
  unfold startTransaction pickAndSend
  rw [updLine_of_fixed (LineCtl.fallIdle_of_idle hbusy), if_pos hmay]

theorem LineCtl.endBreak_of_idle {c : LineCtl} (hbreaking : c.breaking = false) (hbusy : c.busy = false) :
    c.endBreak = c := by
  simp [LineCtl.endBreak, LineCtl.fallIdle_of_idle hbusy, hbreaking]

theorem takeEdge_of_settled {i : InputId} (h : s.signals.level[i] = s.signals.taken[i]) : takeEdge i s = s := by
  unfold takeEdge
  exact if_pos h

end

/-- Settles O28: each event looks at its occasion first. -/
theorem eventWithoutOccasionChangesNothing : Obligations.EventWithoutOccasionChangesNothing := by
  intro s
  have hstays {c : Instr} (hc : requestOf c = none) (h : eventOf c s = s) : exec c s = .next (driveOutputs s) := by
    rw [exec_event hc, h]
  refine ⟨fun h => hstays rfl (timerExpiry_of_no_occasion h), fun h => hstays rfl (issueStage_of_no_sweep h),
    fun h => hstays rfl (if_neg h), fun h => hstays rfl (endCheck_of_not_checking h),
    fun h => hstays rfl (transmitEnd_of_idle h), fun h => hstays rfl (transmitStart_of_busy h),
    fun g h => hstays rfl (turnStale_of_young h), fun l h => ⟨hstays rfl (replyTimeout_of_idle h), fun rx => ?_⟩,
    fun l hmay hbusy => hstays rfl (startTransaction_of_busy hmay hbusy),
    fun l hb hbusy => hstays rfl (updLine_of_fixed (LineCtl.endBreak_of_idle hb hbusy)),
    fun h => hstays rfl (if_pos h), fun i h => hstays rfl (takeEdge_of_settled h)⟩
  have hreply := endReply_of_idle h rx
  exact ⟨hstays rfl hreply, hstays rfl hreply, hstays rfl hreply, hstays rfl hreply⟩

/-! ## A tick and power-on (R1, R95, R180) -/

theorem satInc_eq_min (top n : Nat) : satInc top n = min top (n + 1) := by
  unfold satInc
  split <;> omega

/-- Settles O24. -/
theorem tickAdvancesTimeAndAges : Obligations.TickAdvancesTimeAndAges := by
  intro s
  have hgroups : (tabulate 8 fun g => (s.groups[g]).tick) = s.groups.map fun x =>
      if x.hstate = .none then x else { x with age := min 65535 (x.age + 1) } := by
    ext1 g hg
    simp only [tabulate_get, Fin.getElem_fin, Vector.getElem_map, Group.tick, satInc_eq_min]
  rw [exec_event rfl, ← hgroups]
  rfl

/-- Settles O3: the state after power-on, block by block. -/
theorem powerOnReturnsEveryBlock : Obligations.PowerOnReturnsEveryBlock := by
  refine ⟨fun s => ⟨driveOutputs (powerOn s), rfl, rfl, rfl, rfl, fun p => afterPowerOn_pad _ _ _ p, rfl,
    fun g => afterPowerOn_group _ _ _ g, fun l => afterPowerOn_line _ _ _ l, rfl, rfl, rfl, rfl, rfl, fun i => ?_,
    fun o => ?_, rfl, rfl⟩, ?_⟩
  · simp [driveOutputs, powerOn, State.afterPowerOn]
  · simp only [driveOutputs, State.withSignals_signals, Fin.getElem_fin, tabulate_get]
    exact afterPowerOn_driven _ _ _ o
  · refine ⟨rfl, rfl, rfl, by simp [State.reset, State.afterPowerOn], rfl, rfl, rfl, fun p => ?_, fun l => ?_,
      fun o => ?_, fun i => ?_, rfl, rfl, rfl, rfl⟩
    · simp [State.reset, afterPowerOn_pad, Pad.initial]
    · simp [State.reset, afterPowerOn_line, LineCtl.initial]
    · simp [State.reset, State.afterPowerOn]
    · simp [State.reset, State.afterPowerOn]

end Sys2Proof.Machine

/-! PROOFS. The requests on sessions and on the headroom of a group (R39, R43, R47, R54, R94), each as the equation of its
owner on a body of the right length. -/

namespace Sys2Proof.Machine

section
variable {s : State} {p : PadId}

/-! ## Responses -/

theorem byte_clamped (b : Bool) : (if b then ResultCode.okClamped else ResultCode.ok).byte = if b then 0x01 else 0x00 := by
  cases b <;> rfl

/-- A response to an owner's change of one pad, as the statements write it. -/
theorem respond_updPad (kind tag : Byte) (code : ResultCode) (data : List Byte) (rest : List RxFrame) (f : Pad → Pad) :
    respond kind tag code data ((s.taking rest).updPad p f) =
      (s.replied rest tag (kind :: code.byte :: data)).withPads (s.pads.set p (f s.pads[p])) := rfl

/-! ## DISPATCH (R39) -/

/-- The session with the dispatch record of a DISPATCH and its energy (R39). -/
def Pad.dispatched (now : Ticks) (target seconds : Nat) (q : Pad) : Pad :=
  { q with dispatch := some (newDispatch q now target seconds), delivered := 0, remaining := target }

theorem dispatchRequest_byte1 (th tl dh dl : Byte) : dispatchRequest [byte1 p.val, th, tl, dh, dl] s =
    if s.pads[p].state.mayDispatch = false then refuse .state s
    else
      let t := storedTarget s.pads[p] (be16 th tl)
      acceptClamped (decide (t < be16 th tl))
        (afterDispatch p t (s.updPad p (Pad.dispatched s.time.running t (be16 dh dl)))) (bytes2 t) := by
  simp only [dispatchRequest, List.length_cons, List.length_nil, ne_eq, not_true_eq_false, if_false, padOf_byte1]
  rfl

/-- A DISPATCH that completes nothing: in PROBING, or with a target above 0. -/
theorem afterDispatch_of_pos {n : Nat} {f : Pad → Pad} (hstate : (f s.pads[p]).state = s.pads[p].state)
    (hremaining : (f s.pads[p]).remaining = n) (hmay : s.pads[p].state.mayDispatch = true)
    (hpos : s.pads[p].state = .probing ∨ 0 < n) :
    afterDispatch p n (s.updPad p f) =
      s.updPad p fun q => if q.state = .complete then (f q).setState .waiting else f q := by
  simp only [Fin.getElem_fin] at *
  unfold afterDispatch completionCheck
  simp only [Fin.getElem_fin, State.updPad_same, hstate, hremaining]
  cases hq : s.pads[p.val].state with
  | probing => simp [State.updPad, hq]
  | waiting | charging =>
    have hn : n ≠ 0 := by
      rw [hq] at hpos
      simp at hpos
      omega
    simp [State.updPad, hq, hn]
  | complete =>
    have hn : 0 < n := by simpa [hq] using hpos
    simp [State.updPad, State.withPads, hq, hn]
  | _ => simp [hq, SessionState.mayDispatch] at hmay

/-- Settles O8: the owner's equation, and what follows the record in each state. -/
theorem dispatchFormsItsRecord : Obligations.DispatchFormsItsRecord := by
  refine ⟨fun p tag th tl dh dl rest s target ht hstate htarget hpos => ?_, fun p tag th tl dh dl rest s ht hstate => ?_⟩
  · have hmay : s.pads[p].state.mayDispatch = true := by
      rcases hstate with h | h | h | h <;> rw [h] <;> rfl
    have hstored : storedTarget s.pads[p] (be16 th tl) = target := by
      rw [htarget]
      rfl
    rw [exec_next (f := ⟨0x01, tag, _⟩) rfl ht]
    simp only [ownerOf, dispatchRequest_byte1, taking_pads, taking_time, hstored, hmay, Bool.true_eq_false, if_false]
    rw [afterDispatch_of_pos (s := s.taking rest) (n := target) (f := Pad.dispatched s.time.running target (be16 dh dl))
      rfl rfl hmay hpos, delivered_acceptClamped, respond_updPad,
      byte_clamped]
    have hpad : (if s.pads[p].state = .complete then
          ((s.pads[p]).dispatched s.time.running target (be16 dh dl)).setState .waiting
        else (s.pads[p]).dispatched s.time.running target (be16 dh dl)) =
        { s.pads[p] with
          state := if s.pads[p].state = .complete ∧ 0 < target then .waiting else s.pads[p].state
          dispatch := some
            { target := target
              base := if s.pads[p].inDocking then (s.pads[p].report.map Report.energy).getD 0 else 0
              deadline := s.time.running + BitVec.ofNat 32 (10 * be16 dh dl)
              missed := false }
          delivered := 0, remaining := target } := by
      by_cases hc : s.pads[p].state = .complete
      · have hn : 0 < target := hpos.resolve_left (by rw [hc]; simp)
        simp only [hc, hn, and_self, if_true, Pad.setState, Pad.dispatched, newDispatch, SessionState.served,
          Bool.and_true]
      · simp only [hc, if_false, false_and, Pad.dispatched, newDispatch]
    rw [hpad]
    simp only [decide_eq_true_eq]
    rfl
  · have hmay : s.pads[p].state.mayDispatch = false := by
      rcases hstate with h | h | h | h | h <;> rw [h] <;> rfl
    rw [exec_next (f := ⟨0x01, tag, _⟩) rfl ht]
    simp only [ownerOf, dispatchRequest_byte1, taking_pads, hmay, if_true, delivered_refused]
    rfl

/-- The pads after a session becomes COMPLETE (R41). -/
theorem complete_get (q : PadId) : (complete p s).pads[q.val] =
    if p = q then ((s.pads[q.val]).lower 0).setState .complete else s.pads[q.val] := by
  unfold complete
  simp only [raise_pads, State.updPad_get, decrease_get]
  split <;> rfl

theorem complete_lines : (complete p s).lines = (decrease p 0 s).lines := by simp [complete]

theorem complete_raised : noticeIn .padComplete (complete p s).notices.pendingSet = true := raise_joins _ _

theorem urgentAfter_eq (v : Nat) (l : LineId) : (decrease p v s).lines[l].urgent = urgentAfter s p v l :=
  decrease_urgent s p v l

theorem afterDispatch_zero_complete (h : s.pads[p].state = .complete) :
    afterDispatch p 0 s = raise .padComplete s := by
  unfold afterDispatch
  rw [h]
  exact if_neg (Nat.lt_irrefl 0)

theorem afterDispatch_zero_served (h : s.pads[p].state.served = true) (hdispatch : s.pads[p].dispatch.isSome = true)
    (hremaining : s.pads[p].remaining = 0) : afterDispatch p 0 s = complete p s := by
  have hcheck : completionCheck p s = complete p s := if_pos ⟨h, hdispatch, hremaining⟩
  unfold afterDispatch
  split
  · exact hcheck
  · exact hcheck
  next hc =>
    rw [hc] at h
    simp [SessionState.served] at h
  next hwaiting hcharging _ =>
    unfold SessionState.served at h
    split at h <;> simp_all

/-- Settles O9: with nothing to deliver the completion check completes a served session, and a COMPLETE one stays. -/
theorem dispatchOfNothingCompletes : Obligations.DispatchOfNothingCompletes := by
  intro p tag dh dl rest s ht hstate
  have hmay : s.pads[p].state.mayDispatch = true := by
    rcases hstate with h | h | h <;> rw [h] <;> rfl
  have hstored : storedTarget s.pads[p] (be16 0 0) = 0 := by
    unfold storedTarget
    split <;> simp [be16]
  have hexec := exec_next (c := .dispatch tag [byte1 p.val, 0, 0, dh, dl]) (f := ⟨0x01, tag, _⟩) rfl ht
  simp only [ownerOf, dispatchRequest_byte1, taking_pads, taking_time, hstored, hmay, Bool.true_eq_false, if_false,
    delivered_acceptClamped] at hexec
  have hpad (q : PadId) : ((s.taking rest).updPad p (Pad.dispatched s.time.running 0 (be16 dh dl))).pads[q.val] =
      if p = q then (s.pads[q.val]).dispatched s.time.running 0 (be16 dh dl) else s.pads[q.val] :=
    State.updPad_get _ p q _
  have hown := hpad p
  rw [if_pos rfl] at hown
  simp only [Fin.getElem_fin] at hstate
  by_cases hcomplete : s.pads[p.val].state = .complete
  · rw [afterDispatch_zero_complete (by rw [Fin.getElem_fin, hown]; exact hcomplete)] at hexec
    refine ⟨_, hexec, by simp [hown, Pad.dispatched, hcomplete], raise_joins _ _,
      ⟨_, by simp [hown, Pad.dispatched]; rfl, rfl, rfl⟩, by simp [hown, Pad.dispatched],
      fun h => absurd (by simpa using hcomplete) h, fun q hq => ?_, by simp, by simp, by simp, by simp, by simp⟩
    simp [hpad, Ne.symm hq]
  · have hserved : s.pads[p.val].state.served = true := by
      rcases hstate with h | h | h
      · rw [h]; rfl
      · rw [h]; rfl
      · exact absurd h hcomplete
    rw [afterDispatch_zero_served (by rw [Fin.getElem_fin, hown]; exact hserved) (by simp [hown, Pad.dispatched])
      (by simp [hown, Pad.dispatched])] at hexec
    have hlower (q : PadId) : (complete p ((s.taking rest).updPad p (Pad.dispatched s.time.running 0 (be16 dh dl)))).pads[q.val] =
        if p = q then (((s.pads[q.val]).dispatched s.time.running 0 (be16 dh dl)).lower 0).setState .complete
        else s.pads[q.val] := by
      rw [complete_get, hpad]
      split <;> rfl
    have hself := hlower p
    rw [if_pos rfl, Pad.lower_eq] at hself
    refine ⟨_, hexec, by simp [hself, Pad.setState], by simp [complete_raised],
      ⟨_, by simp [hself, Pad.setState, Pad.dispatched]; rfl, rfl, rfl⟩, by simp [hself, Pad.setState, Pad.dispatched],
      fun _ => ⟨by simp [hself, Pad.setState], by simp [hself, Pad.setState], fun hsent => ⟨?_, ?_⟩, fun l => ?_⟩,
      fun q hq => ?_, by simp, by simp, by simp, by simp, by simp⟩
    · simp only [Fin.getElem_fin] at hsent
      simp [hself, Pad.setState, Pad.dispatched, hsent]
    · simp only [Fin.getElem_fin] at hsent
      simp [hself, Pad.setState, Pad.dispatched, hsent]
      rfl
    · have hurgent : urgentAfter ((s.taking rest).updPad p (Pad.dispatched s.time.running 0 (be16 dh dl))) p 0 l =
          urgentAfter s p 0 l := by
        unfold urgentAfter
        simp only [Fin.getElem_fin, hown]
        rfl
      simp only [driveOutputs_lines, respond_lines, complete_lines, urgentAfter_eq, hurgent]
    · simp [hlower, Ne.symm hq]

/-! ## RELEASE (R43) -/

theorem releaseRequest_byte1 : releaseRequest [byte1 p.val] s =
    match s.pads[p].state with
    | .waiting | .charging | .complete =>
      accept ((decrease p 0 s).updPad p fun q => q.dropDispatch.setState .releasing) []
    | .probing => accept (s.updPad p fun q => q.dropDispatch.clearFigures.setState .releasing) []
    | .empty => accept s []
    | .disabled | .releasing | .silent | .faulted => refuse .state s := by
  simp only [releaseRequest, List.length_cons, List.length_nil, ne_eq, not_true_eq_false, if_false, padOf_byte1] <;> rfl

/-- RELEASE of a session with power, as the statement has it. -/
theorem release_powered {tag : Byte} {rest : List RxFrame} (ht : s.takesNext 0x02 tag [byte1 p.val] rest)
    (howner : releaseRequest [byte1 p.val] (s.taking rest) =
      accept ((decrease p 0 (s.taking rest)).updPad p fun q => q.dropDispatch.setState .releasing) []) :
    ∃ t : State, exec (.release tag [byte1 p.val]) s = .next t
      ∧ t.pads[p] =
        { s.pads[p].lower 0 with
          state := .releasing, stayed := false, dispatch := none, delivered := 0, remaining := 0 }
      ∧ t.pads[p].grant = 0 ∧ t.pads[p].sent = 0 ∧ t.pads[p].caps = s.pads[p].caps
      ∧ (0 < s.pads[p].sent → t.pads[p].decPending = true)
      ∧ (∀ q : PadId, q ≠ p → t.pads[q] = s.pads[q])
      ∧ (∀ l : LineId, t.lines[l] = { s.lines[l] with urgent := urgentAfter s p 0 l })
      ∧ t.fleet = (s.replied rest tag [0x02, 0x00]).fleet
      ∧ t.tables = s.tables ∧ t.alloc = s.alloc ∧ t.groups = s.groups ∧ t.mode = s.mode
      ∧ t.time = s.time ∧ t.notices = s.notices := by
  have hexec := exec_next (c := .release tag [byte1 p.val]) (f := ⟨0x02, tag, _⟩) rfl ht
  simp only [ownerOf, howner, delivered_accept] at hexec
  have hpad (q : PadId) :
      ((decrease p 0 (s.taking rest)).updPad p fun q => q.dropDispatch.setState .releasing).pads[q.val] =
        if p = q then
          { (s.pads[q.val]).lower 0 with
            state := .releasing, stayed := false, dispatch := none, delivered := 0, remaining := 0 }
        else s.pads[q.val] := by
    rw [State.updPad_get, decrease_get]
    split
    · simp [Pad.dropDispatch, Pad.setState, SessionState.served]
    · rfl
  have hself := hpad p
  rw [if_pos rfl] at hself
  refine ⟨_, hexec, by simp [hself], by simp [hself], by simp [hself, Pad.lower_sent], by simp [hself, Pad.lower_eq],
    fun hsent => ?_, fun q hq => by simp [hpad, Ne.symm hq], fun l => ?_, by simp [respond, State.replied, kindResponse, ResultCode.byte],
    by simp, by simp, by simp, by simp, by simp, by simp⟩
  · simp only [Fin.getElem_fin] at hsent
    simp [hself, Pad.lower_eq, hsent]
  · have hline := decrease_line p 0 (s.taking rest) l
    rw [show (decrease p 0 (s.taking rest)).lines[l.val].urgent = urgentAfter s p 0 l from
      urgentAfter_eq (s := s.taking rest) 0 l] at hline
    simpa using hline

/-- Outside PROBING the normal poll of a pad is a POLL (R136). -/
theorem normalTurn_poll {l : LineId} {c : LineCtl} {x : Turn} (h : normalTurn s l c = some x) (hp : x.pad = some p)
    (hstate : s.pads[p].state ≠ .probing) : x.request = .poll := by
  unfold normalTurn at h
  split at h
  · simp at h
  · simp only [Option.map_eq_some_iff] at h
    obtain ⟨q, -, rfl⟩ := h
    obtain rfl : q = p := by simpa using hp
    exact if_neg hstate

/-- Settles O10: the owner's equation, state by state. -/
theorem releaseActsByState : Obligations.ReleaseActsByState := by
  intro tag body rest s ht
  refine ⟨fun hlength => ?_, fun b hbody hb => ?_, fun p hbody => ?_⟩
  · rw [exec_next (f := ⟨0x02, tag, _⟩) rfl ht]
    simp only [ownerOf, releaseRequest, if_pos hlength, delivered_refused]
    rfl
  · subst hbody
    rw [exec_next (f := ⟨0x02, tag, _⟩) rfl ht]
    simp only [ownerOf, releaseRequest, List.length_cons, List.length_nil, ne_eq, not_true_eq_false, if_false,
      padOf_of_above (body := [b]) hb, delivered_refused]
    rfl
  · subst hbody
    have howner := releaseRequest_byte1 (s := s.taking rest) (p := p)
    have hexec := exec_next (c := .release tag [byte1 p.val]) (f := ⟨0x02, tag, _⟩) rfl ht
    simp only [ownerOf] at hexec
    have hpads : (s.taking rest).pads[p] = s.pads[p] := rfl
    rw [hpads] at howner
    cases hstate : s.pads[p].state with
    | waiting | charging | complete =>
      rw [hstate] at howner
      exact release_powered ht howner
    | probing =>
      rw [hstate] at howner
      rw [howner, delivered_accept, respond_updPad] at hexec
      refine ⟨hexec.trans ?_, fun u l x hu hx hp => normalTurn_poll hx hp (by rw [hu]; simp)⟩
      simp only [Pad.setState, Pad.clearFigures, Pad.dropDispatch, SessionState.served, Bool.and_false]
      rfl
    | empty | disabled | releasing | silent | faulted =>
      rw [hstate] at howner
      rw [howner] at hexec
      exact hexec

/-! ## PAD_LIMIT (R47) -/

theorem padLimitRequest_byte1 (m lh ll : Byte) : padLimitRequest [byte1 p.val, m, lh, ll] s =
    if m.toNat = 0 then accept (s.updPad p fun q => { q with limit := none }) (limitBytes none)
    else if m.toNat ≠ 1 ∨ 400 < be16 lh ll then refuse .range s
    else
      let clamped : Bool := (s.padRec p).enabled && decide ((s.padRec p).ceiling < be16 lh ll)
      let l := if clamped then (s.padRec p).ceiling else be16 lh ll
      acceptClamped clamped (s.updPad p fun q => { q with limit := some l }) (limitBytes (some l)) := by
  simp only [padLimitRequest, List.length_cons, List.length_nil, ne_eq, not_true_eq_false, if_false, padOf_byte1]
  rfl

/-- PAD_LIMIT with the mark SET and a figure up to 400. -/
theorem padLimitRequest_set {lh ll : Byte} (h : be16 lh ll ≤ 400) (clamped : Bool)
    (hclamped : clamped = ((s.padRec p).enabled && decide ((s.padRec p).ceiling < be16 lh ll))) :
    padLimitRequest [byte1 p.val, 1, lh, ll] s =
      acceptClamped clamped
        (s.updPad p fun q => { q with limit := some (if clamped then (s.padRec p).ceiling else be16 lh ll) })
        (limitBytes (some (if clamped then (s.padRec p).ceiling else be16 lh ll))) := by
  rw [padLimitRequest_byte1, if_neg (by decide), if_neg (by simpa using h), hclamped]

/-- Settles O11: the mark's three readings, and the pad ceiling. -/
theorem padLimitSetsAndClears : Obligations.PadLimitSetsAndClears := by
  intro p tag m lh ll rest s ht
  have hexec := exec_next (c := .padLimit tag [byte1 p.val, m, lh, ll]) (f := ⟨0x03, tag, _⟩) rfl ht
  simp only [ownerOf] at hexec
  refine ⟨fun hm => ?_, fun hm hfigure henabled hceiling => ?_, fun hm hfigure hfits => ?_, fun hbad => ?_⟩
  · subst hm
    rw [hexec, padLimitRequest_byte1, if_pos (by decide)]
    rfl
  · subst hm
    rw [hexec, padLimitRequest_set (s := s.taking rest) hfigure true (by simp [henabled, hceiling])]
    rfl
  · subst hm
    rw [hexec, padLimitRequest_set (s := s.taking rest) hfigure false ?_]
    · simp only [Bool.false_eq_true, if_false, delivered_acceptClamped, limitBytes, optBytes, bytes2_be16]
      rfl
    · rcases hfits with h | h
      · simp [h]
      · simp [Nat.not_lt.mpr h]
  · have hzero : ¬ m.toNat = 0 := by
      rcases hbad with ⟨h, -⟩ | ⟨rfl, -⟩
      · exact fun h0 => h (BitVec.eq_of_toNat_eq h0)
      · decide
    have hrange : m.toNat ≠ 1 ∨ 400 < be16 lh ll := by
      rcases hbad with ⟨-, h⟩ | ⟨-, h⟩
      · exact .inl fun h1 => h (BitVec.eq_of_toNat_eq h1)
      · exact .inr h
    rw [hexec, padLimitRequest_byte1, if_neg hzero, if_pos hrange, delivered_refused]
    rfl

/-! ## CLEAR_PAD (R54) -/

theorem clearPadRequest_faulted (h : s.pads[p].state = .faulted) : clearPadRequest [byte1 p.val] s =
    accept (s.updPad p Pad.cleared) [s.pads[p].cleared.state.code] := by
  simp only [Fin.getElem_fin] at h
  simp [clearPadRequest, h]

theorem clearPadRequest_other (h : s.pads[p].state ≠ .faulted) :
    clearPadRequest [byte1 p.val] s = refuse .state s := by
  simp only [Fin.getElem_fin] at h
  simp [clearPadRequest, h]

/-- CLEAR_PAD of a FAULTED session, as the statement has it. -/
theorem clearPad_next {tag : Byte} {rest : List RxFrame} {q : Pad} (ht : s.takesNext 0x04 tag [byte1 p.val] rest)
    (h : s.pads[p].state = .faulted) (hq : s.pads[p].cleared = q) : exec (.clearPad tag [byte1 p.val]) s =
      .next (driveOutputs ((s.replied rest tag [0x04, 0x00, q.state.code]).withPads (s.pads.set p q))) := by
  rw [exec_next (f := ⟨0x04, tag, _⟩) rfl ht]
  simp only [ownerOf]
  rw [clearPadRequest_faulted (s := s.taking rest) h, delivered_accept, respond_updPad, hq]
  simp only [taking_pads, hq]
  rfl

/-- Settles O12: what CLEAR_PAD makes of the session, by its latest report. -/
theorem clearPadLeavesFaulted : Obligations.ClearPadLeavesFaulted := by
  intro p tag rest s ht
  refine ⟨fun h => ?_, fun r h hr hpresent hdocking => ?_, fun r h hr hpresent hdocking => ?_, fun h habsent => ?_⟩
  · rw [exec_next (f := ⟨0x04, tag, _⟩) rfl ht]
    simp only [ownerOf]
    rw [clearPadRequest_other (s := s.taking rest) h, delivered_refused]
    rfl
  · exact clearPad_next ht h (Pad.cleared_of_present hr hpresent hdocking)
  · exact clearPad_next ht h (Pad.cleared_of_swapped hr hpresent hdocking)
  · exact clearPad_next ht h (Pad.cleared_of_absent habsent)

/-! ## HEADROOM (R94) -/

/-- A group whose headroom a HEADROOM stores (R94). -/
def Group.withHeadroom (n : Nat) (x : Group) : Group := { x with headroom := n, age := 0, hstate := .fresh }

/-- A FRESH group's effective capacity (R91). -/
theorem capacityOf_withHeadroom {r : FeederRec} (h : r.enabled = true) (n : Nat) (x : Group) :
    capacityOf r (x.withHeadroom n) = n - if x.shedActive then r.shed else 0 := by
  simp only [capacityOf, h, if_true, Group.withHeadroom, Group.shedActive]
  rfl

theorem headroomRequest_range {b hh hl : Byte} (h : 7 < b.toNat) : headroomRequest [b, hh, hl] s = refuse .range s := by
  simp [headroomRequest, groupOf_of_above (body := [b, hh, hl]) h]

variable {g : GroupId} {hh hl : Byte}

theorem headroomRequest_noTables (h : s.tables.allLoaded = false) :
    headroomRequest [byte1 g.val, hh, hl] s = refuse .noTables s := by
  simp [headroomRequest, h]

theorem headroomRequest_disabled (h : s.tables.allLoaded = true) (hdisabled : (s.feederRec g).enabled = false) :
    headroomRequest [byte1 g.val, hh, hl] s = refuse .state s := by
  simp [headroomRequest, h, hdisabled]

/-- HEADROOM taken: the lesser of the figure and the rated capacity is stored, and the capacity recomputed (R94). -/
theorem headroomRequest_taken (h : s.tables.allLoaded = true) (henabled : (s.feederRec g).enabled = true) {n : Nat}
    (hn : n = min (be16 hh hl) (s.feederRec g).rated) :
    headroomRequest [byte1 g.val, hh, hl] s =
      acceptClamped (decide (n < be16 hh hl)) (recompute g (s.updGroup g (Group.withHeadroom n)))
        (bytes2 n ++ bytes2 (recompute g (s.updGroup g (Group.withHeadroom n))).groups[g].capacity) := by
  subst hn
  simp only [headroomRequest, List.length_cons, List.length_nil, ne_eq, not_true_eq_false, if_false, groupOf_byte1, h,
    henabled, Bool.true_eq_false]
  rfl

/-- A recomputed capacity that does not fall makes no check (R92). -/
theorem recompute_of_le (h : s.groups[g].capacity ≤ capacityOf (s.feederRec g) s.groups[g]) :
    recompute g s = storeCapacity g s :=
  if_neg (Nat.not_lt.mpr h)

/-- A HEADROOM that does not lower the capacity changes its group's record alone (R94). -/
theorem recompute_withHeadroom {n : Nat} {x : Group} (henabled : (s.feederRec g).enabled = true)
    (hx : x = { s.groups[g] with
      headroom := n, age := 0, hstate := .fresh
      capacity := n - (if s.groups[g].shedActive then (s.feederRec g).shed else 0) })
    (hle : s.groups[g].capacity ≤ x.capacity) :
    recompute g (s.updGroup g (Group.withHeadroom n)) = s.withGroups (s.groups.set g x) := by
  have hgroup : (s.updGroup g (Group.withHeadroom n)).groups[g] = (s.groups[g]).withHeadroom n :=
    State.updGroup_same _ g _
  have hcapacity : capacityOf (s.feederRec g) ((s.groups[g]).withHeadroom n) = x.capacity := by
    rw [capacityOf_withHeadroom henabled, hx]
  rw [recompute_of_le]
  · have hstored : { (s.groups[g]).withHeadroom n with
        capacity := capacityOf (s.feederRec g) ((s.groups[g]).withHeadroom n) } = x := by
      rw [hcapacity, hx]
      rfl
    simp only [Fin.getElem_fin] at hstored
    simp only [storeCapacity, State.updGroup, State.withGroups, Fin.getElem_fin, Vector.getElem_set_self, Vector.set_set]
    rw [← hstored]
    rfl
  · rw [hgroup]
    exact hle.trans_eq hcapacity.symm

/-- A byte that carries a group's number, read back. -/
theorem eq_byte1_of_group {b : Byte} (h : b.toNat ≤ 7) : ∃ g : GroupId, b = byte1 g.val :=
  ⟨⟨b.toNat, by omega⟩, by simp [byte1]⟩

/-- Settles O14: the owner's equations, and a capacity that does not fall. -/
theorem headroomRaisesCapacity : Obligations.HeadroomRaisesCapacity := by
  refine ⟨fun g tag hh hl rest s x ht hloaded henabled hx hle => ?_, fun tag b hh hl rest s ht =>
    ⟨fun hb => ?_, fun hb hloaded => ?_, fun g hb hloaded hdisabled => ?_⟩⟩
  · have hexec := exec_next (c := .headroom tag [byte1 g.val, hh, hl]) (f := ⟨0x08, tag, _⟩) rfl ht
    simp only [ownerOf] at hexec
    rw [headroomRequest_taken (s := s.taking rest) hloaded henabled rfl] at hexec
    have hheadroom : min (be16 hh hl) (s.feederRec g).rated = x.headroom := by rw [hx]
    rw [taking_feederRec, recompute_withHeadroom (s := s.taking rest) henabled hx hle] at hexec
    have hclamped : decide (min (be16 hh hl) (s.feederRec g).rated < be16 hh hl) =
        decide ((s.feederRec g).rated < be16 hh hl) := by
      congr 1
      exact propext (by omega)
    rw [hexec, delivered_acceptClamped, hclamped, hheadroom]
    simp only [State.withGroups_groups, Fin.getElem_fin, Vector.getElem_set_self]
    by_cases hlow : (s.feederRec g).rated < be16 hh hl
    · rw [if_pos hlow, decide_eq_true hlow]
      rfl
    · rw [if_neg hlow, decide_eq_false hlow]
      rfl
  · rw [exec_next (c := .headroom tag [b, hh, hl]) (f := ⟨0x08, tag, _⟩) rfl ht]
    simp only [ownerOf]
    rw [headroomRequest_range hb, delivered_refused]
    rfl
  · obtain ⟨g, rfl⟩ := eq_byte1_of_group hb
    rw [exec_next (c := .headroom tag [byte1 g.val, hh, hl]) (f := ⟨0x08, tag, _⟩) rfl ht]
    simp only [ownerOf]
    rw [headroomRequest_noTables (s := s.taking rest) hloaded, delivered_refused]
    rfl
  · subst hb
    rw [exec_next (c := .headroom tag [byte1 g.val, hh, hl]) (f := ⟨0x08, tag, _⟩) rfl ht]
    simp only [ownerOf]
    rw [headroomRequest_disabled (s := s.taking rest) hloaded hdisabled, delivered_refused]
    rfl

end

end Sys2Proof.Machine

/-! PROOFS. The Table Store's requests (R8 to R11, R16): the load window, the records stored and read, COMMIT and
DISCARD. -/

namespace Sys2Proof.Machine

/-! ## OPEN_WINDOW (R8) -/

@[simp] theorem tableOf_code (t : TableId) : tableOf t.code = some t := by cases t <;> rfl

theorem tableOf_eq_none {b : Byte} (h : 3 < b.toNat) : tableOf b = none := by
  unfold tableOf
  split <;> first | omega | rfl

theorem tableOf_eq_some {b : Byte} {t : TableId} (h : tableOf b = some t) : b = t.code := by
  unfold tableOf at h
  split at h
  next hb => obtain rfl : t = .site := by simpa using h.symm
             exact BitVec.eq_of_toNat_eq hb
  next hb => obtain rfl : t = .feeder := by simpa using h.symm
             exact BitVec.eq_of_toNat_eq hb
  next hb => obtain rfl : t = .pad := by simpa using h.symm
             exact BitVec.eq_of_toNat_eq hb
  next hb => obtain rfl : t = .line := by simpa using h.symm
             exact BitVec.eq_of_toNat_eq hb
  · simp at h

section
variable {s : State} {t0 a z b0 : Byte}

theorem openWindow_taken {t : TableId} {b : ReadBank} (hle : a.toNat ≤ z.toNat) (hlt : z.toNat < t.records) :
    openWindow [t.code, a, z, b.code] s = accept (s.withTables
      { s.tables with
        window := some { table := t, first := a.toNat, last := z.toNat, cursor := a.toNat, bank := b } }) [] := by
  cases b <;> simp [openWindow, ReadBank.code, hle, hlt]

theorem openWindow_refused (h : 3 < t0.toNat ∨ 1 < b0.toNat ∨ z.toNat < a.toNat
    ∨ ∃ t : TableId, t0 = t.code ∧ t.records ≤ z.toNat) : openWindow [t0, a, z, b0] s = refuse .range s := by
  simp only [openWindow, List.length_cons, List.length_nil, ne_eq, not_true_eq_false, if_false, byteAt_cons_zero,
    byteAt_cons_succ]
  split
  next t b ht hb =>
    refine if_neg fun ⟨hle, hlt⟩ => ?_
    have hcode := tableOf_eq_some ht
    rcases h with h | h | h | ⟨u, hu, hrecords⟩
    · simp [tableOf_eq_none h] at ht
    · split at hb
      · omega
      · omega
      · simp at hb
    · omega
    · rw [hu, tableOf_code] at ht
      injection ht with ht
      subst ht
      omega
  · rfl

end

/-- Settles O18. -/
theorem openWindowReplacesTheWindow : Obligations.OpenWindowReplacesTheWindow := by
  intro tag t0 a z b0 rest s ht
  have hexec := exec_next (c := .openWindow tag [t0, a, z, b0]) (f := ⟨0x10, tag, _⟩) rfl ht
  simp only [ownerOf] at hexec
  refine ⟨fun t b ht0 hb0 hle hlt => ?_, fun h => ?_⟩
  · subst ht0 hb0
    rw [hexec, openWindow_taken hle hlt]
    rfl
  · rw [hexec, openWindow_refused h, delivered_refused]
    rfl

/-! ## Records stored (R9) -/

theorem recordOf_toList {n : Nat} {bytes : List Byte} (h : bytes.length = n) : (recordOf n bytes).toList = bytes := by
  apply List.ext_getElem
  · simp [h]
  · intro i hi hi'
    simp [recordOf, byteAt, List.getD_eq_getElem?_getD, List.getElem?_eq_getElem hi']

section
variable (b : Bank) (t : TableId) (i : Nat) (bytes : List Byte)

theorem Bank.record_store_same (hlength : bytes.length = t.size) (hi : i < t.records) :
    (b.store t i bytes).record t i = bytes := by
  cases t with
  | site =>
    obtain rfl : i = 0 := by simp [TableId.records] at hi; omega
    exact recordOf_toList (n := 32) hlength
  | feeder | pad | line =>
    simp only [TableId.records] at hi
    simp only [Bank.store, Bank.record, hi, dite_true, Vector.getElem_set_self]
    exact recordOf_toList hlength

theorem Bank.record_store_other (x : TableId) (j : Nat) (h : x ≠ t ∨ j ≠ i) :
    (b.store t i bytes).record x j = b.record x j := by
  cases t with
  | site =>
    simp only [Bank.store]
    split
    next hi =>
      cases x with
      | site => simp only [Bank.record]; rw [if_neg, if_neg] <;> simpa [hi] using h
      | _ => rfl
    · rfl
  | feeder | pad | line =>
    simp only [Bank.store]
    split
    next hi =>
      cases x <;> first | rfl | skip
      simp only [Bank.record]
      split
      next hj =>
        rw [Vector.getElem_set_ne]
        rintro rfl
        simp at h
      · rfl
    · rfl

end

theorem cutRecords_flatten {n : Nat} {rs : List (List Byte)} (h : ∀ r : List Byte, r ∈ rs → r.length = n) :
    cutRecords n rs.length rs.flatten = rs := by
  induction rs with
  | nil => rfl
  | cons r rs ih =>
    have hr := h r (List.mem_cons_self ..)
    have hrs := ih fun x hx => h x (List.mem_cons_of_mem _ hx)
    simp only [List.length_cons, List.flatten_cons, cutRecords]
    rw [List.take_left' hr, List.drop_left' hr, hrs]

theorem flatten_length {n : Nat} {rs : List (List Byte)} (h : ∀ r : List Byte, r ∈ rs → r.length = n) :
    rs.flatten.length = rs.length * n := by
  rw [List.length_flatten, List.map_congr_left h]
  simp

section
variable {s : State} {w : Window} {tag : Byte} {rest : List RxFrame}

theorem TableId.size_pos (t : TableId) : 0 < t.size := by cases t <;> decide

/-- WRITE_RECORDS of 1 to 16 whole records (R9). -/
theorem writeRecords_taken {rs : List (List Byte)} (hw : s.tables.window = some w) (hcommit : s.tables.commit ≠ .pending)
    (hsize : ∀ r : List Byte, r ∈ rs → r.length = w.table.size) (hone : 1 ≤ rs.length) (hmany : rs.length ≤ 16) :
    writeRecords rs.flatten s =
      accept (s.withTables
        { s.tables with
          shadow := (storeAll rs (s.tables.shadow, w)).1, window := some (storeAll rs (s.tables.shadow, w)).2 })
        [byte1 rs.length, byte1 (storeAll rs (s.tables.shadow, w)).2.cursor] := by
  have hlength := flatten_length hsize
  have hpos := w.table.size_pos
  have hcount : rs.flatten.length / w.table.size = rs.length := by rw [hlength, Nat.mul_div_cancel _ hpos]
  have hallowed : ¬ (rs.flatten = [] ∨ rs.flatten.length % w.table.size ≠ 0
      ∨ Config.writeLimit < rs.flatten.length / w.table.size) := by
    rw [hcount, hlength, Nat.mul_mod_left]
    rintro (h | h | h)
    · rw [h, List.length_nil] at hlength
      have := Nat.mul_pos hone hpos
      omega
    · exact h rfl
    · simp only [Config.writeLimit] at h
      omega
  simp only [writeRecords, hw]
  rw [if_neg hcommit, if_neg hallowed, hcount, cutRecords_flatten hsize]

theorem storeAll_singleton (r : List Byte) (b : Bank) (w : Window) :
    storeAll [r] (b, w) = (b.store w.table w.cursor r, w.advance) := rfl

/-- Settles O19: one record, then record by record. -/
theorem writeStoresAtTheCursor : Obligations.WriteStoresAtTheCursor := by
  have hmany {tag : Byte} {rs : List (List Byte)} {rest : List RxFrame} {s : State} {w : Window}
      (ht : s.takesNext 0x11 tag rs.flatten rest) (hw : s.tables.window = some w) (hcommit : s.tables.commit ≠ .pending)
      (hsize : ∀ r : List Byte, r ∈ rs → r.length = w.table.size) (hone : 1 ≤ rs.length) (hlimit : rs.length ≤ 16) :
      exec (.writeRecords tag rs.flatten) s = .next (driveOutputs ((s.replied rest tag
        [0x11, 0x00, byte1 rs.length, byte1 (storeAll rs (s.tables.shadow, w)).2.cursor]).withTables
          { s.tables with
            shadow := (storeAll rs (s.tables.shadow, w)).1
            window := some (storeAll rs (s.tables.shadow, w)).2 })) := by
    rw [exec_next (c := .writeRecords tag rs.flatten) (f := ⟨0x11, tag, _⟩) rfl ht]
    simp only [ownerOf]
    rw [writeRecords_taken (s := s.taking rest) hw hcommit hsize hone hlimit]
    rfl
  refine ⟨fun tag body rest s w next ht hw hcommit hlength hcursor hnext => ?_,
    fun tag rs rest s w ht hw hcommit hsize hone hlimit =>
      ⟨_, hmany ht hw hcommit hsize hone hlimit, rfl, rfl, rfl, rfl, rfl, rfl, rfl, rfl, rfl⟩,
    fun r b w hlength hcursor => ⟨Bank.record_store_same b _ _ r hlength hcursor,
      fun x i h => Bank.record_store_other b _ _ r x i h⟩,
    fun r rs b w => ⟨rfl, rfl, rfl⟩, fun tag body rest s ht => ⟨fun hw => ?_, fun w hw hcommit => ?_⟩⟩
  · have hflatten : [body].flatten = body := by simp
    have hexec := hmany (rs := [body]) (hflatten.symm ▸ ht) hw hcommit (by simpa using hlength) le_rfl (by simp)
    have hadvance : w.advance = { w with cursor := next } := by rw [hnext]; rfl
    rw [hflatten, storeAll_singleton, hadvance] at hexec
    exact ⟨_, hexec, rfl, rfl, Bank.record_store_same _ _ _ body hlength hcursor,
      fun x i h => Bank.record_store_other _ _ _ body x i h, rfl, rfl, rfl, rfl, rfl, rfl, rfl⟩
  · rw [exec_next (c := .writeRecords tag body) (f := ⟨0x11, tag, _⟩) rfl ht]
    simp only [ownerOf, writeRecords, taking_tables, hw, delivered_refused]
    rfl
  · rw [exec_next (c := .writeRecords tag body) (f := ⟨0x11, tag, _⟩) rfl ht]
    simp only [ownerOf, writeRecords, taking_tables, hw, hcommit, if_true, delivered_refused]
    rfl

/-! ## Records read (R10) -/

/-- The records from the cursor onward, the cursor's places given one by one. -/
theorem readAll_eq (b : Bank) (k : Nat) (w : Window) (cur : Nat → Nat) (hzero : cur 0 = w.cursor)
    (hsucc : ∀ i : Nat, cur (i + 1) = if cur i = w.last then w.first else cur i + 1) :
    readAll b k w = ((List.range k).flatMap fun i => b.record w.table (cur i), { w with cursor := cur k }) := by
  induction k generalizing w cur with
  | zero => simp [readAll, hzero]
  | succ k ih =>
    have hnext : cur 1 = w.advance.cursor := by rw [hsucc, hzero]; rfl
    have hrest := ih w.advance (fun i => cur (i + 1)) hnext fun i => hsucc (i + 1)
    simp only [readAll, hrest, List.range_succ_eq_map, List.flatMap_cons, List.flatMap_map, hzero]
    rfl

theorem readRecords_taken {k : Byte} (hw : s.tables.window = some w) (hpos : k ≠ 0) (hlimit : k.toNat ≤ w.table.readLimit)
    (cur : Nat → Nat) (hzero : cur 0 = w.cursor)
    (hsucc : ∀ i : Nat, cur (i + 1) = if cur i = w.last then w.first else cur i + 1) :
    readRecords [k] s =
      accept (s.withTables { s.tables with window := some { w with cursor := cur k.toNat } })
        (byte1 w.cursor :: k :: (List.range k.toNat).flatMap fun i =>
          (if w.bank = .shadow then s.tables.shadow else s.tables.active).record w.table (cur i)) := by
  have hcount : ¬ (k.toNat = 0 ∨ w.table.readLimit < k.toNat) := by
    rintro (h | h)
    · exact hpos (BitVec.eq_of_toNat_eq h)
    · omega
  have hbyte : byte1 k.toNat = k := by simp [byte1]
  unfold readRecords
  rw [hw]
  refine (if_neg (by simp)).trans ((if_neg hcount).trans ?_)
  dsimp only [byteAt_cons_zero]
  rw [hbyte, readAll_eq _ _ w cur hzero hsucc]
  obtain ⟨table, first, last, cursor, bank⟩ := w
  cases bank <;> rfl

/-- The cursor's places one after another, from the last record of the window to its first (R8). -/
def Window.places (w : Window) (i : Nat) : Nat := (fun c => if c = w.last then w.first else c + 1)^[i] w.cursor

theorem Window.places_succ (w : Window) (i : Nat) :
    w.places (i + 1) = if w.places i = w.last then w.first else w.places i + 1 :=
  Function.iterate_succ_apply' _ i w.cursor

theorem readRecords_refused {k : Byte} (hw : s.tables.window = some w) (h : k = 0 ∨ w.table.readLimit < k.toNat) :
    readRecords [k] s = refuse .range s := by
  unfold readRecords
  rw [hw]
  refine (if_neg (by simp)).trans (if_pos ?_)
  rcases h with rfl | h
  · exact .inl rfl
  · exact .inr h

end

/-- Settles O20. -/
theorem readReturnsTheRecordAtTheCursor : Obligations.ReadReturnsTheRecordAtTheCursor := by
  intro tag k rest s ht
  have hexec := exec_next (c := .readRecords tag [k]) (f := ⟨0x12, tag, _⟩) rfl ht
  simp only [ownerOf] at hexec
  refine ⟨fun hw => ?_, fun w hw => ⟨fun h => ?_, fun h => ?_, fun cur hzero hsucc hpos hlimit => ?_⟩⟩
  · rw [hexec]
    simp only [readRecords, taking_tables, hw, delivered_refused]
    rfl
  · rw [hexec, readRecords_refused (s := s.taking rest) hw h, delivered_refused]
    rfl
  · subst h
    rw [hexec, readRecords_taken (s := s.taking rest) hw (by decide) (by cases w.table <;> decide) w.places rfl
      w.places_succ]
    have hone : w.places (1 : Byte).toNat = if w.cursor = w.last then w.first else w.cursor + 1 := rfl
    have hlist : (List.range (1 : Byte).toNat) = [0] := rfl
    rw [hone, hlist, List.flatMap_singleton]
    rfl
  · rw [hexec, readRecords_taken (s := s.taking rest) hw hpos hlimit cur hzero hsucc]
    rfl

/-! ## COMMIT and DISCARD (R11, R16) -/

theorem commit_busy {s : State} (tag : Byte) {ch cl : Byte} (h : s.tables.commit = .pending) :
    Machine.commit tag [ch, cl] s = refuse .busy s :=
  if_pos h

theorem commit_taken {s : State} (tag : Byte) {ch cl : Byte} (h : s.tables.commit ≠ .pending) :
    Machine.commit tag [ch, cl] s =
      { state := s.withTables { s.tables with commit := .checking (ch ++ cl) tag }, response := none } :=
  if_neg h

theorem discard_busy {s : State} (h : s.tables.commit = .pending) : Machine.discard [] s = refuse .busy s := if_pos h

theorem discard_taken {s : State} (h : s.tables.commit ≠ .pending) :
    Machine.discard [] s = accept (s.withTables { s.tables with shadow := s.tables.active }) [] :=
  if_neg h

/-- Settles O21. -/
theorem commitBeginsAndDiscardRestores : Obligations.CommitBeginsAndDiscardRestores := by
  refine ⟨fun tag ch cl rest s ht => ?_, fun tag rest s ht => ?_⟩
  · rw [exec_next (c := .commit tag [ch, cl]) (f := ⟨0x13, tag, _⟩) rfl ht]
    simp only [ownerOf]
    refine ⟨fun h => ?_, fun h => ?_⟩
    · rw [commit_busy (s := s.taking rest) tag h]
      rfl
    · rw [commit_taken (s := s.taking rest) tag h]
      rfl
  · rw [exec_next (c := .discard tag []) (f := ⟨0x14, tag, _⟩) rfl ht]
    simp only [ownerOf]
    refine ⟨fun h => ?_, fun h => ?_⟩
    · rw [discard_busy (s := s.taking rest) h]
      rfl
    · rw [discard_taken (s := s.taking rest) h]
      rfl

end Sys2Proof.Machine

/-! PROOFS. Figures of a group, and requests that read or set without moving power: the effective capacity (R91), the
resolution (R175), captures and notice sets (R183, R187, R188) and the four reads (R161 to R167). -/

namespace Sys2Proof.Machine

/-! ## The effective capacity (R91) -/

theorem capacityOf_enabled {r : FeederRec} (h : r.enabled = true) (x : Group) : capacityOf r x =
    (if x.hstate = .fresh then x.headroom else r.rated - r.fallback) - (if x.shedActive then r.shed else 0) := by
  simp [capacityOf, h]

theorem shedActive_iff (x : Group) : x.shedActive = true ↔ x.vstate = .shed ∨ x.shedInput = true := by
  simp [Group.shedActive]

/-- Settles O13. -/
theorem effectiveCapacityTable : Obligations.EffectiveCapacityTable := by
  intro r x
  have hstate (h : x.hstate = .none ∨ x.hstate = .stale) : x.hstate ≠ .fresh := by
    rcases h with h | h <;> simp [h]
  refine ⟨fun h => by simp [capacityOf, h], fun h hf hs => by simp [capacityOf_enabled h, hf, hs],
    fun h hf hs => ?_, fun h hn hs hle => ?_, fun h hn hs hle => ?_, fun hle => ?_, shedActive_iff x⟩
  · rw [capacityOf_enabled h, if_pos hf, if_pos hs]
    omega
  · rw [capacityOf_enabled h, if_neg (hstate hn), hs]
    simp only [Bool.false_eq_true, if_false]
    omega
  · rw [capacityOf_enabled h, if_neg (hstate hn), if_pos hs]
    omega
  · cases h : r.enabled with
    | false => simp [capacityOf, h]
    | true =>
      rw [capacityOf_enabled h]
      split
      next hf => have := hle hf; omega
      next => omega

/-! ## SET_MODE FINE and STEPPED (R175) -/

theorem setModeRequest_fine (x y : Byte) (s : State) : setModeRequest [2, x, y] s = setResolution .fine s := rfl

theorem setModeRequest_stepped (x y : Byte) (s : State) : setModeRequest [3, x, y] s = setResolution .stepped s := rfl

/-- Settles O37. -/
theorem resolutionIsStored : Obligations.ResolutionIsStored := by
  refine fun tag x y rest s => ⟨fun ht => ?_, fun ht => ?_⟩
  · rw [exec_next (c := .setModeFine tag [2, x, y]) (f := ⟨0x18, tag, _⟩) rfl ht]
    simp only [ownerOf, setModeRequest_fine]
    rfl
  · rw [exec_next (c := .setModeStepped tag [3, x, y]) (f := ⟨0x18, tag, _⟩) rfl ht]
    simp only [ownerOf, setModeRequest_stepped]
    rfl

/-! ## READ_CAPTURE, ACK_NOTICES and SET_NOTICE_MASK (R183, R187, R188) -/

theorem readCaptureRequest_empty {s : State} (h : s.notices.captures = []) : readCaptureRequest [] s =
    accept (s.withNotices { s.notices with captures := [], overflow := false, overflowCount := 0 })
      ([0, 0] ++ [flagByte s.notices.overflow, byte1 s.notices.overflowCount] ++ List.replicate 10 0) := by
  simp [readCaptureRequest, h]

theorem readCaptureRequest_entry {s : State} {e : CaptureEntry} {es : List CaptureEntry}
    (h : s.notices.captures = e :: es) : readCaptureRequest [] s =
      accept (s.withNotices { s.notices with captures := es, overflow := false, overflowCount := 0 })
        ([1, byte1 es.length] ++ [flagByte s.notices.overflow, byte1 s.notices.overflowCount] ++ captureBytes e) := by
  simp [readCaptureRequest, h]

theorem noticeSetOf_below {sh sl : Byte} (h : be16 sh sl < 2048) : noticeSetOf [sh, sl] = some (BitVec.ofNat 11 (be16 sh sl)) :=
  if_pos h

theorem noticeSetOf_above {sh sl : Byte} (h : 2048 ≤ be16 sh sl) : noticeSetOf [sh, sl] = none :=
  if_neg (Nat.not_lt.mpr h)

theorem ackNoticesRequest_named {sh sl : Byte} (h : be16 sh sl < 2048) (s : State) : ackNoticesRequest [sh, sl] s =
    accept (withdrawNotice (s.withNotices
        { s.notices with pendingSet := s.notices.pendingSet &&& ~~~BitVec.ofNat 11 (be16 sh sl) }))
      (noticeBytes (s.notices.pendingSet &&& ~~~BitVec.ofNat 11 (be16 sh sl)) ++ noticeBytes s.notices.mask) := by
  simp [ackNoticesRequest, noticeSetOf_below h]

theorem ackNoticesRequest_range {sh sl : Byte} (h : 2048 ≤ be16 sh sl) (s : State) :
    ackNoticesRequest [sh, sl] s = refuse .range s := by
  simp [ackNoticesRequest, noticeSetOf_above h]

theorem setNoticeMaskRequest_range {sh sl : Byte} (h : 2048 ≤ be16 sh sl) (s : State) :
    setNoticeMaskRequest [sh, sl] s = refuse .range s := by
  simp [setNoticeMaskRequest, noticeSetOf_above h]

theorem withdrawNotice_eq (s : State) : withdrawNotice s = s.withFleet
    { s.fleet with tx := if s.notices.unmasked = 0 then s.fleet.tx.filter fun x => !x.isNotice else s.fleet.tx } := by
  unfold withdrawNotice
  split <;> rfl

/-- The state in which a mask's change has called for a NOTICE where a kind newly unmasked is pending (R188). -/
def State.masked (s : State) (set : BitVec 11) : State :=
  if s.notices.mask &&& ~~~set &&& s.notices.pendingSet = 0 then s.withNotices { s.notices with mask := set }
  else callNotice (s.withNotices { s.notices with mask := set })

/-- The call that a mask's change makes. -/
def State.maskCalls (s : State) (set : BitVec 11) : List TxItem :=
  if s.notices.mask &&& ~~~set &&& s.notices.pendingSet ≠ 0 ∧ s.fleet.noticeWaiting = false then [.notice] else []

theorem masked_eq (s : State) (set : BitVec 11) : s.masked set =
    (s.withNotices { s.notices with mask := set }).withFleet { s.fleet with tx := s.fleet.tx ++ s.maskCalls set } := by
  unfold State.masked State.maskCalls
  by_cases hnew : s.notices.mask &&& ~~~set &&& s.notices.pendingSet = 0
  · rw [if_pos hnew, if_neg fun h => h.1 hnew, List.append_nil]
    rfl
  · rw [if_neg hnew]
    unfold callNotice
    cases hw : s.fleet.noticeWaiting with
    | true =>
      rw [if_pos (by simpa using hw), if_neg (by simp), List.append_nil]
      rfl
    | false =>
      rw [if_neg (by simp [hw]), if_pos ⟨hnew, rfl⟩]
      rfl

/-- No kind is called for where none is left pending outside the new mask. -/
theorem maskCalls_of_none {s : State} {set : BitVec 11} (h : s.notices.pendingSet &&& ~~~set = 0) :
    s.maskCalls set = [] := by
  have hnew : s.notices.mask &&& ~~~set &&& s.notices.pendingSet = 0 := by
    rw [BitVec.and_assoc, BitVec.and_comm _ s.notices.pendingSet, h]
    exact BitVec.and_zero
  exact if_neg fun h => h.1 hnew

/-- The transmit queue of a mask's change: the calls for a NOTICE, then the withdrawal. -/
theorem masked_withdrawn_tx (s : State) (set : BitVec 11) : (withdrawNotice (s.masked set)).fleet.tx =
    (if s.notices.pendingSet &&& ~~~set = 0 then s.fleet.tx.filter fun x => !x.isNotice else s.fleet.tx)
      ++ s.maskCalls set := by
  rw [masked_eq, withdrawNotice_eq]
  change (if s.notices.pendingSet &&& ~~~set = 0 then List.filter (fun x => !x.isNotice) (s.fleet.tx ++ s.maskCalls set)
    else s.fleet.tx ++ s.maskCalls set) = _
  split
  next h => rw [maskCalls_of_none h, List.append_nil, List.append_nil]
  next => rfl

theorem setNoticeMaskRequest_named {sh sl : Byte} (h : be16 sh sl < 2048) (s : State) : setNoticeMaskRequest [sh, sl] s =
    accept (withdrawNotice (s.masked (BitVec.ofNat 11 (be16 sh sl))))
      (noticeBytes (BitVec.ofNat 11 (be16 sh sl)) ++ noticeBytes s.notices.pendingSet) := by
  simp only [setNoticeMaskRequest, noticeSetOf_below h]
  rfl

/-- Settles O42. -/
theorem capturesAndNoticeSets : Obligations.CapturesAndNoticeSets := by
  refine ⟨fun tag rest s ht => ⟨fun hnone => ?_, fun e es hsome => ?_⟩, fun tag sh sl rest s set hset =>
    ⟨fun ht hlt => ?_, fun ht hlt => ?_, fun ht hle => ?_, fun ht hle => ?_⟩⟩
  · rw [exec_next (c := .readCapture tag []) (f := ⟨0x20, tag, _⟩) rfl ht]
    simp only [ownerOf]
    rw [readCaptureRequest_empty (s := s.taking rest) hnone, delivered_accept, hnone.symm]
    rfl
  · rw [exec_next (c := .readCapture tag []) (f := ⟨0x20, tag, _⟩) rfl ht]
    simp only [ownerOf]
    rw [readCaptureRequest_entry (s := s.taking rest) hsome, delivered_accept]
    cases hsource : e.source <;> simp only [captureBytes, hsource] <;> rfl
  · rw [exec_next (c := .ackNotices tag [sh, sl]) (f := ⟨0x21, tag, _⟩) rfl ht]
    simp only [ownerOf]
    rw [ackNoticesRequest_named hlt, delivered_accept, withdrawNotice_eq, ← hset]
    rfl
  · have hexec := exec_next (c := .setNoticeMask tag [sh, sl]) (f := ⟨0x22, tag, _⟩) rfl ht
    simp only [ownerOf] at hexec
    rw [setNoticeMaskRequest_named hlt, delivered_accept, ← hset] at hexec
    refine ⟨_, hexec, by simp [masked_eq], by rw [masked_eq, withdrawNotice_eq]; rfl, ?_, by simp [masked_eq],
      by simp [masked_eq], by simp [masked_eq], by simp [masked_eq], by simp [masked_eq], by simp [masked_eq],
      by simp [masked_eq]⟩
    have htx := masked_withdrawn_tx (s.taking rest) set
    change (withdrawNotice ((s.taking rest).masked set)).fleet.tx ++ _ = _
    rw [htx]
    rfl
  · rw [exec_next (c := .ackNotices tag [sh, sl]) (f := ⟨0x21, tag, _⟩) rfl ht]
    simp only [ownerOf]
    rw [ackNoticesRequest_range hle, delivered_refused]
    rfl
  · rw [exec_next (c := .setNoticeMask tag [sh, sl]) (f := ⟨0x22, tag, _⟩) rfl ht]
    simp only [ownerOf]
    rw [setNoticeMaskRequest_range hle, delivered_refused]
    rfl

end Sys2Proof.Machine

/-! PROOFS. The four reads (R161 to R167): the items of their responses, one after another. -/

namespace Sys2Proof.Machine

/-! ## Items -/

theorem toList_map_flagByte {n : Nat} (v : Vector Bool n) :
    v.toList.map flagByte = (List.finRange n).map fun i => flagByte v[i] := by
  apply List.ext_getElem <;> simp

theorem loaded_flags (v : Vector Bool 4) :
    v.toList.map flagByte = [flagByte v[0], flagByte v[1], flagByte v[2], flagByte v[3]] :=
  toList_map_flagByte v

theorem noticeWaiting_eq (f : Fleet) : f.noticeWaiting = decide (TxItem.notice ∈ f.tx) := by
  rw [Bool.eq_iff_iff, decide_eq_true_eq, Fleet.noticeWaiting, List.any_eq_true]
  constructor
  · rintro ⟨x, hx, hnotice⟩
    cases x with
    | notice => exact hx
    | response f => simp [TxItem.isNotice] at hnotice
  · exact fun h => ⟨_, h, rfl⟩

/-! ## Optional items (R201), each at the type of what it carries -/

theorem heldBytes_eq (n : Nat) (x : Option Scope) :
    heldBytes n x = match x with | none => [0, 0, 0, 0] | some a => 1 :: scopeBytes n a := by
  cases x <;> rfl

theorem optBytes_window (x : Option Window) : optBytes 5 windowBytes x =
    match x with
    | none => [0, 0, 0, 0, 0, 0]
    | some w => [1, w.table.code, byte1 w.first, byte1 w.last, byte1 w.cursor, w.bank.code] := by
  cases x <;> rfl

theorem optBytes_word (x : Option Nat) :
    optBytes 2 bytes2 x = match x with | none => [0, 0, 0] | some n => 1 :: bytes2 n := by
  cases x <;> rfl

theorem optBytes_fault (x : Option Byte) :
    optBytes 1 (fun c => [c]) x = match x with | none => [0, 0] | some c => [1, c] := by
  cases x <;> rfl

theorem reportBody_eq (r : Report) : reportBody r =
    [byte1 (r.present.toNat + 2 * r.closed.toNat + 4 * r.ready.toNat), r.docking] ++ bytes2 r.applied
      ++ bytes2 r.metered ++ bytes2 r.voltage ++ bytes2 r.energy ++ bytes2 r.accept ++ [r.charge] := by
  unfold reportBody
  cases r.present <;> cases r.closed <;> cases r.ready <;> simp

theorem optBytes_report (x : Option Report) : optBytes 13 reportBody x =
    match x with
    | none => 0 :: List.replicate 13 0
    | some r =>
      [1, byte1 (r.present.toNat + 2 * r.closed.toNat + 4 * r.ready.toNat), r.docking] ++ bytes2 r.applied
        ++ bytes2 r.metered ++ bytes2 r.voltage ++ bytes2 r.energy ++ bytes2 r.accept ++ [r.charge] := by
  cases x with
  | none => rfl
  | some r => exact congrArg (1 :: ·) (reportBody_eq r)

/-- The six tier places of a capability record: its tiers, then zeros. -/
theorem tierPlaces (l : List Nat) :
    (l.take 6).flatMap bytes2 ++ List.replicate (2 * (6 - l.length)) (0 : Byte) =
      (List.range 6).flatMap fun k => bytes2 (l.getD k 0) := by
  rcases l with _ | ⟨a, _ | ⟨b, _ | ⟨c, _ | ⟨d, _ | ⟨e, _ | ⟨f, l⟩⟩⟩⟩⟩⟩ <;>
    simp [List.range_succ, bytes2, List.replicate_succ]

theorem optBytes_caps (x : Option Capability) : optBytes 26 capabilityBytes x =
    match x with
    | none => 0 :: List.replicate 26 0
    | some c =>
      [1] ++ bytes2 c.vmax ++ bytes2 c.vmin ++ [byte1 (c.vehicleId.isSome.toNat + 2 * c.battery.isSome.toNat)]
        ++ bytes4 (c.vehicleId.getD 0) ++ bytes2 (c.battery.getD 0) ++ [byte1 c.tiers.length]
        ++ (List.range 6).flatMap (fun k => bytes2 (c.tiers.getD k 0))
        ++ [match c.source with | .vehicle => 0 | .default => 1, flagByte c.tiersIgnored] := by
  cases x with
  | none => rfl
  | some c =>
    have hpresent : (if c.vehicleId.isSome then 1 else 0) + (if c.battery.isSome then 2 else 0) =
        c.vehicleId.isSome.toNat + 2 * c.battery.isSome.toNat := by
      cases c.vehicleId <;> cases c.battery <;> rfl
    simp only [optBytes, capabilityBytes, hpresent, ← tierPlaces, List.append_assoc, List.cons_append,
      List.nil_append] <;> rfl

theorem optBytes_dispatch (now : Ticks) (x : Option Dispatch) : optBytes 13 (dispatchBytes now) x =
    match x with
    | none => 0 :: List.replicate 13 0
    | some d =>
      [1] ++ bytes2 d.target ++ bytes2 d.base ++ bytes4 d.deadline ++ [flagByte d.missed]
        ++ bytes4 (BitVec.ofNat 32 (timeLeft d.deadline now)) := by
  cases x <;> rfl

theorem optBytes_place (p : PadId) (l : List PadId) : optBytes 1 placeBytes (placeIn p l) =
    match l.findIdx? fun q => q == p with | none => [0, 0] | some k => [1, byte1 (k + 1)] := by
  unfold placeIn
  cases l.findIdx? fun q => q == p <;> rfl

theorem optBytes_position (x : Option Nat) :
    optBytes 1 placeBytes x = match x with | none => [0, 0] | some d => [1, byte1 d] := by
  cases x <;> rfl

theorem optBytes_transaction (x : Option Transaction) : optBytes 5 transactionBytes x =
    match x with
    | none => [0, 0, 0, 0, 0, 0]
    | some x =>
      [1, byte1 x.drop] ++ (match x.pad with | none => [1, 0] | some p => [0, byte1 p.val])
        ++ [x.request.code, x.slot.code] := by
  cases x <;> rfl

/-! ## The set of a line's drops -/

theorem foldl_or_testBit (ds : List Nat) (x k : Nat) :
    (ds.foldl (fun x d => x ||| (1 <<< (d - 1))) x).testBit k = true ↔ x.testBit k = true ∨ ∃ d ∈ ds, d - 1 = k := by
  induction ds generalizing x with
  | nil => simp
  | cons d ds ih =>
    rw [List.foldl_cons, ih, Nat.testBit_or, Nat.one_shiftLeft, Nat.testBit_two_pow]
    simp [or_assoc]

theorem mem_members {s : State} {l : LineId} {d : Nat} : d ∈ s.members l ↔
    ∃ p : PadId, (s.padRec p).enabled = true ∧ (s.padRec p).line = l ∧ (s.padRec p).drop = d := by
  simp [State.members, State.onLine, allPads, and_assoc]

/-! ## The reads taken -/

section
variable {tag : Byte} {rest : List RxFrame} {s : State}

theorem readStatus_next (ht : s.takesNext 0x28 tag [] rest) :
    exec (.readStatus tag []) s = .next (driveOutputs
      ((s.replied rest tag (0x28 :: 0x00 :: (statusFirst s ++ statusSecond (s.taking rest)))).spend 4)) := by
  rw [exec_next (c := .readStatus tag []) (f := ⟨0x28, tag, _⟩) rfl ht]
  rfl

theorem readPad_next {p : PadId} (ht : s.takesNext 0x29 tag [byte1 p.val] rest) :
    exec (.readPad tag [byte1 p.val]) s = .next (driveOutputs
      (s.replied rest tag (0x29 :: 0x00 :: (padFirst s p ++ padSecond s p)))) := by
  rw [exec_next (c := .readPad tag [byte1 p.val]) (f := ⟨0x29, tag, _⟩) rfl ht]
  have hrequest (s : State) : readPadRequest [byte1 p.val] s = accept s (padFirst s p ++ padSecond s p) := by
    simp [readPadRequest]
  simp only [ownerOf, hrequest]
  rfl

theorem readFeeder_next {g : GroupId} (ht : s.takesNext 0x2A tag [byte1 g.val] rest) :
    exec (.readFeeder tag [byte1 g.val]) s = .next (driveOutputs
      (s.replied rest tag (0x2A :: 0x00 :: feederBytes s g))) := by
  rw [exec_next (c := .readFeeder tag [byte1 g.val]) (f := ⟨0x2A, tag, _⟩) rfl ht]
  have hrequest (s : State) : readFeederRequest [byte1 g.val] s = accept s (feederBytes s g) := by
    simp [readFeederRequest]
  simp only [ownerOf, hrequest]
  rfl

theorem readLine_next {l : LineId} (ht : s.takesNext 0x2B tag [byte1 l.val] rest) :
    exec (.readLine tag [byte1 l.val]) s = .next (driveOutputs
      (s.replied rest tag (0x2B :: 0x00 :: lineBytes s l))) := by
  rw [exec_next (c := .readLine tag [byte1 l.val]) (f := ⟨0x2B, tag, _⟩) rfl ht]
  have hrequest (s : State) : readLineRequest [byte1 l.val] s = accept s (lineBytes s l) := by
    simp [readLineRequest]
  simp only [ownerOf, hrequest]
  rfl

end

theorem bytes4_eq (x : BitVec 32) : bytes4 x = [BitVec.ofNat 8 (x.toNat / 16777216), BitVec.ofNat 8 (x.toNat / 65536),
    BitVec.ofNat 8 (x.toNat / 256), BitVec.ofNat 8 x.toNat] := by
  simp only [bytes4, List.cons.injEq, and_true]
  refine ⟨?_, ?_, ?_, ?_⟩ <;> apply BitVec.eq_of_toNat_eq <;> simp [Nat.shiftRight_eq_div_pow]

/-- Settles O41. -/
theorem readsReturnTheirData : Obligations.ReadsReturnTheirData := by
  refine ⟨fun tag rest s ht => ?_, fun tag rest s p ht => ?_, fun tag rest s g ht => ?_, fun tag rest s l ht => ?_,
    fun n x b => ⟨rfl, rfl, bytes4_eq x, rfl⟩⟩
  · intro count total scope
    rw [readStatus_next ht]
    refine congrArg (fun d => Host.Outcome.next (driveOutputs ((s.replied rest tag d).spend 4))) ?_
    simp only [statusFirst, statusSecond, taking_signals, taking_fleet, noticeWaiting_eq,
      toList_map_flagByte s.signals.taken, toList_map_flagByte s.signals.latch, toList_map_flagByte s.signals.outputs,
      loaded_flags, heldBytes_eq, optBytes_window, optBytes_word, allStates, List.map_cons, List.map_nil,
      List.append_assoc, List.cons_append, List.nil_append]
    rfl
  · intro place
    rw [readPad_next ht]
    refine congrArg (fun d => Host.Outcome.next (driveOutputs (s.replied rest tag d))) ?_
    simp only [padFirst, padSecond, limitBytes, optBytes_word, optBytes_fault, optBytes_report, optBytes_caps,
      optBytes_dispatch, optBytes_place, List.append_assoc, List.cons_append, List.nil_append]
    rfl
  · intro mine
    rw [readFeeder_next ht]
    refine congrArg (fun d => Host.Outcome.next (driveOutputs (s.replied rest tag d))) ?_
    have hshed (x : Group) : x.shedActive = decide (x.vstate = .shed ∨ x.shedInput = true) := by
      rw [Bool.eq_iff_iff, shedActive_iff, decide_eq_true_eq]
    simp only [feederBytes, optBytes_word, hshed, List.append_assoc, List.cons_append, List.nil_append]
    rfl
  · refine ⟨(s.members l).foldl (fun x d => x ||| (1 <<< (d - 1))) 0, fun k => ?_, ?_⟩
    · simp only [foldl_or_testBit, Nat.zero_testBit, Bool.false_eq_true, false_or, mem_members]
      constructor
      · rintro ⟨_, ⟨p, henabled, hline, rfl⟩, hk⟩
        exact ⟨p, henabled, hline, hk⟩
      · rintro ⟨p, henabled, hline, hk⟩
        exact ⟨_, ⟨p, henabled, hline, rfl⟩, hk⟩
    · rw [readLine_next ht]
      refine congrArg (fun d => Host.Outcome.next (driveOutputs (s.replied rest tag d))) ?_
      simp only [lineBytes, dropSet, listBytes, optBytes_position, optBytes_transaction, List.length_map,
        List.append_assoc, List.cons_append, List.nil_append]
      rfl

end Sys2Proof.Machine

/-! PROOFS. Mode Control's requests (R171 to R177): SET_MODE RESUME, FULL and PARTIAL. -/

namespace Sys2Proof.Machine

/-! ## Levels and marks -/

theorem allLoaded_iff (t : Tables) : t.allLoaded = true ↔ ∀ k : Fin 4, t.loaded[k] = true := by
  simp [Tables.allLoaded, Vector.all_eq_true, Fin.forall_iff]

theorem active_iff (s : State) (i : InputId) : s.active i = true ↔ (s.inputRec i).function ≠ .none
    ∧ ((s.inputRec i).sense.activeLevel = some s.signals.taken[i.val]
      ∨ ((s.inputRec i).sense.activeLevel = none ∧ s.signals.latch[i.val] = true)) := by
  unfold State.active inputActive
  by_cases hf : (s.inputRec i).function = .none
  · simp [hf]
  · cases hl : (s.inputRec i).sense.activeLevel with
    | none => simp [hf]
    | some b =>
      have hcomm : s.signals.taken[i.val] = b ↔ b = s.signals.taken[i.val] := eq_comm
      simp [hf, hcomm]

theorem activeLevel_eq_some {x : Sense} {b : Bool} :
    x.activeLevel = some b ↔ (x = .levelHigh ∧ b = true) ∨ (x = .levelLow ∧ b = false) := by
  cases x <;> cases b <;> decide

theorem isEdge_eq_false {x : Sense} : x.isEdge = false ↔ x.activeLevel ≠ none := by
  cases h : x.activeLevel <;> simp [Sense.isEdge, h]

/-- An input with a level sense stands at its active level (R191, R196). -/
theorem entersLevel_iff (s : State) (i : InputId) : s.entersLevel i = true ↔ (s.inputRec i).function ≠ .none
    ∧ (((s.inputRec i).sense = .levelHigh ∧ s.signals.taken[i] = true)
      ∨ ((s.inputRec i).sense = .levelLow ∧ s.signals.taken[i] = false)) := by
  simp only [State.entersLevel, Bool.and_eq_true, Bool.not_eq_true', isEdge_eq_false, active_iff, Fin.getElem_fin,
    ← activeLevel_eq_some]
  constructor
  · rintro ⟨hlevel, hf, h | ⟨h, -⟩⟩
    · exact ⟨hf, h⟩
    · exact absurd h hlevel
  · rintro ⟨hf, h⟩
    exact ⟨by simp [h], hf, .inl h⟩

theorem stopLevel_iff (s : State) : s.stopLevel = true ↔ ∃ i : InputId, (s.inputRec i).function = .stop
    ∧ (((s.inputRec i).sense = .levelHigh ∧ s.signals.taken[i] = true)
      ∨ ((s.inputRec i).sense = .levelLow ∧ s.signals.taken[i] = false)) := by
  have hlevel (i : InputId) : (!(s.inputRec i).sense.isEdge && s.active i) = s.entersLevel i := rfl
  simp only [State.stopLevel, List.any_eq_true, Bool.and_assoc, hlevel, Bool.and_eq_true, beq_iff_eq, entersLevel_iff]
  constructor
  · rintro ⟨i, -, hstop, -, h⟩
    exact ⟨i, hstop, h⟩
  · rintro ⟨i, hstop, h⟩
    exact ⟨i, List.mem_finRange i, hstop, by simp [hstop], h⟩

/-! ## SET_MODE RESUME (R172, R173) -/

section
variable {s : State}

theorem setResume_noTables (h : s.tables.allLoaded = false) : setResume s = refuse .noTables s := if_pos h

theorem setResume_stopped (h : s.tables.allLoaded = true) (hstop : s.mode.stopLatch = true ∨ s.stopLevel = true) :
    setResume s = refuse .state s := by
  unfold setResume
  rw [if_neg (by simp [h]), if_pos hstop]

theorem setResume_taken (h : s.tables.allLoaded = true) (hlatch : s.mode.stopLatch = false) (hlevel : s.stopLevel = false) :
    setResume s = modeAnswer (if s.mode.engine = .halted then enterDiscovering s else s) := by
  unfold setResume
  rw [if_neg (by simp [h]), if_neg (by simp [hlatch, hlevel])]

theorem setResume_started (h : s.tables.allLoaded = true) (hlatch : s.mode.stopLatch = false)
    (hlevel : s.stopLevel = false) (hengine : s.mode.engine ≠ .halted) : setResume s = modeAnswer s := by
  rw [setResume_taken h hlatch hlevel, if_neg hengine]

theorem setResume_halted (h : s.tables.allLoaded = true) (hlatch : s.mode.stopLatch = false)
    (hlevel : s.stopLevel = false) (hengine : s.mode.engine = .halted) :
    setResume s = modeAnswer (enterDiscovering s) := by
  rw [setResume_taken h hlatch hlevel, if_pos hengine]

/-- What the entry to DISCOVERING does to a line (R144, R173). -/
def LineCtl.discovering (ms : List Nat) (c : LineCtl) : LineCtl :=
  { c with
    discovery := decide (ms ≠ []), position := none
    inFlight := c.inFlight.map fun tx => { tx with inDiscovery := false } }

/-- The state in which every line has taken its discovery mark. -/
def marked (s : State) : State :=
  (s.withMode { s.mode with engine := .discovering }).withLines (tabulate 4 fun l => (s.lines[l]).discovering (s.members l))

theorem enterDiscovering_eq (s : State) : enterDiscovering s = endDiscoveryIfDone (marked s) := by
  have hmark (ms : List Nat) : (!ms.isEmpty) = decide (ms ≠ []) := by cases ms <;> rfl
  have hline (l : LineId) (c : LineCtl) : ({ c with
      discovery := !(s.members l).isEmpty, position := none
      inFlight := c.inFlight.map fun tx => { tx with inDiscovery := false } } : LineCtl) = c.discovering (s.members l) := by
    rw [LineCtl.discovering, hmark]
  unfold enterDiscovering
  simp only [hline]
  rfl

theorem marksClear_iff (s : State) : s.marksClear = true ↔ ∀ l : LineId, s.lines[l].discovery = false := by
  simp [State.marksClear, allLines]

theorem marked_clear (s : State) : (marked s).marksClear = true ↔ ∀ l : LineId, s.members l = [] := by
  simp [marksClear_iff, marked, LineCtl.discovering]

theorem enterDiscovering_of_members (h : ∃ l : LineId, s.members l ≠ []) : enterDiscovering s = marked s := by
  rw [enterDiscovering_eq]
  refine if_neg fun hdone => ?_
  obtain ⟨l, hl⟩ := h
  exact hl ((marked_clear s).mp hdone.2 l)

theorem enterDiscovering_of_none (h : ∀ l : LineId, s.members l = []) : enterDiscovering s = discoveryEnd (marked s) := by
  rw [enterDiscovering_eq]
  exact if_pos ⟨rfl, (marked_clear s).mpr h⟩

theorem discoveryEnd_mode (s : State) : (discoveryEnd s).mode = { s.mode with engine := .running } := by
  simp [discoveryEnd]

theorem discoveryEnd_time (s : State) : (discoveryEnd s).time = { s.time with timer := some s.site.period } := by
  simp [discoveryEnd, startTimer, State.site]

theorem discoveryEnd_sweep (s : State) : (discoveryEnd s).alloc.sweep.isSome = true := by
  obtain ⟨x, hx, -⟩ := startSweep_snapshot (s.withMode { s.mode with engine := .running })
  simp [discoveryEnd, hx]

end

/-- Settles O36. -/
theorem resumeBeginsDiscovery : Obligations.ResumeBeginsDiscovery := by
  refine ⟨fun s => ⟨stopLevel_iff s, allLoaded_iff s.tables⟩, fun tag x y rest s ht => ?_⟩
  have hexec := exec_next (c := .setModeResume tag [1, x, y]) (f := ⟨0x18, tag, _⟩) rfl ht
  have hrequest : setModeRequest [1, x, y] (s.taking rest) = setResume (s.taking rest) := rfl
  simp only [ownerOf, hrequest] at hexec
  refine ⟨fun hl => ?_, fun hl hstop => ?_, fun hl hlatch hlevel hengine => ?_, fun hl hlatch hlevel hengine hm => ?_,
    fun hl hlatch hlevel hengine hm => ?_⟩
  · rw [hexec, setResume_noTables (s := s.taking rest) hl, delivered_refused]
    rfl
  · rw [hexec, setResume_stopped (s := s.taking rest) hl hstop, delivered_refused]
    rfl
  · rw [hexec, setResume_started (s := s.taking rest) hl hlatch hlevel hengine]
    rfl
  · rw [hexec, setResume_halted (s := s.taking rest) hl hlatch hlevel hengine,
      enterDiscovering_of_members (s := s.taking rest) hm]
    rfl
  · rw [setResume_halted (s := s.taking rest) hl hlatch hlevel hengine,
      enterDiscovering_of_none (s := s.taking rest) hm] at hexec
    have hport := (noticed_discoveryEnd (marked (s.taking rest))).fleet
    refine ⟨_, hexec, ?_, ?_, ?_, by simp [modeAnswer, marked], by simp [modeAnswer, marked],
      by exact congrArg Fleet.rx hport, fun l => ?_⟩
    · simp only [modeAnswer, delivered_accept, driveOutputs_mode, respond_mode, State.spend_mode, discoveryEnd_mode]
      rfl
    · simp only [modeAnswer, delivered_accept, driveOutputs_alloc, respond_alloc, State.spend_alloc, discoveryEnd_sweep]
    · simp only [modeAnswer, delivered_accept, driveOutputs_time, respond_time, State.spend_time, discoveryEnd_time]
      rfl
    · have hline : ((marked (s.taking rest)).lines[l.val]) = (s.lines[l.val]).discovering (s.members l) := by
        simp only [marked, State.withLines_lines, tabulate_get]
        rfl
      simp only [modeAnswer, delivered_accept, driveOutputs_lines, respond_lines, State.spend_lines, discoveryEnd_lines,
        Fin.getElem_fin, hline, LineCtl.discovering, hm l]
      exact ⟨rfl, trivial⟩

end Sys2Proof.Machine

/-! PROOFS. The fast-shed pass (R81 to R84): what a walk leaves, step by step and at its end; HEADROOM that lowers a
capacity, and the end of a pass. -/

namespace Sys2Proof.Machine

/-! ## Sums over the pads -/

theorem padSum_eq_sum (f : PadId → Nat) : padSum f = ∑ p, f p := (Fin.sum_univ_def f).symm

theorem padSum_add (f g : PadId → Nat) : padSum f + padSum g = padSum fun p => f p + g p := by
  simp only [padSum_eq_sum, Finset.sum_add_distrib]

/-- A figure changed at one pad changes the sum by as much. -/
theorem padSum_change {f g : PadId → Nat} {p : PadId} (h : ∀ q : PadId, q ≠ p → g q = f q) :
    padSum g + f p = padSum f + g p := by
  simp only [padSum_eq_sum]
  rw [← Finset.add_sum_erase _ _ (Finset.mem_univ p), ← Finset.add_sum_erase _ f (Finset.mem_univ p)]
  have hrest : ∑ q ∈ Finset.univ.erase p, g q = ∑ q ∈ Finset.univ.erase p, f q :=
    Finset.sum_congr rfl fun q hq => h q (Finset.ne_of_mem_erase hq)
  omega

/-! ## A walk, for whichever total it looks at (R82, R83) -/

/-- What a walk asks of its total, its limit and the pads it may lower: a need to shed is a total above the limit with
a grant to lower; the limit and the pads stand on the tables and the groups; and a decrease moves the total by as much. -/
structure Capped (needs on : State → Bool) (total limit : State → Nat) (mine : State → PadId → Bool) : Prop where
  needs_iff : ∀ s : State, needs s = true ↔
    on s = true ∧ limit s < total s ∧ ∃ p : PadId, mine s p = true ∧ 0 < s.pads[p].grant
  same : ∀ s t : State, t.tables = s.tables → t.groups = s.groups → on t = on s ∧ limit t = limit s ∧ mine t = mine s
  fallen : ∀ (s : State) (p : PadId) (v : Nat), mine s p = true →
    total (decrease p v s) + s.pads[p].grant = total s + v
  moved : ∀ (s : State) (a : Alloc), total (s.withAlloc a) = total s

theorem capped_group (g : GroupId) : Capped (fun s => s.groupNeedsShed g) (fun s => (s.feederRec g).enabled)
    (fun s => s.groupTotal g) (fun s => s.groupLimit g) (fun s p => s.inGroup g p) where
  needs_iff _ := groupNeedsShed_eq_true
  same s t htables hgroups := by
    simp only [State.feederRec, State.groupLimit, hgroups, State.inGroup, State.padRec, htables, and_self]
  fallen s p v hp := by
    have hin (q : PadId) : (decrease p v s).inGroup g q = s.inGroup g q := by simp [State.inGroup, State.padRec]
    have hreserved : (decrease p v s).groupReserved g = s.groupReserved g := by
      unfold State.groupReserved
      simp only [hin, Fin.getElem_fin, decrease_get]
      congr 1
      funext q
      by_cases hq : p = q <;> simp [hq, Pad.lower_eq]
    have hgrants : (decrease p v s).groupGrants g + s.pads[p].grant = s.groupGrants g + v := by
      have h := padSum_change (p := p) (f := fun q => if s.inGroup g q then s.pads[q].grant else 0)
        (g := fun q => if (decrease p v s).inGroup g q then (decrease p v s).pads[q].grant else 0) fun q hq => by
          simp only [hin, Fin.getElem_fin, decrease_get, if_neg (Ne.symm hq)]
      have hv : (decrease p v s).pads[p].grant = v := by simp [decrease_get]
      rw [hin, hv, if_pos hp, if_pos hp] at h
      exact h
    simp only [State.groupTotal, hreserved]
    omega
  moved _ _ := rfl

theorem capped_site : Capped State.siteNeedsShed (fun _ => true) State.siteTotal State.siteLimit (fun _ _ => true) where
  needs_iff s := by simp [siteNeedsShed_eq_true]
  same s t htables _ := by simp [State.siteLimit, State.site, htables]
  fallen s p v _ := by
    have hreserved : (decrease p v s).siteReserved = s.siteReserved := by
      unfold State.siteReserved
      simp only [Fin.getElem_fin, decrease_get]
      congr 1
      funext q
      by_cases hq : p = q <;> simp [hq, Pad.lower_eq]
    have hgrants : (decrease p v s).siteGrants + s.pads[p].grant = s.siteGrants + v := by
      have h := padSum_change (p := p) (f := fun q => s.pads[q].grant)
        (g := fun q => (decrease p v s).pads[q].grant) fun q hq => by
          simp only [Fin.getElem_fin, decrease_get, if_neg (Ne.symm hq)]
      have hv : (decrease p v s).pads[p].grant = v := by simp [decrease_get]
      rw [hv] at h
      exact h
    simp only [State.siteTotal, hreserved]
    omega
  moved _ _ := rfl

section
variable {needs on : State → Bool} {total limit : State → Nat} {mine : State → PadId → Bool}

/-- The walk of a total, made where it needs shedding. -/
def guardedWalk (needs : State → Bool) (total limit : State → Nat) (mine : State → PadId → Bool) (s : State) : State :=
  if needs s then walk total limit mine s else s

theorem groupWalk_eq (s : State) (g : GroupId) : groupWalk s g =
    guardedWalk (fun s => s.groupNeedsShed g) (fun s => s.groupTotal g) (fun s => s.groupLimit g)
      (fun s p => s.inGroup g p) s := rfl

theorem siteWalk_eq (s : State) : siteWalk s =
    guardedWalk State.siteNeedsShed State.siteTotal State.siteLimit (fun _ _ => true) s := rfl

theorem Capped.same_shedPad (h : Capped needs on total limit mine) (s : State) (p : PadId) :
    on (shedPad total limit mine s p) = on s ∧ limit (shedPad total limit mine s p) = limit s
      ∧ mine (shedPad total limit mine s p) = mine s :=
  h.same _ _ (by simp) (by simp)

theorem shedPad_grant_le (s : State) (p q : PadId) :
    ((shedPad total limit mine s p).pads[q.val]).grant ≤ (s.pads[q.val]).grant :=
  ((quiet_shedPad total limit mine s p).others q (by simp)).grant

/-- A pad treated leaves the total within its limit, or itself without a grant (R82). -/
theorem Capped.shedPad_settles (h : Capped needs on total limit mine) (s : State) (p : PadId) :
    total (shedPad total limit mine s p) ≤ limit s
      ∨ (mine s p = true → ((shedPad total limit mine s p).pads[p.val]).grant = 0) := by
  unfold shedPad
  by_cases hover : limit s < total s ∧ mine s p = true ∧ 0 < s.pads[p].grant
  · rw [if_pos hover]
    have hfall := h.fallen s p (shedTo s p (total s - limit s)) hover.2.1
    have hle := shedTo_le s p (total s - limit s)
    by_cases hexcess : total s - limit s ≤ s.pads[p].grant
    · exact .inl (by omega)
    · refine .inr fun _ => ?_
      simp only [decrease_get, if_true, Pad.lower_grant]
      omega
  · rw [if_neg hover]
    by_cases hlt : limit s < total s
    · refine .inr fun hp => ?_
      by_contra hne
      exact hover ⟨hlt, hp, Nat.pos_of_ne_zero hne⟩
    · exact .inl (Nat.not_lt.mp hlt)

/-- A walk leaves the total within its limit, or every pad that it has passed without a grant (R82). -/
theorem Capped.walked (h : Capped needs on total limit mine) (l : List PadId) (s : State) :
    total (l.foldl (shedPad total limit mine) s) ≤ limit s
      ∨ ∀ p : PadId, p ∈ l → mine s p = true → ((l.foldl (shedPad total limit mine) s).pads[p.val]).grant = 0 := by
  induction l generalizing s with
  | nil => exact .inr fun p hp => absurd hp (List.not_mem_nil)
  | cons a l ih =>
    obtain ⟨-, hlimit, hmine⟩ := h.same_shedPad s a
    rcases ih (shedPad total limit mine s a) with hin | hzero
    · exact .inl (hlimit ▸ hin)
    · rcases h.shedPad_settles s a with hin | ha
      · left
        have hstay (l : List PadId) (t : State) (ht : total t ≤ limit t) : l.foldl (shedPad total limit mine) t = t := by
          induction l with
          | nil => rfl
          | cons b l ih => rw [List.foldl_cons, shedPad_within t total limit mine b ht, ih]
        rw [List.foldl_cons, hstay l _ (by rw [hlimit]; exact hin)]
        exact hin
      · refine .inr fun p hp hm => ?_
        rcases List.mem_cons.mp hp with rfl | hp
        · have hle := (Quiet.foldl (own := none) (quiet_shedPad total limit mine) l
            (shedPad total limit mine s p)).others p (by simp) |>.grant
          exact Nat.le_zero.mp (hle.trans (ha hm).le)
        · exact hzero p hp (hmine ▸ hm)

/-- After the walk over a kept list that holds every pad with a grant, its total needs no shedding (R82, R83). -/
theorem Capped.guardedWalk_settles (h : Capped needs on total limit mine) {s : State}
    (hkept : ∀ p : PadId, 0 < s.pads[p].grant → p ∈ s.alloc.kept) :
    needs (guardedWalk needs total limit mine s) = false := by
  unfold guardedWalk
  split
  · rw [← Bool.not_eq_true, h.needs_iff]
    rintro ⟨-, hlt, p, hp, hpos⟩
    obtain ⟨-, hlimit, hmine⟩ := h.same s (walk total limit mine s) (by simp) (by simp)
    rw [hlimit] at hlt
    rw [hmine] at hp
    rcases h.walked s.alloc.kept.reverse s with hin | hzero
    · exact absurd hin (Nat.not_le.mpr hlt)
    · have hle := ((quiet_walk total limit mine s).others p (by simp)).grant
      have hmem := hkept p (hpos.trans_le hle)
      exact absurd (hzero p (List.mem_reverse.mpr hmem) hp) (Nat.ne_of_gt hpos)
  next hn => simpa using hn

/-! ### The walk, pad by pad -/

theorem walk_of_empty (s : State) (h : s.alloc.kept = []) : walk total limit mine s = s := by
  simp [walk, h]

theorem decrease_withAlloc (p : PadId) (v : Nat) (s : State) (a : Alloc) :
    decrease p v (s.withAlloc a) = (decrease p v s).withAlloc a := by
  unfold decrease
  dsimp only
  have hpads : (s.withAlloc a).pads = s.pads := rfl
  rw [hpads]
  split <;> rfl

theorem Capped.shedPad_withAlloc (h : Capped needs on total limit mine) (s : State) (a : Alloc) (p : PadId) :
    shedPad total limit mine (s.withAlloc a) p = (shedPad total limit mine s p).withAlloc a := by
  obtain ⟨-, hlimit, hmine⟩ := h.same s (s.withAlloc a) rfl rfl
  have hshed (n : Nat) : shedTo (s.withAlloc a) p n = shedTo s p n := rfl
  unfold shedPad
  rw [hlimit, h.moved, hmine, hshed, decrease_withAlloc]
  exact (apply_ite (fun t : State => t.withAlloc a) _ _ _).symm

theorem Capped.foldl_withAlloc (h : Capped needs on total limit mine) (l : List PadId) (s : State) (a : Alloc) :
    l.foldl (shedPad total limit mine) (s.withAlloc a) = (l.foldl (shedPad total limit mine) s).withAlloc a := by
  induction l generalizing s with
  | nil => rfl
  | cons b l ih => rw [List.foldl_cons, h.shedPad_withAlloc, ih, List.foldl_cons]

theorem Capped.needs_withAlloc (h : Capped needs on total limit mine) (s : State) (a : Alloc) :
    needs (s.withAlloc a) = needs s := by
  obtain ⟨hon, hlimit, hmine⟩ := h.same s (s.withAlloc a) rfl rfl
  rw [Bool.eq_iff_iff, h.needs_iff, h.needs_iff, hon, hlimit, hmine, h.moved]
  rfl

/-- Where a total that is watched needs no shedding, no pad is touched. -/
theorem Capped.foldl_of_not_needs (h : Capped needs on total limit mine) (l : List PadId) {s : State}
    (hon : on s = true) (hn : needs s = false) : l.foldl (shedPad total limit mine) s = s := by
  induction l with
  | nil => rfl
  | cons b l ih =>
    have hb : shedPad total limit mine s b = s := by
      refine if_neg fun hover => ?_
      rw [(h.needs_iff s).mpr ⟨hon, hover.1, b, hover.2⟩] at hn
      exact absurd hn (by simp)
    rw [List.foldl_cons, hb, ih]

/-- A walk treats the last pad of the kept list, then walks the rest (R82). -/
theorem Capped.guardedWalk_last (h : Capped needs on total limit mine) {s : State} {front : List PadId} {p : PadId}
    (hkept : s.alloc.kept = front ++ [p]) :
    guardedWalk needs total limit mine s = (guardedWalk needs total limit mine
      ((if needs s = true ∧ mine s p = true ∧ 0 < s.pads[p].grant then
          decrease p (shedTo s p (total s - limit s)) s else s).withAlloc { s.alloc with kept := front })).withAlloc s.alloc := by
  by_cases hn : needs s = true
  · obtain ⟨hon, hlt, -⟩ := (h.needs_iff s).mp hn
    have hlast : (if needs s = true ∧ mine s p = true ∧ 0 < s.pads[p].grant then
        decrease p (shedTo s p (total s - limit s)) s else s) = shedPad total limit mine s p := by
      unfold shedPad
      simp only [hn, hlt, true_and]
    have hback (u : State) (a : Alloc) (hu : u.alloc = s.alloc) : (u.withAlloc a).withAlloc s.alloc = u := by
      rw [← hu]
      rfl
    rw [hlast]
    unfold guardedWalk
    rw [if_pos hn, walk_last s total limit mine front p hkept, h.needs_withAlloc]
    split
    · unfold walk
      rw [State.withAlloc_alloc, h.foldl_withAlloc]
      exact (hback _ _ (by rw [foldl_keeps (fun t => t.alloc) _ (fun t q => by simp), shedPad_alloc])).symm
    next hrest =>
      rw [hback _ _ (by simp)]
      refine h.foldl_of_not_needs _ ?_ (by simpa using hrest)
      rw [(h.same_shedPad s p).1, hon]
  · have hn' : needs s = false := by simpa using hn
    have hsame : needs (s.withAlloc { s.alloc with kept := front }) = false := by rw [h.needs_withAlloc, hn']
    simp only [guardedWalk, hn', hsame, Bool.false_eq_true, false_and, if_false]
    rfl

end

/-! ## The pass whole -/

/-- A group that needs no shedding needs none after grants have fallen. -/
theorem groupNeedsShed_of_quiet {s t : State} (h : Quiet none s t) (hgroups : t.groups = s.groups) {g : GroupId}
    (hn : s.groupNeedsShed g = false) : t.groupNeedsShed g = false := by
  rw [← Bool.not_eq_true, groupNeedsShed_eq_true] at hn ⊢
  rintro ⟨hon, hlt, p, hp, hpos⟩
  obtain ⟨he, hlimit, hmine⟩ := (capped_group g).same s t h.tables hgroups
  have hmine' (q : PadId) : t.inGroup g q = s.inGroup g q := congrFun hmine q
  refine hn ⟨he ▸ hon, ?_, p, hmine' p ▸ hp, hpos.trans_le (h.others p (by simp)).grant⟩
  have htotal : t.groupTotal g ≤ s.groupTotal g := by
    unfold State.groupTotal State.groupGrants State.groupReserved
    refine Nat.add_le_add (padSum_le fun q => ?_) (padSum_le fun q => ?_) <;> rw [hmine'] <;> split
    · exact (h.others q (by simp)).grant
    · exact le_rfl
    · exact (h.others q (by simp)).reservation.le
    · exact le_rfl
  exact hlimit ▸ hlt.trans_le htotal

/-- After the walks of some groups none of them needs shedding (R82). -/
theorem groupWalks_settle (gs : List GroupId) {s : State} (hkept : ∀ p : PadId, 0 < s.pads[p].grant → p ∈ s.alloc.kept) :
    ∀ g : GroupId, g ∈ gs → (gs.foldl groupWalk s).groupNeedsShed g = false := by
  induction gs generalizing s with
  | nil => exact fun g hg => absurd hg List.not_mem_nil
  | cons a gs ih =>
    have hwalk := quiet_groupWalk s a
    have hkept' (p : PadId) (hp : 0 < ((groupWalk s a).pads[p]).grant) : p ∈ (groupWalk s a).alloc.kept := by
      rw [groupWalk_alloc]
      exact hkept p (hp.trans_le (hwalk.others p (by simp)).grant)
    intro g hg
    by_cases hmem : g ∈ gs
    · exact ih hkept' g hmem
    · obtain rfl : g = a := (List.mem_cons.mp hg).resolve_right hmem
      refine groupNeedsShed_of_quiet (Quiet.foldl quiet_groupWalk gs (groupWalk s g)) ?_ ?_
      · exact foldl_keeps (fun t => t.groups) _ (fun t h => by simp) gs _
      · exact (capped_group g).guardedWalk_settles hkept

theorem startPass_alloc_eq (s : State) : (startPass s).alloc = { s.alloc with fastShed := .running } := by
  unfold startPass
  rw [siteWalk_alloc, foldl_keeps (fun t => t.alloc) _ (fun t g => groupWalk_alloc t g)]
  rfl

theorem startPass_fall (s : State) (p : PadId) : (s.pads[p.val]).Fall (startPass s).pads[p.val] :=
  (calm_startPass s).others p (by simp)

/-- A pass over a kept list that holds every pad with a grant leaves nothing over its limit (R82, R83). -/
theorem startPass_settles {s : State} (hkept : ∀ p : PadId, 0 < s.pads[p].grant → p ∈ s.alloc.kept) :
    (startPass s).needsShed = false := by
  have hgroups := Quiet.foldl quiet_groupWalk allGroups (s.setFastShed .running)
  have halloc : (allGroups.foldl groupWalk (s.setFastShed .running)).alloc = { s.alloc with fastShed := .running } :=
    foldl_keeps (fun t => t.alloc) _ (fun t g => groupWalk_alloc t g) _ _
  rw [needsShed_eq_false]
  refine ⟨fun g => ?_, capped_site.guardedWalk_settles fun p hp => ?_⟩
  · exact groupNeedsShed_of_quiet (quiet_siteWalk _) (by simp)
      (groupWalks_settle allGroups (s := s.setFastShed .running) hkept g (List.mem_finRange g))
  · rw [halloc]
    exact hkept p (hp.trans_le (hgroups.others p (by simp)).grant)

/-! ## What the pass reads -/

theorem groupTotal_eq (s : State) (g : GroupId) : s.groupTotal g =
    padSum fun p => if s.inGroup g p then s.pads[p].grant + s.pads[p].reservation else 0 := by
  unfold State.groupTotal State.groupGrants State.groupReserved
  rw [padSum_add]
  congr 1
  funext p
  split <;> rfl

theorem siteTotal_eq (s : State) : s.siteTotal = padSum fun p => s.pads[p].grant + s.pads[p].reservation :=
  padSum_add _ _

theorem decrease_pads (p : PadId) (v : Nat) (s : State) : (decrease p v s).pads = s.pads.set p ((s.pads[p]).lower v) := by
  apply Vector.ext
  intro i hi
  have h := decrease_get s p ⟨i, hi⟩ v
  rw [h, Vector.getElem_set]
  by_cases hp : p.val = i
  · subst hp
    simp
  · simp [hp, Fin.ext_iff]

theorem decrease_lines (p : PadId) (v : Nat) (s : State) :
    (decrease p v s).lines = tabulate 4 fun l => { s.lines[l] with urgent := urgentAfter s p v l } := by
  apply Vector.ext
  intro i hi
  rw [tabulate_get]
  rw [decrease_line p v s ⟨i, hi⟩]
  exact congrArg (fun u => ({ s.lines[i] with urgent := u } : LineCtl)) (decrease_urgent s p v ⟨i, hi⟩)

theorem decrease_eq (p : PadId) (v : Nat) (s : State) :
    decrease p v s = (s.withPads (decrease p v s).pads).withLines (decrease p v s).lines := by
  unfold decrease
  dsimp only
  split <;> rfl

theorem effMin_of_least {c : Capability} {k : Nat} (hk : k ∈ c.tiers) (hleast : ∀ j : Nat, j ∈ c.tiers → k ≤ j) :
    c.effMin = max c.vmin k := by
  unfold Capability.effMin
  rw [List.min?_eq_some_iff.mpr ⟨hk, hleast⟩]

theorem served_iff (x : SessionState) : x.served = true ↔ x = .waiting ∨ x = .charging := by
  cases x <;> simp [SessionState.served]

/-- Settles O34. -/
theorem passLeavesNothingOver : Obligations.PassLeavesNothingOver := by
  refine ⟨fun s hkept => ⟨startPass_settles hkept, fun p => (startPass_fall s p).grant, startPass_alloc_eq s, by simp,
      by simp⟩, fun s => rfl, fun s g => ⟨fun h => ?_, fun front p h => ?_⟩, fun s => ⟨fun h => ?_, fun front p h => ?_⟩,
    fun s g => ⟨groupTotal_eq s g, siteTotal_eq s, fun p => by simp [State.inGroup], by simp [State.anyPending, allPads],
      groupNeedsShed_eq_true, siteNeedsShed_eq_true, needsShed_eq_true.trans or_comm⟩,
    fun s p c excess v hc hv => ⟨fun h => ?_, fun h => ?_, fun h => by simp [Capability.effMin, h],
      fun k hk hleast => effMin_of_least hk hleast⟩, fun s p v => ⟨?_, decrease_lines p v s, decrease_eq p v s⟩⟩
  · rw [groupWalk_eq, guardedWalk, walk_of_empty s h, ite_self]
  · exact (capped_group g).guardedWalk_last h
  · rw [siteWalk_eq, guardedWalk, walk_of_empty s h, ite_self]
  · have hlast := capped_site.guardedWalk_last h
    simp only [true_and] at hlast
    exact hlast
  · simp only [shedTo, hc, ← hv, h, if_true]
  · simp only [shedTo, hc, ← hv, Nat.not_lt.mpr h, if_false]
  · rw [decrease_pads, Pad.lower_eq]
    simp only [served_iff, Nat.min_comm]

end Sys2Proof.Machine

/-! PROOFS. What the fast-shed check makes of a state, case by case (R81, R84); HEADROOM that lowers a capacity (R92)
and the end of a pass (R84). -/

namespace Sys2Proof.Machine

section
variable {s : State}

/-! ## The increase release as a whole (R79) -/

/-- The sent setpoint an increase release leaves, made or not. -/
def releasedSent (made : Prop) [Decidable made] (q : Pad) : Nat := if made then max q.sent q.grant else q.sent

theorem increaseRelease_pad (p : PadId) : (increaseRelease s).pads[p.val] =
    { s.pads[p.val] with
      sent := if s.anyPending = false ∧ s.alloc.fastShed = .none then max (s.pads[p.val]).sent (s.pads[p.val]).grant
        else (s.pads[p.val]).sent } := by
  rw [increaseRelease_get]
  by_cases hmade : s.anyPending = false ∧ s.alloc.fastShed = .none
  · by_cases hlt : (s.pads[p.val]).sent < (s.pads[p.val]).grant
    · rw [if_pos ⟨hmade.1, hmade.2, hlt⟩, if_pos hmade, Nat.max_eq_right (Nat.le_of_lt hlt)]
    · rw [if_neg fun h => hlt h.2.2, if_pos hmade, Nat.max_eq_left (Nat.not_lt.mp hlt)]
  · rw [if_neg fun h => hmade ⟨h.1, h.2.1⟩, if_neg hmade]

theorem increaseRelease_eq (s : State) : increaseRelease s = s.withPads (increaseRelease s).pads := by
  unfold increaseRelease
  split <;> rfl

/-! ## A pass (R82, R83) -/

/-- A pad without a grant is touched by no walk. -/
theorem shedPad_spares {total limit : State → Nat} {mine : State → PadId → Bool} (a p : PadId)
    (h : (s.pads[p.val]).grant = 0) : (shedPad total limit mine s a).pads[p.val] = s.pads[p.val] := by
  unfold shedPad
  split
  next hover =>
    have hne : a ≠ p := by
      rintro rfl
      exact absurd hover.2.2 (by simpa using h)
    rw [decrease_get, if_neg hne]
  next => rfl

/-- What every pad treated by a walk keeps, a pass keeps: a property of the states that the walks go through. -/
theorem startPass_keeps {P : State → Prop} (hstart : P (s.setFastShed .running))
    (hstep : ∀ (total limit : State → Nat) (mine : State → PadId → Bool) (t : State) (a : PadId),
      P t → P (shedPad total limit mine t a)) : P (startPass s) := by
  have hfold (total limit : State → Nat) (mine : State → PadId → Bool) (l : List PadId) (t : State) (ht : P t) :
      P (l.foldl (shedPad total limit mine) t) := by
    induction l generalizing t with
    | nil => exact ht
    | cons a l ih => exact ih _ (hstep total limit mine t a ht)
  have hgroup (t : State) (g : GroupId) (ht : P t) : P (groupWalk t g) := by
    unfold groupWalk
    split
    · exact hfold _ _ _ _ t ht
    · exact ht
  have hgroups (gs : List GroupId) (t : State) (ht : P t) : P (gs.foldl groupWalk t) := by
    induction gs generalizing t with
    | nil => exact ht
    | cons g gs ih => exact ih _ (hgroup t g ht)
  unfold startPass siteWalk
  split
  · exact hfold _ _ _ _ _ (hgroups _ _ hstart)
  · exact hgroups _ _ hstart

/-- A pass leaves a pad without a grant as it was. -/
theorem startPass_spares (p : PadId) (h : (s.pads[p.val]).grant = 0) : (startPass s).pads[p.val] = s.pads[p.val] :=
  startPass_keeps (P := fun t => t.pads[p.val] = s.pads[p.val]) rfl fun _ _ _ t a ht => by
    rw [shedPad_spares a p (ht ▸ h), ht]

/-- A pass raises no sent setpoint. -/
theorem startPass_sent_le (p : PadId) : ((startPass s).pads[p.val]).sent ≤ (s.pads[p.val]).sent :=
  startPass_keeps (P := fun t => (t.pads[p.val]).sent ≤ (s.pads[p.val]).sent) le_rfl fun _ _ _ t a ht => by
    refine le_trans ?_ ht
    unfold shedPad
    split
    · rw [decrease_get]
      split
      · rw [Pad.lower_sent]
        exact Nat.min_le_right _ _
      · exact le_rfl
    · exact le_rfl

/-- A pass that had something to shed lowers some grant. -/
theorem startPass_lowers (hn : s.needsShed = true) (hs : (startPass s).needsShed = false) :
    ∃ p : PadId, ((startPass s).pads[p]).grant < (s.pads[p]).grant := by
  by_contra hno
  have hle (p : PadId) : (s.pads[p]).grant ≤ ((startPass s).pads[p]).grant := by
    by_contra hlt
    exact hno ⟨p, Nat.not_le.mp hlt⟩
  have hback : s.needsShed = false :=
    needsShed_false_of_le (by simp) (fun p => ⟨hle p, (startPass_fall s p).reservation.ge⟩)
      (fun g => by rw [startPass_groups]) hs
  simp [hback] at hn

/-! ## The check by its occasion (R81) -/

@[simp] theorem driveOutputs_needsShed (s : State) : (driveOutputs s).needsShed = s.needsShed := rfl

@[simp] theorem respond_needsShed (kind tag : Byte) (code : ResultCode) (data : List Byte) (s : State) :
    (respond kind tag code data s).needsShed = s.needsShed := rfl

theorem fastShedCheck_none (hr : s.alloc.fastShed ≠ .running) (hn : s.needsShed = false) :
    fastShedCheck s = if s.alloc.fastShed = .pending then increaseRelease (s.setFastShed .none) else s := by
  unfold fastShedCheck
  rw [if_neg hr, if_neg (by simp [hn])]

theorem fastShedCheck_none_alloc (hr : s.alloc.fastShed ≠ .running) (hn : s.needsShed = false) :
    (fastShedCheck s).alloc = { s.alloc with fastShed := .none } := by
  rw [(calm_fastShedCheck s).alloc, fastShedCheck_clear s hn hr]

theorem fastShedCheck_none_lines (hr : s.alloc.fastShed ≠ .running) (hn : s.needsShed = false) :
    (fastShedCheck s).lines = s.lines := by
  rw [fastShedCheck_none hr hn]
  split <;> simp

theorem fastShedCheck_none_pad (hr : s.alloc.fastShed ≠ .running) (hn : s.needsShed = false) (p : PadId) :
    (fastShedCheck s).pads[p.val] =
      { s.pads[p.val] with
        sent := if s.alloc.fastShed = .pending ∧ s.anyPending = false then
            max (s.pads[p.val]).sent (s.pads[p.val]).grant else (s.pads[p.val]).sent } := by
  rw [fastShedCheck_none hr hn]
  by_cases hp : s.alloc.fastShed = .pending
  · rw [if_pos hp, increaseRelease_pad]
    have hany : (s.setFastShed .none).anyPending = s.anyPending := rfl
    have hpads : (s.setFastShed .none).pads = s.pads := rfl
    have hshed : (s.setFastShed .none).alloc.fastShed = .none := rfl
    simp only [hany, hpads, hshed, hp, and_true, true_and]
  · simp only [hp, if_false, false_and]

theorem fastShedCheck_none_needs (hr : s.alloc.fastShed ≠ .running) (hn : s.needsShed = false) :
    (fastShedCheck s).needsShed = false :=
  (withinLimits_iff _).mp (withinLimits_fastShedCheck s) (fastShedCheck_clear s hn hr)

/-- A check that leaves the fast-shed state as it was, not PENDING, has done nothing, with no sweep in progress. -/
theorem fastShedCheck_of_same (hsweep : s.alloc.sweep = none) (hp : s.alloc.fastShed ≠ .pending)
    (hsame : (fastShedCheck s).alloc.fastShed = s.alloc.fastShed) : fastShedCheck s = s := by
  by_cases hr : s.alloc.fastShed = .running
  · exact fastShedCheck_running s hr
  · cases hn : s.needsShed with
    | true =>
      rw [fastShedCheck_starts s hn hr (by simp [hsweep]), startPass_running] at hsame
      exact absurd hsame.symm hr
    | false => rw [fastShedCheck_none hr hn, if_neg hp]

/-- The check spares a pad without grant and sent setpoint. -/
theorem fastShedCheck_spares (p : PadId) (h : (s.pads[p.val]).grant = 0) :
    (fastShedCheck s).pads[p.val] = s.pads[p.val] := by
  by_cases hr : s.alloc.fastShed = .running
  · rw [fastShedCheck_running s hr]
  · cases hn : s.needsShed with
    | true =>
      cases hs : s.alloc.sweep.isSome with
      | true =>
        rw [fastShedCheck_sweeping s hn hr hs]
        rfl
      | false =>
        rw [fastShedCheck_starts s hn hr hs]
        exact startPass_spares p h
    | false =>
      rw [fastShedCheck_none_pad hr hn, h, Nat.max_eq_left (Nat.zero_le _), ite_self]

/-! ## HEADROOM that lowers the capacity (R92, R94) -/

/-- A HEADROOM that lowers the capacity stores its group's record, and the check follows (R81, R94). -/
theorem recompute_lowering {g : GroupId} {n : Nat} {x : Group} (henabled : (s.feederRec g).enabled = true)
    (hx : x = { s.groups[g] with
      headroom := n, age := 0, hstate := .fresh
      capacity := n - (if s.groups[g].shedActive then (s.feederRec g).shed else 0) })
    (hlt : x.capacity < s.groups[g].capacity) :
    recompute g (s.updGroup g (Group.withHeadroom n)) = fastShedCheck (s.withGroups (s.groups.set g x)) := by
  have hgroup : (s.updGroup g (Group.withHeadroom n)).groups[g] = (s.groups[g]).withHeadroom n :=
    State.updGroup_same _ g _
  have hrec : (s.updGroup g (Group.withHeadroom n)).feederRec g = s.feederRec g := rfl
  have hcapacity : capacityOf (s.feederRec g) ((s.groups[g]).withHeadroom n) = x.capacity := by
    rw [capacityOf_withHeadroom henabled, hx]
  have hfalls : capacityOf ((s.updGroup g (Group.withHeadroom n)).feederRec g)
      (s.updGroup g (Group.withHeadroom n)).groups[g] < (s.updGroup g (Group.withHeadroom n)).groups[g].capacity := by
    rw [hgroup, hrec, hcapacity]
    exact hlt
  unfold recompute
  rw [if_pos hfalls]
  congr 1
  have hstored : { (s.groups[g]).withHeadroom n with
      capacity := capacityOf (s.feederRec g) ((s.groups[g]).withHeadroom n) } = x := by
    rw [hcapacity, hx]
    rfl
  simp only [Fin.getElem_fin] at hstored
  simp only [storeCapacity, State.updGroup, State.withGroups, Fin.getElem_fin, Vector.getElem_set_self, Vector.set_set]
  rw [← hstored]
  rfl

end

/-- Settles O15: the check on the state with the new figure, in each fast-shed state. -/
theorem headroomFallMakesTheCheck : Obligations.HeadroomFallMakesTheCheck := by
  intro g tag hh hl rest s ht hloaded henabled hlt
  have hexec := exec_next (c := .headroom tag [byte1 g.val, hh, hl]) (f := ⟨0x08, tag, _⟩) rfl ht
  simp only [ownerOf] at hexec
  rw [headroomRequest_taken (s := s.taking rest) hloaded henabled rfl, delivered_acceptClamped] at hexec
  obtain ⟨x, hx⟩ : ∃ x : Group, x = { s.groups[g] with
      headroom := min (be16 hh hl) (s.feederRec g).rated, age := 0, hstate := .fresh
      capacity := min (be16 hh hl) (s.feederRec g).rated
        - (if s.groups[g].shedActive then (s.feederRec g).shed else 0) } := ⟨_, rfl⟩
  rw [taking_feederRec, recompute_lowering (s := s.taking rest) (x := x) henabled hx (by rw [hx]; exact hlt)] at hexec
  generalize hv : (s.taking rest).withGroups ((s.taking rest).groups.set g x) = v at hexec
  have hget (h : GroupId) : (fastShedCheck v).groups[h.val] = if g = h then x else s.groups[h.val] := by
    rw [fastShedCheck_groups, ← hv]
    simp only [State.withGroups_groups, taking_groups, Vector.getElem_set, Fin.ext_iff]
  have hthis : (fastShedCheck v).groups[g.val] = x := by rw [hget, if_pos rfl]
  have hneeds : (s.withGroups (s.groups.set g x)).needsShed = v.needsShed := by rw [← hv]; rfl
  have hany : v.anyPending = s.anyPending := by rw [← hv]; rfl
  have halloc : v.alloc = s.alloc := by rw [← hv]; rfl
  have hpads : v.pads = s.pads := by rw [← hv]; rfl
  have hlines : v.lines = s.lines := by rw [← hv]; rfl
  have hswept (hr : s.alloc.fastShed ≠ .running) (hn : v.needsShed = true) (hs : s.alloc.sweep.isSome = true) :
      fastShedCheck v = v.setFastShed .pending :=
    fastShedCheck_sweeping v hn (halloc ▸ hr) (halloc ▸ hs)
  refine ⟨_, hexec, ?_, ?_, ?_, ?_, (withinLimits_iff _).mp (withinLimits_fastShedCheck v), fun hn hs hr => ?_,
    ⟨fun hr => ?_, fun hr hn hs => ?_, fun hr hn hs => ?_, fun hr hn => ?_⟩, fun h hne => ?_, ?_, ?_, ?_, ?_⟩
  · exact (congrArg Group.hstate hthis).trans (by rw [hx])
  · exact (congrArg Group.age hthis).trans (by rw [hx])
  · exact (congrArg Group.headroom hthis).trans (by rw [hx])
  · exact (congrArg Group.capacity hthis).trans (by rw [hx])
  · have hnv : v.needsShed = true := by
      by_contra hclear
      have := fastShedCheck_none_needs (s := v) (halloc ▸ hr) (by simpa using hclear)
      exact absurd (this.symm.trans hn) (by simp)
    simp only [driveOutputs_alloc, driveOutputs_pads, respond_alloc, respond_pads, hswept hr hnv hs]
    exact ⟨rfl, hpads⟩
  · rw [fastShedCheck_running v (halloc ▸ hr)]
    exact ⟨halloc, hpads, hlines⟩
  · have hnv : v.needsShed = true := by rw [← hneeds, ← hthis]; exact hn
    simp only [driveOutputs_alloc, driveOutputs_pads, driveOutputs_lines, respond_alloc, respond_pads, respond_lines,
      hswept hr hnv hs]
    exact ⟨by rw [← halloc]; rfl, hpads, hlines⟩
  · have hnv : v.needsShed = true := by rw [← hneeds, ← hthis]; exact hn
    rw [fastShedCheck_starts v hnv (halloc ▸ hr) (by simp [halloc, hs])]
    have hkept : (∀ p : PadId, 0 < s.pads[p].grant → p ∈ s.alloc.kept) →
        ∀ p : PadId, 0 < v.pads[p].grant → p ∈ v.alloc.kept := by
      rw [hpads, halloc]
      exact id
    rw [← hpads]
    refine ⟨?_, fun p => ?_, fun hk => ?_⟩
    · rw [driveOutputs_alloc, respond_alloc, startPass_alloc_eq, halloc]
    · simp only [driveOutputs_pads, respond_pads]
      exact ⟨(startPass_fall v p).grant, startPass_sent_le p⟩
    · have hsettled := startPass_settles (hkept (hpads ▸ hk))
      rw [driveOutputs_needsShed, respond_needsShed, driveOutputs_pads, respond_pads]
      exact ⟨hsettled, startPass_lowers hnv hsettled⟩
  · have hnv : v.needsShed = false := by rw [← hneeds, ← hthis]; exact hn
    have hr' : v.alloc.fastShed ≠ .running := halloc ▸ hr
    refine ⟨(fastShedCheck_none_alloc hr' hnv).trans (by rw [halloc]), (fastShedCheck_none_lines hr' hnv).trans hlines,
      fun p => ?_⟩
    have hp := fastShedCheck_none_pad hr' hnv p
    rw [hany, halloc, hpads] at hp
    exact hp
  · exact (hget h).trans (if_neg (Ne.symm hne))
  all_goals
    rw [← hv]
    simp

/-! ## The end of a pass (R84) -/

section
variable {s : State}

theorem passEnd_of_running (h : s.alloc.fastShed = .running) : passEnd s =
    startWaiting (if s.tables.commit = .pending then activate true s else checkAtPassEnd s) :=
  if_pos h

theorem startWaiting_of_running (h : s.alloc.fastShed = .running) : startWaiting s = s :=
  if_neg fun hw => hw.2 h

theorem startWaiting_of_none (h : s.alloc.sweepWaiting = false) : startWaiting s = s :=
  if_neg (by simp [h])

theorem startWaiting_taken (hw : s.alloc.sweepWaiting = true) (hr : s.alloc.fastShed ≠ .running) :
    startWaiting s = startSweep s :=
  if_pos ⟨hw, hr⟩

@[simp] theorem startWaiting_tables (s : State) : (startWaiting s).tables = s.tables := by
  unfold startWaiting
  split <;> simp

/-- An activation raises COMMIT_DONE (R18). -/
theorem activate_done (b : Bool) (s : State) : noticeIn .commitDone (activate b s).notices.pendingSet = true := by
  have hcopy : noticeIn .commitDone (activateCopy s).notices.pendingSet = true := raise_joins _ _
  have hpads : (activatePads s.tables.active s.tables.shadow (activateCopy s)).notices = (activateCopy s).notices := by
    simp
  have hrest := noticed_activateRest s.tables.active s.tables.shadow s.pads
    (activatePads s.tables.active s.tables.shadow (activateCopy s))
  have hend := ((noticed_activateMarks (haltIfStopped s.tables.active s.tables.shadow
    (endCheckOf b (activateBanks s)))).before (s := activateBanks s) (by simp) (by simp))
  rw [activate_eq]
  exact hend.grows _ (hrest.grows _ (hpads ▸ hcopy))

/-- The check at a pass's end that finds nothing more to shed (R84). -/
theorem checkAtPassEnd_none (hn : s.needsShed = false) : checkAtPassEnd s =
    (s.withAlloc { s.alloc with fastShed := .none }).withPads (s.pads.map fun q =>
      { q with sent := if s.anyPending = false then max q.sent q.grant else q.sent }) := by
  have hpads : (increaseRelease (s.setFastShed .none)).pads = s.pads.map fun q =>
      { q with sent := if s.anyPending = false then max q.sent q.grant else q.sent } := by
    apply Vector.ext
    intro i hi
    rw [increaseRelease_pad (s := s.setFastShed .none) ⟨i, hi⟩, Vector.getElem_map]
    have hany : (s.setFastShed .none).anyPending = s.anyPending := rfl
    have hshed : (s.setFastShed .none).alloc.fastShed = .none := rfl
    simp only [hany, hshed, and_true]
    rfl
  unfold checkAtPassEnd
  rw [if_neg (by simp [hn]), increaseRelease_eq, hpads]
  rfl

end

/-- The snapshot that the start of a sweep takes, of the figures as they then stand (R59). -/
theorem startSweep_taken (s : State) : ∃ x : Snapshot,
    (startSweep s).alloc = { s.alloc with sweep := some x, sweepWaiting := false }
      ∧ x.bank = s.tables.active ∧ x.resolution = s.mode.resolution ∧ x.now = s.time.running
      ∧ (∀ g : GroupId, x.capacity[g] = s.groups[g].capacity)
      ∧ ∀ p : PadId, x.pads[p.val] = ((startSweep s).pads[p.val]).snap := by
  refine ⟨takeSnapshot ((deadlineWatch (s.mapPads fun _ q => q.countdown)).mapPads fun _ q =>
    { q with stayed := q.state.served }), ?_, ?_, ?_, ?_, fun g => ?_, fun p => ?_⟩
  all_goals simp [takeSnapshot, startSweep]

/-- Settles O27. -/
theorem passEndReleasesOrRepeats : Obligations.PassEndReleasesOrRepeats := by
  intro s hr
  have hexec := exec_event (c := .fastShedPassEnd) (s := s) rfl
  have hpass : eventOf .fastShedPassEnd s = passEnd s := rfl
  rw [hpass, passEnd_of_running hr] at hexec
  refine ⟨fun hc => ?_, fun hc hn => ?_, fun hc hn hw => ?_, fun hc hn hw => ?_⟩
  · rw [if_pos hc] at hexec
    refine ⟨_, hexec, by simp, by simp, (noticed_startWaiting _).grows _ (activate_done true s)⟩
  · have hstart : checkAtPassEnd s = startPass s := if_pos hn
    rw [if_neg hc, hstart, startWaiting_of_running (startPass_running s)] at hexec
    refine ⟨_, hexec, ?_, fun p => ?_, fun hk => ?_, by simp, by simp, by simp, by simp, by simp, by simp⟩
    · rw [driveOutputs_alloc, startPass_alloc_eq, ← hr]
    · rw [driveOutputs_pads]
      exact ⟨(startPass_fall s p).grant, startPass_sent_le p⟩
    · rw [driveOutputs_needsShed, driveOutputs_pads]
      exact ⟨startPass_settles hk, startPass_lowers hn (startPass_settles hk)⟩
  · rw [if_neg hc, checkAtPassEnd_none hn, startWaiting_of_none (by exact hw)] at hexec
    exact hexec
  · rw [if_neg hc, checkAtPassEnd_none hn, startWaiting_taken (by exact hw) (by simp)] at hexec
    generalize hu : (s.withAlloc { s.alloc with fastShed := .none }).withPads (s.pads.map fun q =>
      { q with sent := if s.anyPending = false then max q.sent q.grant else q.sent }) = u at hexec
    obtain ⟨x, halloc, hbank, -, hnow, -⟩ := startSweep_taken u
    refine ⟨_, x, hexec, ?_, ?_, ?_, fun p => ?_, ?_, ?_, ?_, ?_⟩
    · rw [driveOutputs_alloc, halloc, ← hu]
      rfl
    · rw [hbank, ← hu]
      rfl
    · rw [hnow, ← hu]
      rfl
    · simp only [driveOutputs_pads, Fin.getElem_fin, startSweep_get]
      rw [Pad.atSweepStart_eq, ← hu]
      simp only [State.withPads_pads, Vector.getElem_map]
      exact ⟨trivial, trivial, trivial⟩
    all_goals simp [← hu]

end Sys2Proof.Machine

/-! PROOFS. A headroom that turns STALE (R95) and the expiry of the round timer (R57, R59, R60, R121). -/

namespace Sys2Proof.Machine

/-! ## HEADROOM_TURNS_STALE (R95) -/

theorem recompute_groups (g : GroupId) (s : State) : (recompute g s).groups = (storeCapacity g s).groups := by
  unfold recompute
  split <;> simp

theorem turnStale_taken {g : GroupId} {s : State} (hfresh : s.groups[g].hstate = .fresh)
    (hold : 10 * s.site.holdTime < s.groups[g].age) : turnStale g s =
      recompute g (raise .headroomStale (s.updGroup g fun x => { x with hstate := .stale })) :=
  if_pos ⟨hfresh, hold⟩

/-- Settles O16. -/
theorem oldHeadroomTurnsStale : Obligations.OldHeadroomTurnsStale := by
  intro g s hfresh hold
  have hexec := exec_event (c := .headroomTurnsStale g) rfl s
  have hevent : eventOf (.headroomTurnsStale g) s = turnStale g s := rfl
  rw [hevent, turnStale_taken hfresh hold] at hexec
  generalize hu : raise .headroomStale (s.updGroup g fun x => { x with hstate := .stale }) = u at hexec
  have hgroups (h : GroupId) : u.groups[h.val] = if g = h then { s.groups[h.val] with hstate := .stale }
      else s.groups[h.val] := by
    rw [← hu, raise_groups, State.updGroup_get]
  have hrec : u.feederRec g = s.feederRec g := by rw [← hu]; simp [State.feederRec]
  have hthis : (recompute g u).groups[g.val] = { s.groups[g.val] with
      hstate := .stale, capacity := capacityOf (s.feederRec g) { s.groups[g.val] with hstate := .stale } } := by
    simp only [recompute_groups, storeCapacity_get, hgroups, hrec, if_true]
  have hnotices : (recompute g u).notices = u.notices := by simp
  refine ⟨_, hexec, ?_, ?_, ?_, ?_, ?_, fun hle => ?_, fun h hne => ?_, ?_, ?_, ?_⟩
  · exact congrArg Group.hstate hthis
  · exact (congrArg Group.headroom hthis).trans rfl
  · exact (congrArg Group.age hthis).trans rfl
  · exact congrArg Group.capacity hthis
  · rw [driveOutputs_notices, hnotices, ← hu]
    exact raise_joins _ _
  · have hle' : u.groups[g].capacity ≤ capacityOf (u.feederRec g) u.groups[g] := by
      simp only [driveOutputs_groups, Fin.getElem_fin, hthis] at hle
      simpa only [Fin.getElem_fin, hgroups, hrec, if_true] using hle
    rw [recompute_of_le hle', ← hu]
    simp
  · simp only [driveOutputs_groups, Fin.getElem_fin, recompute_groups, storeCapacity_get, hgroups, Ne.symm hne, if_false]
  all_goals simp [← hu]

/-! ## ROUND_TIMER_EXPIRY (R57) -/

/-- What the start of a sweep makes of a pad, figure by figure (R60, R121). -/
theorem Pad.atSweepStart_figures (now : Ticks) (q : Pad) : q.atSweepStart now =
    { q with
      roundsLeft := q.roundsLeft - 1
      reservation := if q.roundsLeft = 1 then 0 else q.reservation
      dispatch := q.dispatch.map fun d =>
        { d with missed := d.missed || (timeLeft d.deadline now == 0 && decide (0 < q.remaining)) }
      stayed := q.state.served } := by
  have hcountdown : q.countdown =
      { q with roundsLeft := q.roundsLeft - 1, reservation := if q.roundsLeft = 1 then 0 else q.reservation } := by
    unfold Pad.countdown
    split
    next h =>
      rw [if_neg (by omega), h, Nat.zero_sub, ← h]
    next h =>
      split
      next h1 => simp [h1]
      next => rfl
  unfold Pad.atSweepStart Pad.misses Pad.markMissed
  rw [hcountdown]
  cases hd : q.dispatch with
  | none => simp
  | some d =>
    obtain ⟨target, base, deadline, missed⟩ := d
    cases missed <;> cases ht : timeLeft deadline now == 0 && decide (0 < q.remaining) <;> simp [ht]

theorem Pad.countdown_misses (now : Ticks) (q : Pad) : q.countdown.misses now = q.misses now := by
  rw [Pad.countdown_eq]
  rfl

theorem Pad.misses_iff (now : Ticks) (q : Pad) : q.misses now = true ↔
    ∃ d : Dispatch, q.dispatch = some d ∧ d.missed = false ∧ timeLeft d.deadline now = 0 ∧ 0 < q.remaining := by
  unfold Pad.misses
  cases h : q.dispatch <;> simp [and_assoc]

/-- The notices of the start of a sweep: DEADLINE_MISSED where the watch marks a pad (R121). -/
theorem startSweep_notices (s : State) : ∃ t : State, t.notices = s.notices
    ∧ (startSweep s).notices = (raiseIf (allPads.any fun p => s.pads[p].misses s.time.running) .deadlineMissed t).notices := by
  have hmisses : (allPads.any fun p => ((s.mapPads fun _ q => q.countdown).pads[p]).misses s.time.running) =
      allPads.any fun p => s.pads[p].misses s.time.running := by
    simp [Pad.countdown_misses]
  refine ⟨(s.mapPads fun _ q => q.countdown).mapPads fun _ q =>
    if q.misses s.time.running then q.markMissed else q, rfl, ?_⟩
  rw [← hmisses]
  rfl

/-- Settles O25. -/
theorem expiryStartsTheSweep : Obligations.ExpiryStartsTheSweep := by
  intro s hengine htimer hsweep
  have hexec := exec_event (c := .roundTimerExpiry) rfl s
  have hevent : eventOf .roundTimerExpiry s =
      if s.alloc.fastShed = .running then (startTimer s).withAlloc { s.alloc with sweepWaiting := true }
      else startSweep (startTimer s) := if_pos ⟨hengine, htimer, by simp [hsweep]⟩
  rw [hevent] at hexec
  refine ⟨fun hr => ?_, fun hr => ?_⟩
  · rw [hexec, if_pos hr]
    rfl
  · rw [if_neg hr] at hexec
    obtain ⟨x, halloc, hbank, hres, hnow, hcap, hpads⟩ := startSweep_taken (startTimer s)
    have hpad (p : PadId) : (startSweep (startTimer s)).pads[p.val] = (s.pads[p.val]).atSweepStart s.time.running := by
      rw [startSweep_get]
      rfl
    obtain ⟨u, hu, hnotices⟩ := startSweep_notices (startTimer s)
    refine ⟨_, x, hexec, halloc, ?_, hbank, hres, hnow, hcap, fun p => ⟨?_, ?_⟩, ?_, ?_, ?_, ?_, ?_, ?_, ?_⟩
    · rw [driveOutputs_time, startSweep_time]
      rfl
    · exact (hpad p).trans (Pad.atSweepStart_figures _ _)
    · refine (hpads p).trans ?_
      simp only [driveOutputs_pads, Fin.getElem_fin, hpad, Pad.atSweepStart_figures, Pad.snap]
      cases (s.pads[p.val]).dispatch <;> rfl
    · rintro ⟨p, d, hd, hmissed, htime, hpos⟩
      have hmiss : (allPads.any fun p => (startTimer s).pads[p].misses (startTimer s).time.running) = true :=
        List.any_eq_true.mpr ⟨p, List.mem_finRange p, (Pad.misses_iff _ _).mpr ⟨d, hd, hmissed, htime, hpos⟩⟩
      rw [driveOutputs_notices, hnotices, hmiss]
      exact raise_joins _ _
    · simp
    · simp
    · simp
    · simp
    · rw [driveOutputs_notices, hnotices]
      unfold raiseIf
      split
      · rw [raise_notices, hu]
        rfl
      · rw [hu]
        rfl
    · exact (congrArg Fleet.rx (noticed_startSweep (startTimer s)).fleet).trans rfl

end Sys2Proof.Machine

/-! PROOFS. SET_MODE FULL and PARTIAL (R176, R177) and RESTART (R159, R179). -/

namespace Sys2Proof.Machine

/-! ## A scope applied (R177) -/

/-- The pads that a scope takes out, and holds a grant: each is lowered to 0 (R177). -/
def scopeTarget (x : Scope) (s : State) (p : PadId) : Option Nat :=
  if s.pads[p].inScope ∧ x.holds p = false ∧ 0 < s.pads[p].grant then some 0 else none

section
variable {s : State} {x : Scope}

theorem applyScope_eq (x : Scope) (s : State) : applyScope x s = decreaseMany (scopeTarget x s)
    ((s.withMode { s.mode with scope := x }).mapPads fun p q => { q with inScope := x.holds p }) := rfl

theorem Scope.holds_iff (x : Scope) (p : PadId) : x.holds p = true ↔
    x = .full ∨ ∃ first last : PadId, x = .range first last ∧ first.val ≤ p.val ∧ p.val ≤ last.val := by
  cases x with
  | full => exact ⟨fun _ => .inl rfl, fun _ => rfl⟩
  | range a b =>
    have hholds : (Scope.range a b).holds p = true ↔ a.val ≤ p.val ∧ p.val ≤ b.val := by
      rw [Scope.holds, Bool.and_eq_true, decide_eq_true_eq, decide_eq_true_eq]
      exact Iff.rfl
    rw [hholds]
    constructor
    · exact fun h => .inr ⟨a, b, rfl, h⟩
    · rintro (h | ⟨first, last, h, hle⟩)
      · cases h
      · cases h
        exact hle

/-- A pad that loses its mark with a grant (R177). -/
theorem applyScope_lost (p : PadId) (hin : (s.pads[p.val]).inScope = true) (hout : x.holds p = false)
    (hpos : 0 < (s.pads[p.val]).grant) :
    (applyScope x s).pads[p.val] = ({ s.pads[p.val] with inScope := false } : Pad).lower 0 := by
  have htarget : scopeTarget x s p = some 0 := if_pos ⟨hin, hout, hpos⟩
  rw [applyScope_eq, decreaseMany_get, htarget]
  simp [hout]

/-- Every other pad takes its mark alone. -/
theorem applyScope_other (p : PadId)
    (h : (s.pads[p.val]).inScope = false ∨ x.holds p = true ∨ (s.pads[p.val]).grant = 0) :
    (applyScope x s).pads[p.val] = { s.pads[p.val] with inScope := x.holds p } := by
  have htarget : scopeTarget x s p = none := by
    refine if_neg ?_
    rintro ⟨hin, hout, hpos⟩
    rcases h with h | h | h
    · exact absurd (h.symm.trans hin) (by simp)
    · exact absurd (h.symm.trans hout) (by simp)
    · exact absurd h (Nat.ne_of_gt hpos)
  rw [applyScope_eq, decreaseMany_get, htarget]
  simp

theorem applyScope_pad (p : PadId) :
    ({ s.pads[p.val] with inScope := x.holds p } : Pad).Fall (applyScope x s).pads[p.val] := by
  by_cases h : (s.pads[p.val]).inScope = true ∧ x.holds p = false ∧ 0 < (s.pads[p.val]).grant
  · obtain ⟨hin, hout, hpos⟩ := h
    rw [applyScope_lost p hin hout hpos, hout]
    exact Pad.fall_lower _ (Nat.zero_le _)
  · rw [applyScope_other p]
    · exact .refl _
    · by_contra hno
      simp only [not_or, Bool.not_eq_false, Bool.not_eq_true] at hno
      exact h ⟨hno.1, hno.2.1, Nat.pos_of_ne_zero hno.2.2⟩

theorem applyScope_line (x : Scope) (s : State) (l : LineId) : (applyScope x s).lines[l.val] =
    { s.lines[l.val] with urgent := (applyScope x s).lines[l.val].urgent } := by
  simp only [applyScope_eq, decreaseMany_line]
  rfl

/-- A pad that loses its mark with its setpoint sent goes out from the urgent list (R139, R177). -/
theorem applyScope_urgent (p : PadId) (hin : (s.pads[p.val]).inScope = true) (hout : x.holds p = false)
    (hpos : 0 < (s.pads[p.val]).grant) (hsent : 0 < (s.pads[p.val]).sent) :
    p ∈ (applyScope x s).lines[((s.padRec p).line).val].urgent := by
  rw [applyScope_eq, decreaseMany_line]
  by_cases hmem : p ∈ s.lines[((s.padRec p).line).val].urgent
  · exact List.mem_append_left _ hmem
  · refine List.mem_append_right _ (mem_joiningMany.mpr ⟨⟨0, if_pos ⟨hin, hout, hpos⟩, ?_⟩, rfl, hmem⟩)
    simpa using hsent

/-! ## SET_MODE FULL and PARTIAL (R176) -/

theorem setPartial_range {u v : Byte} (h : v.toNat < u.toNat ∨ 63 < u.toNat ∨ 63 < v.toNat) :
    setPartial u.toNat v.toNat s = refuse .range s := by
  unfold setPartial
  split
  · rw [if_neg (by omega)]
  · rfl

theorem setPartial_taken {p q : PadId} (h : p ≤ q) :
    setPartial (byte1 p.val).toNat (byte1 q.val).toNat s = setScope (.range p q) s := by
  simp only [byte1_pad]
  unfold setPartial
  exact (dif_pos ⟨p.isLt, q.isLt⟩).trans (if_pos h)

theorem setScope_held (h : s.alloc.sweep.isSome = true) :
    setScope x s = modeAnswer (s.withMode { s.mode with held := some x }) := by
  unfold setScope
  rw [if_pos h]

theorem setScope_same (h : s.alloc.sweep = none) (hx : s.mode.scope = x) : setScope x s = modeAnswer s := by
  unfold setScope
  rw [if_neg (by simp [h]), if_pos hx]

theorem setScope_applied (h : s.alloc.sweep = none) (hx : s.mode.scope ≠ x) :
    setScope x s = modeAnswer (fastShedCheck (applyScope x s)) := by
  unfold setScope
  rw [if_neg (by simp [h]), if_neg hx]

/-- What a scope applied with its check leaves of a pad. -/
theorem scoped_pad (p : PadId) :
    ({ s.pads[p.val] with inScope := x.holds p } : Pad).Fall (fastShedCheck (applyScope x s)).pads[p.val] :=
  (applyScope_pad p).trans ((calm_fastShedCheck _).others p (by simp))

theorem scoped_lost (p : PadId) (hin : (s.pads[p.val]).inScope = true) (hout : x.holds p = false)
    (hpos : 0 < (s.pads[p.val]).grant) : (fastShedCheck (applyScope x s)).pads[p.val] =
      ({ s.pads[p.val] with inScope := false } : Pad).lower 0 := by
  rw [fastShedCheck_spares p (by rw [applyScope_lost p hin hout hpos, Pad.lower_grant]), applyScope_lost p hin hout hpos]

/-- Between `s` and `r` a scope has been applied, with the fast-shed check after it (R177). -/
structure Scoped (x : Scope) (s r : State) : Prop where
  mode : r.mode = { s.mode with scope := x }
  freeCount : r.freeCount = s.freeCount + 1
  mark : ∀ p : PadId, (r.pads[p.val]).inScope = x.holds p
  pad : ∀ p : PadId, ({ s.pads[p.val] with inScope := x.holds p } : Pad).Fall r.pads[p.val]
  lost : ∀ p : PadId, (s.pads[p.val]).inScope = true → x.holds p = false → 0 < (s.pads[p.val]).grant →
    r.pads[p.val] = ({ s.pads[p.val] with inScope := false } : Pad).lower 0
      ∧ (0 < (s.pads[p.val]).sent → p ∈ r.lines[((s.padRec p).line).val].urgent)
  other : s.alloc.fastShed ≠ .pending → r.alloc.fastShed = s.alloc.fastShed → ∀ p : PadId,
    (s.pads[p.val]).inScope = false ∨ x.holds p = true → r.pads[p.val] = { s.pads[p.val] with inScope := x.holds p }
  within : r.alloc.fastShed = .none → r.needsShed = false
  alloc : r.alloc = { s.alloc with fastShed := r.alloc.fastShed }
  groups : r.groups = s.groups
  line : ∀ l : LineId, r.lines[l.val] = { s.lines[l.val] with urgent := r.lines[l.val].urgent }
  tables : r.tables = s.tables
  time : r.time = s.time
  notices : r.notices = s.notices
  fleet : r.fleet = s.fleet
  signals : r.signals = s.signals

theorem applyScope_scoped (x : Scope) (s : State) (hs : s.alloc.sweep = none) :
    Scoped x s (fastShedCheck (applyScope x s)) where
  mode := by simp [applyScope_eq]
  freeCount := by
    rw [fastShedCheck_freeCount]
    rfl
  mark p := by rw [(scoped_pad p).rest]
  pad := scoped_pad
  lost p hin hout hpos := ⟨scoped_lost p hin hout hpos, fun hsent =>
    ((calm_fastShedCheck _).grows _).subset (applyScope_urgent p hin hout hpos hsent)⟩
  other hp hsame p hstays := by
    have halloc : (applyScope x s).alloc = s.alloc := applyScope_alloc s x
    rw [fastShedCheck_of_same (by rw [halloc, hs]) (by rw [halloc]; exact hp) (by rw [halloc]; exact hsame)]
    exact applyScope_other p (hstays.imp_right .inl)
  within := (withinLimits_iff _).mp (withinLimits_fastShedCheck _)
  alloc := by rw [(calm_fastShedCheck _).alloc, applyScope_alloc]
  groups := by simp
  line l := by
    have hl := (calm_fastShedCheck (applyScope x s)).lines l
    simp only [Fin.getElem_fin] at hl
    rw [hl, applyScope_line]
  tables := by simp
  time := by simp
  notices := by simp
  fleet := by simp
  signals := by simp

end

/-- Settles O38. -/
theorem scopeIsHeldOrApplied : Obligations.ScopeIsHeldOrApplied := by
  refine ⟨fun tag u v rest s ht h => ?_, fun tag a b rest s c x hcase => ?_, fun n y first last => ⟨rfl, rfl, rfl, rfl⟩,
    rfl, rfl⟩
  · rw [exec_next (c := .setModePartial tag [5, u, v]) (f := ⟨0x18, tag, _⟩) rfl ht]
    have hrequest : setModeRequest [5, u, v] (s.taking rest) = setPartial u.toNat v.toNat (s.taking rest) := rfl
    simp only [ownerOf, hrequest, setPartial_range h, delivered_refused]
    rfl
  · have hexec : exec c s = .next (driveOutputs ((setScope x (s.taking rest)).delivered 0x18 tag)) := by
      rcases hcase with ⟨rfl, rfl, ht⟩ | ⟨rfl, ht, p, q, hpq, rfl, rfl, rfl⟩
      · exact exec_next (c := .setModeFull tag [4, a, b]) (f := ⟨0x18, tag, _⟩) rfl ht
      · rw [exec_next (c := .setModePartial tag [5, byte1 p.val, byte1 q.val]) (f := ⟨0x18, tag, _⟩) rfl ht]
        have hrequest : setModeRequest [5, byte1 p.val, byte1 q.val] (s.taking rest) =
            setPartial (byte1 p.val).toNat (byte1 q.val).toNat (s.taking rest) := rfl
        simp only [ownerOf, hrequest, setPartial_taken hpq]
    intro modes scope held
    have hscope : scopeBytes = scope := rfl
    have hheld : heldBytes = held := by
      funext n o
      cases o <;> rfl
    refine ⟨fun hs => ?_, fun hs hx => ?_, fun hs hx => ?_⟩
    · rw [hexec, setScope_held (s := s.taking rest) hs, ← hscope, ← hheld]
      rfl
    · rw [hexec, setScope_same (s := s.taking rest) hs hx, ← hscope, ← hheld]
      rfl
    · rw [setScope_applied (s := s.taking rest) hs hx, modeAnswer, delivered_accept] at hexec
      have happly := applyScope_scoped x (s.taking rest) hs
      generalize fastShedCheck (applyScope x (s.taking rest)) = r at hexec happly
      refine ⟨_, hexec, happly.mode, ?_, congrArg (· + 4) happly.freeCount, fun p => ⟨?_, ?_, (happly.pad p).grant,
        fun hin hout => ⟨?_, fun hpos => ?_⟩, fun hp hsame hstays => ?_⟩, happly.within, happly.alloc, happly.groups,
        fun l => happly.line l, happly.tables, happly.time, happly.notices, ?_⟩
      · simp only [driveOutputs_fleet, happly.mode, happly.freeCount, hscope, hheld]
        exact congrArg (fun f : Fleet => ({ f with tx := f.tx ++ _ } : Fleet)) happly.fleet
      · rw [← Scope.holds_iff, ← happly.mark p]
        rfl
      · have hrest := (happly.pad p).rest
        rw [← happly.mark p] at hrest
        exact hrest
      · have hle := (happly.pad p).grant
        rcases Nat.eq_zero_or_pos (s.pads[p.val]).grant with hzero | hpos
        · exact Nat.le_zero.mp (hle.trans hzero.le)
        · have hlost := (happly.lost p hin ((happly.mark p).symm.trans hout) hpos).1
          exact (congrArg Pad.grant hlost).trans (Pad.lower_grant _ _)
      · obtain ⟨hlost, hurgent⟩ := happly.lost p hin ((happly.mark p).symm.trans hout) hpos
        have hstate (y : SessionState) : (if 0 = 0 ∧ y.served = true then .waiting else y) =
            if y = .charging then SessionState.waiting else y := by cases y <;> rfl
        rw [Pad.lower_eq] at hlost
        refine ⟨(congrArg Pad.state hlost).trans (hstate _), (congrArg Pad.sent hlost).trans (Nat.zero_min _),
          fun hsent => ⟨(congrArg Pad.decPending hlost).trans ?_, (congrArg Pad.prior hlost).trans ?_, hurgent hsent⟩⟩
        · exact (congrArg (_ || ·) (decide_eq_true hsent)).trans (Bool.or_true _)
        · exact if_pos hsent
      · have hother := happly.other hp hsame p (hstays.imp_right fun h => (happly.mark p).symm.trans h)
        rw [← happly.mark p] at hother
        exact hother
      · exact congrArg (fun y : Signals => ({ y with outputs := _ } : Signals)) happly.signals

end Sys2Proof.Machine

/-! PROOFS. RESTART (R159, R179) and the notices that it raises (R185). -/

namespace Sys2Proof.Machine

/-! ## A kind raised (R158, R185) -/

theorem callNotice_eq (s : State) : callNotice s = s.withFleet
    { s.fleet with tx := s.fleet.tx ++ (if TxItem.notice ∉ s.fleet.tx then [.notice] else []) } := by
  have hwaiting := noticeWaiting_eq s.fleet
  unfold callNotice
  by_cases hw : TxItem.notice ∈ s.fleet.tx
  · rw [if_pos (by simp [hwaiting, hw]), if_neg (by simp [hw]), List.append_nil]
    rfl
  · rw [if_neg (by simp [hwaiting, hw]), if_pos hw]

theorem raise_of_pending {k : Notice} {s : State} (h : s.notices.pendingSet.getLsbD k.number = true) :
    raise k s = s :=
  if_pos h

/-- The NOTICE that a kind newly pending calls for: none while the kind is masked or a NOTICE waits. -/
theorem raise_new {k : Notice} {s : State} (h : s.notices.pendingSet.getLsbD k.number = false) :
    raise k s = (s.withNotices { s.notices with pendingSet := s.notices.pendingSet ||| 1#11 <<< k.number }).withFleet
      { s.fleet with
        tx := s.fleet.tx ++
          (if s.notices.mask.getLsbD k.number = false ∧ TxItem.notice ∉ s.fleet.tx then [.notice] else []) } := by
  have hunset : ¬ noticeIn k s.notices.pendingSet = true := by simp [noticeIn, h]
  refine (if_neg hunset).trans ?_
  by_cases hmask : s.notices.mask.getLsbD k.number = true
  · refine (if_pos hmask).trans ?_
    rw [if_neg (by simp [hmask]), List.append_nil]
    rfl
  · refine (if_neg hmask).trans ?_
    rw [callNotice_eq]
    simp only [show (s.notices.mask.getLsbD k.number = false) = True by simpa using hmask, true_and]
    rfl

/-! ## RESTART (R159, R179) -/

theorem LineCtl.askBreak_idle {c : LineCtl} (hflight : c.inFlight = none) (hbreaking : c.breaking = false)
    (hbusy : c.busy = false) : c.askBreak = { c with breaking := true, breakPending := false } :=
  if_pos ⟨rfl, hflight, hbreaking, hbusy⟩

theorem LineCtl.askBreak_waits {c : LineCtl}
    (h : c.inFlight ≠ none ∨ c.breaking = true ∨ c.busy = true) : c.askBreak = { c with breakPending := true } := by
  refine if_neg ?_
  rintro ⟨-, hflight, hbreaking, hbusy⟩
  rcases h with h | h | h
  · exact h hflight
  · exact absurd (hbreaking.symm.trans h) (by simp)
  · exact absurd (hbusy.symm.trans h) (by simp)

theorem reformAll_group (s : State) (g : GroupId) : (reformAll s).groups[g.val] =
    { s.groups[g.val] with
      shedInput := s.shedInputNow g
      capacity := capacityOf (s.feederRec g) { s.groups[g.val] with shedInput := s.shedInputNow g } } := by
  simp [reformAll, storeAllCapacities, reformStop, reformAllSheds]
  rfl

section
variable (s : State)

theorem restartedInputs_latch (i : InputId) : (restartedInputs s).signals.latch[i.val] = false := by
  simp [restartedInputs]

theorem restartedBlocks_signals : (restartedBlocks s).signals = s.signals := by
  simp [restartedBlocks, restartPorts, restartBlocks, restartTables]

theorem restartedInputs_taken : (restartedInputs s).signals.taken = s.signals.taken := by
  simp [restartedInputs, restartedBlocks_signals]

theorem restartedInputs_level : (restartedInputs s).signals.level = s.signals.level := by
  simp [restartedInputs, restartedBlocks_signals]

theorem restartedBlocks_fleet : (restartedBlocks s).fleet = { s.fleet with
    tx := s.fleet.tx.filter fun x => !x.isNotice, corrupt := 0, dropped := 0, restartWaiting := false } := by
  simp [restartedBlocks, restartPorts, restartBlocks, restartTables]

theorem restartedInputs_group (g : GroupId) : (restartedInputs s).groups[g.val] =
    { s.groups[g.val] with headroom := 0, age := 0, hstate := .none, vstate := .normal } := by
  simp [restartedInputs, restartedBlocks, restartPorts, restartBlocks, restartTables]

/-- Without a latch the stop latch is clear (R168). -/
theorem stopLatchNow_of_no_latch {s : State} (h : ∀ i : InputId, s.signals.latch[i.val] = false) :
    s.stopLatchNow = false := by
  simp [State.stopLatchNow, h]

/-- No grant is left at a RESTART, so the fast-shed check finds nothing to shed. -/
theorem restartEffect_settled : restartEffect s = reformAll (restartedInputs s) := by
  have halloc : (reformAll (restartedInputs s)).alloc = _ := (reformAll_alloc _).trans (restartedInputs_alloc s)
  have hneeds : (reformAll (restartedInputs s)).needsShed = false := by
    refine needsShed_of_no_grant fun p => ?_
    simp only [Fin.getElem_fin, reformAll_pads, restartedInputs_pad]
    rfl
  rw [restartEffect_eq, fastShedCheck_none (by rw [halloc]; decide) hneeds, if_neg (by rw [halloc]; decide)]

/-- A level-sensed input with a function stands at its active level. -/
def LevelStands (s : State) : Prop := ∃ i : InputId, (s.inputRec i).function ≠ .none
  ∧ (((s.inputRec i).sense = .levelHigh ∧ s.signals.taken[i] = true)
    ∨ ((s.inputRec i).sense = .levelLow ∧ s.signals.taken[i] = false))

theorem entersLevel_any : (allInputs.any s.entersLevel) = true ↔ LevelStands s := by
  simp only [List.any_eq_true, entersLevel_iff, LevelStands]
  exact ⟨fun ⟨i, _, h⟩ => ⟨i, h⟩, fun ⟨i, h⟩ => ⟨i, List.mem_finRange i, h⟩⟩

/-- The signal lines at a RESTART, before the levels that stand are looked at. -/
def restartedLatches (s : State) : State :=
  (restartedBlocks s).withSignals { s.signals with latch := tabulate 8 fun _ => false }

/-- The levels that a RESTART looks at are those taken before it (R198). -/
theorem restartedInputs_raises :
    restartedInputs s = raiseIf (allInputs.any s.entersLevel) .inputEvent (restartedLatches s) := by
  have henters : (restartedLatches s).entersLevel = s.entersLevel := by
    funext i
    have hrec : (restartedLatches s).inputRec i = s.inputRec i := by
      simp [State.inputRec, restartedLatches, restartedBlocks, restartPorts, restartBlocks, restartTables]
    rw [Bool.eq_iff_iff, entersLevel_iff, entersLevel_iff, hrec]
    exact Iff.rfl
  have hlatches : (restartedBlocks s).withSignals
      { (restartedBlocks s).signals with latch := tabulate 8 fun _ => false } = restartedLatches s := by
    rw [restartedBlocks_signals]
    rfl
  unfold restartedInputs
  dsimp only
  rw [hlatches, henters]

theorem restartedLatches_notices : (restartedLatches s).notices =
    { captures := [], nextSeq := 0, overflow := false, overflowCount := 0, pendingSet := 0, mask := 0 } := rfl

theorem restartedLatches_fleet : (restartedLatches s).fleet = { s.fleet with
    tx := s.fleet.tx.filter fun x => !x.isNotice, corrupt := 0, dropped := 0, restartWaiting := false } :=
  restartedBlocks_fleet s

/-- With no level that stands nothing is raised. -/
theorem restartedInputs_of_none {s : State} (h : ¬ LevelStands s) : restartedInputs s = restartedLatches s := by
  rw [restartedInputs_raises, raiseIf, if_neg fun hany => h ((entersLevel_any s).mp hany)]

/-- A level that stands raises INPUT_EVENT, and a NOTICE is called for (R190, R198). -/
theorem restartedInputs_of_level {s : State} (h : LevelStands s) : restartedInputs s =
    ((restartedLatches s).withNotices { (restartedLatches s).notices with pendingSet := 0x100#11 }).withFleet
      { (restartedLatches s).fleet with tx := (restartedLatches s).fleet.tx ++ [.notice] } := by
  have hnone : TxItem.notice ∉ (restartedLatches s).fleet.tx := by
    rw [restartedLatches_fleet]
    simp [TxItem.isNotice]
  rw [restartedInputs_raises, raiseIf, if_pos ((entersLevel_any s).mpr h),
    raise_new (by rw [restartedLatches_notices]; rfl), if_pos ⟨by rw [restartedLatches_notices]; rfl, hnone⟩,
    restartedLatches_notices]
  rfl

theorem restartedInputs_notices : (restartedInputs s).notices =
    { captures := [], nextSeq := 0, overflow := false, overflowCount := 0
      pendingSet := (restartedInputs s).notices.pendingSet, mask := 0 } := by
  by_cases h : LevelStands s
  · rw [restartedInputs_of_level h]
    rfl
  · rw [restartedInputs_of_none h]
    rfl

theorem restartedInputs_fleet : (restartedInputs s).fleet = { s.fleet with
    tx := (restartedInputs s).fleet.tx, corrupt := 0, dropped := 0, restartWaiting := false } := by
  by_cases h : LevelStands s
  · rw [restartedInputs_of_level h, State.withFleet_fleet, restartedLatches_fleet]
  · rw [restartedInputs_of_none h, restartedLatches_fleet]

end

/-- Settles O39. -/
theorem restartTakesEffectAtItsResponsesEnd : Obligations.RestartTakesEffectAtItsResponsesEnd := by
  refine ⟨fun tag rest s ht => ?_, fun f s hf hr => ?_, fun f => ?_, fun tag s hs => ?_⟩
  · rw [exec_next (c := .restart tag []) (f := ⟨0x19, tag, _⟩) rfl ht]
    rfl
  · have hexec := exec_event (c := .frameTransmitEnd) rfl s
    have hevent : eventOf .frameTransmitEnd s = s.withFleet { s.fleet with sending := none } := by
      simp only [eventOf, transmitEnd, hf, hr] <;> rfl
    rw [hexec, hevent]
  · rw [TxFrame.isRestart, Bool.and_eq_true, beq_iff_eq, beq_iff_eq]
    exact Iff.rfl
  · intro level
    have hexec := exec_event (c := .frameTransmitEnd) rfl s
    have hevent : eventOf .frameTransmitEnd s = restartEffect (s.withFleet { s.fleet with sending := none }) := by
      simp only [eventOf, transmitEnd, hs] <;> rfl
    rw [hevent, restartEffect_settled] at hexec
    have hstands : LevelStands (s.withFleet { s.fleet with sending := none }) ↔ level := Iff.rfl
    have hmode := reformAll_mode (restartedInputs (s.withFleet { s.fleet with sending := none }))
    have hlatch := restartedInputs_latch (s.withFleet { s.fleet with sending := none })
    have hgroup (g : GroupId) := reformAll_group (restartedInputs (s.withFleet { s.fleet with sending := none })) g
    have hline (l : LineId) : (reformAll (restartedInputs (s.withFleet { s.fleet with sending := none }))).lines[l] =
        ({ s.lines[l.val] with discovery := false } : LineCtl).askBreak.restarted := by
      simp only [Fin.getElem_fin, reformAll_lines, restartedInputs_line]
      rfl
    simp only [restartedInputs_group] at hgroup
    obtain ⟨hfresh, hfollowed, -⟩ := reformAll_fresh (restartedInputs (s.withFleet { s.fleet with sending := none }))
    have hfeeder (g : GroupId) :
        (reformAll (restartedInputs (s.withFleet { s.fleet with sending := none }))).feederRec g = s.feederRec g := by
      simp [State.feederRec, restartedInputs_tables]
    refine ⟨_, hexec, ?_, ?_, fun p => ?_, ?_, fun g => ⟨?_, ?_, ?_, ?_, ?_, ?_⟩, fun l => ⟨?_, fun hidle => ?_,
      fun hbusy => ?_⟩, ?_, ?_, ?_, fun hl => ?_, fun hl => ?_, ?_, ?_, fun i => ?_⟩
    · rw [driveOutputs_time, reformAll_time, restartedInputs_time]
      rfl
    · rw [driveOutputs_tables, reformAll_tables, restartedInputs_tables]
      rfl
    · rw [driveOutputs_pads, reformAll_pads]
      exact restartedInputs_pad _ p
    · rw [driveOutputs_alloc, reformAll_alloc, restartedInputs_alloc]
    · exact congrArg Group.headroom (hgroup g)
    · exact congrArg Group.age (hgroup g)
    · exact congrArg Group.hstate (hgroup g)
    · exact congrArg Group.vstate (hgroup g)
    · exact hfollowed g
    · exact (hfresh g).trans (by rw [hfeeder g]; rfl)
    · rw [driveOutputs_lines, hline, LineCtl.askBreak, LineCtl.startBreak_eq]
      rfl
    · obtain ⟨hflight, hbreaking, hbusy⟩ := hidle
      have hbreak := LineCtl.askBreak_idle (c := { s.lines[l.val] with discovery := false }) hflight hbreaking hbusy
      rw [driveOutputs_lines, hline, hbreak]
      exact ⟨rfl, rfl⟩
    · have hbreak := LineCtl.askBreak_waits (c := { s.lines[l.val] with discovery := false }) hbusy
      rw [driveOutputs_lines, hline, hbreak]
      exact ⟨rfl, rfl⟩
    · rw [driveOutputs_mode, hmode, stopLatchNow_of_no_latch fun i => (by rw [reformAll_signals]; exact hlatch i),
        restartedInputs_mode]
    · rw [driveOutputs_fleet, reformAll_fleet, restartedInputs_fleet]
      rfl
    · rw [driveOutputs_notices, reformAll_notices, restartedInputs_notices]
    · rw [driveOutputs_notices, reformAll_notices, driveOutputs_fleet, reformAll_fleet,
        restartedInputs_of_level (hstands.mpr hl), State.withFleet_fleet, restartedLatches_fleet]
      exact ⟨rfl, rfl⟩
    · rw [driveOutputs_notices, reformAll_notices, driveOutputs_fleet, reformAll_fleet,
        restartedInputs_of_none (hstands.not.mpr hl), restartedLatches_fleet]
      exact ⟨rfl, rfl⟩
    · rw [driveOutputs_taken, reformAll_signals, restartedInputs_taken]
      rfl
    · rw [driveOutputs_level, reformAll_signals, restartedInputs_level]
      rfl
    · rw [driveOutputs_latch, reformAll_signals]
      exact hlatch i

end Sys2Proof.Machine

/-! PROOFS. The fleet line: the receiver byte by byte, the head frame sent, and its characters (R148 to R158). -/

namespace Sys2Proof.Machine

/-! ## The receiver (R149 to R152) -/

section
variable {s : State}

theorem setReceiver_of_same {r : Receiver} (h : s.fleet.receiver = r) : s.setReceiver r = s := by
  subst h
  rfl

theorem frameEnds_setReceiver (got : List RxByte) (r : Receiver) : frameEnds got (s.setReceiver r) = frameEnds got s :=
  rfl

/-- A start byte begins a frame (R149). -/
theorem receiveBytes_start {junk bs : List RxByte} {a5 : RxByte} (h : s.fleet.receiver = .hunt)
    (ha : a5.data = 0xA5) (hf : a5.framing = false) (hjunk : ∀ b : RxByte, b ∈ junk → b.data ≠ 0xA5 ∨ b.framing = true) :
    receiveBytes (junk ++ [a5] ++ bs) s = receiveBytes bs (s.setReceiver (.frame [])) := by
  rw [receiveBytes_append, receiveBytes_append, receiveBytes_ignored s junk h hjunk, receiveBytes_cons,
    receiveBytes_nil, receiveByte_hunt s a5 h, if_pos ⟨ha, hf⟩]

theorem frameByte_short {b : RxByte} {bs : List RxByte} (hn : b.data.toNat ≤ 240)
    (hl : (b :: bs).length < b.data.toNat + 5) : frameByte (b :: bs) s = s.setReceiver (.frame (b :: bs)) := by
  have hlow : ¬ Config.bodyLimit < b.data.toNat := Nat.not_lt.mpr hn
  exact (if_neg hlow).trans (if_neg (Nat.ne_of_lt hl))

theorem frameByte_end {b : RxByte} {bs : List RxByte} (hn : b.data.toNat ≤ 240)
    (hl : (b :: bs).length = b.data.toNat + 5) : frameByte (b :: bs) s = frameEnds (b :: bs) s := by
  have hlow : ¬ Config.bodyLimit < b.data.toNat := Nat.not_lt.mpr hn
  exact (if_neg hlow).trans (if_pos hl)

theorem frameByte_long {b : RxByte} {bs : List RxByte} (hn : 240 < b.data.toNat) :
    frameByte (b :: bs) s = discardFrame s :=
  if_pos (show Config.bodyLimit < b.data.toNat from hn)

/-- Bytes short of the end that the first of them gives gather in the receiver (R149). -/
theorem receiveBytes_short {b : RxByte} {bs : List RxByte} (h : s.fleet.receiver = .frame []) (hn : b.data.toNat ≤ 240)
    (hl : (b :: bs).length < b.data.toNat + 5) :
    receiveBytes (b :: bs) s = s.setReceiver (.frame (b :: bs)) := by
  have hfirst : receiveByte s b = s.setReceiver (.frame [b]) := by
    rw [receiveByte_frame s b [] h]
    exact frameByte_short hn (by simp)
  rw [receiveBytes_cons, hfirst,
    receiveBytes_gather (s.setReceiver (.frame [b])) bs [] b rfl hn (by simp at hl ⊢; omega)]
  rfl

/-- The byte that the length gives ends the frame (R149, R150). -/
theorem receiveBytes_end {b : RxByte} {bs : List RxByte} (h : s.fleet.receiver = .frame []) (hn : b.data.toNat ≤ 240)
    (hl : (b :: bs).length = b.data.toNat + 5) : receiveBytes (b :: bs) s = frameEnds (b :: bs) s := by
  obtain ⟨front, last, rfl⟩ : ∃ front last, bs = front ++ [last] := by
    rcases List.eq_nil_or_concat bs with rfl | ⟨front, last, rfl⟩
    · simp at hl
    · exact ⟨front, last, by simp⟩
  have hshort : (b :: front).length < b.data.toNat + 5 := by simp at hl ⊢; omega
  rw [← List.cons_append, receiveBytes_append, receiveBytes_short h hn hshort, receiveBytes_cons, receiveBytes_nil,
    receiveByte_frame _ last (b :: front) rfl, List.cons_append, frameByte_end hn hl, frameEnds_setReceiver]

end

/-! ### The bytes of a frame that has ended (R148, R150) -/

theorem frameGood_iff {front check : List RxByte} (hlen : check.length = 2) :
    frameGood (front ++ check) = true ↔ (∀ b ∈ front ++ check, b.framing = false)
      ∧ check.map RxByte.data = crcBytes (crc (front.map RxByte.data)) := by
  have hcut : (front.map RxByte.data ++ check.map RxByte.data).length - 2 = (front.map RxByte.data).length := by
    simp [hlen]
  simp only [frameGood, List.map_append, hcut, List.take_left', List.drop_left', Bool.and_eq_true, beq_iff_eq,
    Bool.not_eq_true', List.any_eq_false, Bool.not_eq_true]
  exact and_congr_right fun _ => eq_comm

theorem frameOf_append {head body check : List RxByte} (hhead : head.length = 3) (hcheck : check.length = 2) :
    frameOf (head ++ body ++ check) =
      ⟨byteAt ((head ++ body).map RxByte.data) 1, byteAt ((head ++ body).map RxByte.data) 2,
        ((head ++ body).map RxByte.data).drop 3⟩ := by
  obtain ⟨a, b, c, rfl⟩ := List.length_eq_three.mp hhead
  simp [frameOf, byteAt, hcheck]

/-- A frame between its start byte and the byte that its length gives (R149, R150). -/
theorem receiveBytes_frame {s : State} {head body check : List RxByte} {d : List Byte} (h : s.fleet.receiver = .frame [])
    (hhead : head.length = 3) (hbody : body.length ≤ 240) (hcheck : check.length = 2)
    (hd : d = (head ++ body).map RxByte.data) (h0 : byteAt d 0 = byte1 body.length) :
    receiveBytes (head ++ body ++ check) s = frameEnds (head ++ body ++ check) s := by
  obtain ⟨b, b1, b2, rfl⟩ := List.length_eq_three.mp hhead
  have hn : b.data.toNat = body.length := by
    have hb : b.data = byte1 body.length := by rw [← h0, hd] <;> rfl
    rw [hb, byte1_toNat (by omega)]
  exact receiveBytes_end h (by omega) (by simp [hcheck]; omega)

theorem joinQueue_room {f : RxFrame} {s : State} (h : s.fleet.rx.length < 4) :
    joinQueue f s = s.withFleet { s.fleet with rx := s.fleet.rx ++ [f] } :=
  if_pos h

theorem joinQueue_full {f : RxFrame} {s : State} (h : 4 ≤ s.fleet.rx.length) : joinQueue f s =
    raise .requestDropped (s.withFleet { s.fleet with dropped := satInc 65535 s.fleet.dropped }) :=
  if_neg (Nat.not_lt.mpr h)

/-- A good frame at a full queue is dropped, counted and noticed (R152). -/
theorem joinQueue_dropped {f : RxFrame} {s : State} (h : 4 ≤ s.fleet.rx.length) : joinQueue f s =
    (s.withNotices { s.notices with pendingSet := s.notices.pendingSet ||| 0x400#11 }).withFleet
      { s.fleet with
        dropped := satInc 65535 s.fleet.dropped
        tx := s.fleet.tx ++
          (if s.notices.pendingSet.getLsbD 10 = false ∧ s.notices.mask.getLsbD 10 = false
              ∧ TxItem.notice ∉ s.fleet.tx then [.notice] else []) } := by
  rw [joinQueue_full h]
  cases hset : s.notices.pendingSet.getLsbD 10 with
  | true =>
    have hkept : s.notices.pendingSet ||| 0x400#11 = s.notices.pendingSet := by
      ext i hi
      rw [BitVec.getElem_or, ← BitVec.getLsbD_eq_getElem]
      by_cases h10 : i = 10
      · subst h10
        rw [hset, Bool.true_or]
      · have hbit : (0x400#11)[i] = false := by revert hi h10; decide +revert
        rw [hbit, Bool.or_false]
    rw [raise_of_pending hset, if_neg (by simp), List.append_nil, hkept]
    rfl
  | false =>
    rw [raise_new hset]
    simp only [true_and]
    rfl

/-! ### The outputs are not looked at -/

theorem driveOutputs_withOutputs (s : State) (o : Vector Bool 8) :
    driveOutputs (s.withSignals { s.signals with outputs := o }) = driveOutputs s := rfl

theorem raise_withSignals (k : Notice) (s : State) (g : Signals) :
    raise k (s.withSignals g) = (raise k s).withSignals g := by
  cases h : s.notices.pendingSet.getLsbD k.number with
  | true => rw [raise_of_pending h, raise_of_pending (s := s.withSignals g) h]
  | false =>
    rw [raise_new h, raise_new (s := s.withSignals g) h]
    rfl

theorem joinQueue_withSignals (f : RxFrame) (s : State) (g : Signals) :
    joinQueue f (s.withSignals g) = (joinQueue f s).withSignals g := by
  rcases Nat.lt_or_ge s.fleet.rx.length 4 with h | h
  · rw [joinQueue_room h, joinQueue_room (s := s.withSignals g) h]
    rfl
  · rw [joinQueue_full h, joinQueue_full (s := s.withSignals g) h, ← raise_withSignals]
    rfl

theorem frameEnds_withSignals (got : List RxByte) (s : State) (g : Signals) :
    frameEnds got (s.withSignals g) = (frameEnds got s).withSignals g := by
  unfold frameEnds
  split
  · exact joinQueue_withSignals (frameOf got) (s.setReceiver .hunt) g
  · rfl

theorem receiveByte_withSignals (s : State) (g : Signals) (b : RxByte) :
    receiveByte (s.withSignals g) b = (receiveByte s b).withSignals g := by
  cases h : s.fleet.receiver with
  | hunt =>
    rw [receiveByte_hunt s b h, receiveByte_hunt (s.withSignals g) b h]
    split <;> rfl
  | frame got =>
    rw [receiveByte_frame s b got h, receiveByte_frame (s.withSignals g) b got h]
    unfold frameByte
    dsimp only
    split
    · rfl
    · split
      · exact frameEnds_withSignals ..
      · rfl

theorem receiveBytes_withSignals (bytes : List RxByte) (s : State) (g : Signals) :
    receiveBytes bytes (s.withSignals g) = (receiveBytes bytes s).withSignals g := by
  induction bytes generalizing s with
  | nil => rfl
  | cons b bs ih => rw [receiveBytes_cons, receiveByte_withSignals, ih, receiveBytes_cons]

theorem driveOutputs_receiveBytes (bytes : List RxByte) (s : State) :
    driveOutputs (receiveBytes bytes (driveOutputs s)) = driveOutputs (receiveBytes bytes s) := by
  unfold driveOutputs
  rw [receiveBytes_withSignals]
  have hsignals : (receiveBytes bytes s).signals = s.signals := receiveBytes_signals s bytes
  rw [← hsignals]
  rfl

/-! ## The characters of the fleet line (R148) -/

theorem fleetChar_start (b : Byte) : (fleetChar b).getLsbD 0 = false := by
  rw [fleetChar, BitVec.getLsbD_append, if_pos (by decide)]
  rfl

theorem fleetChar_stop (b : Byte) : (fleetChar b).getLsbD 9 = true := by
  rw [fleetChar, BitVec.getLsbD_append, if_neg (by decide), BitVec.getLsbD_append, if_neg (by decide)]
  rfl

theorem fleetChar_data (b : Byte) {i : Nat} (h : i < 8) : (fleetChar b).getLsbD (i + 1) = b.getLsbD i := by
  simp only [fleetChar, BitVec.getLsbD_append]
  rw [if_neg (by omega), if_pos (by omega), Nat.add_sub_cancel]

theorem rxByte_data_bit (x : RxByte) {i : Nat} (h : i < 8) : x.data.getLsbD i = x.bits.getLsbD (i + 1) := by
  simp [RxByte.data, h, Nat.add_comm]

/-! ## The transmitter (R157, R158) -/

section
variable {s : State} {rest : List TxItem}

theorem transmitStart_response (h : s.fleet.sending = none) {f : TxFrame} (htx : s.fleet.tx = .response f :: rest) :
    transmitStart s = s.withFleet { s.fleet with tx := rest, sending := some f } := by
  simp only [transmitStart, h, htx] <;> rfl

theorem transmitStart_notice (h : s.fleet.sending = none) (htx : s.fleet.tx = .notice :: rest)
    (hset : s.notices.unmasked ≠ 0) : transmitStart s =
      s.withFleet { s.fleet with
        tx := rest, sending := some { kind := kindNotice, tag := 0, body := noticeBytes s.notices.unmasked } } := by
  simp only [transmitStart, h, htx, hset] <;> rfl

theorem transmitStart_empty (h : s.fleet.sending = none) (htx : s.fleet.tx = .notice :: rest)
    (hset : s.notices.unmasked = 0) : transmitStart s = s.withFleet { s.fleet with tx := rest } := by
  simp only [transmitStart, h, htx, hset] <;> rfl

end

/-- Settles O40. -/
theorem fleetFramesComeAndGo : Obligations.FleetFramesComeAndGo := by
  have hreceived (s : State) (a b c d e : List RxByte) : exec (.fleetFrameReceived a b c d e) s =
      .next (driveOutputs (receiveBytes (a ++ b ++ c ++ d ++ e) s)) := rfl
  refine ⟨fun s junk head body check a5 d good hh ha hf hjunk hhead hbody hcheck hd h0 hgood => ?_,
    fun s junk got a5 hh ha hf hjunk => ⟨?_, fun hgot => ?_⟩, fun s a b c d e x => ⟨?_, _, rfl, ?_⟩,
    fun s a5 b ha hf hb => ⟨fun hr => ?_, fun hr => ?_⟩, fun s got hr => ?_,
    fun rest s hs => ⟨fun f htx => ?_, fun htx hset => ?_, fun htx hset => ?_⟩,
    fun f s => ⟨fun h => ?_, fun h => ?_⟩, fun k s => ⟨raise_of_pending, raise_new, fun _ => rfl⟩, rfl,
    fun b x => ⟨fleetChar_start b, fleetChar_stop b, rfl, fun i hi => ⟨fleetChar_data b hi, rxByte_data_bit x hi⟩⟩⟩
  · have hframe : exec (.fleetFrameReceived (junk ++ [a5]) head body check []) s =
        .next (driveOutputs (frameEnds (head ++ body ++ check) s)) := by
      rw [hreceived, List.append_nil, List.append_assoc (junk ++ [a5]), List.append_assoc (junk ++ [a5]),
        receiveBytes_start hh ha hf hjunk, receiveBytes_frame rfl hhead hbody hcheck hd h0, frameEnds_setReceiver]
    have hjudged : frameGood (head ++ body ++ check) = true ↔ good := by
      rw [frameGood_iff hcheck, hgood, hd]
    have hframed : frameOf (head ++ body ++ check) = ⟨byteAt d 1, byteAt d 2, d.drop 3⟩ := by
      rw [frameOf_append hhead hcheck, hd]
    refine ⟨fun hg hroom => ?_, fun hg hfull => ⟨_, hframe, ?_⟩, fun hg => ?_⟩
    · rw [hframe, frameEnds, if_pos (hjudged.mpr hg), setReceiver_of_same hh, joinQueue_room hroom, hframed]
    · rw [frameEnds, if_pos (hjudged.mpr hg), setReceiver_of_same hh, joinQueue_dropped hfull, satInc_eq_min]
      exact ⟨hh, rfl, rfl, rfl, rfl, rfl, rfl, rfl, rfl, rfl⟩
    · rw [hframe, frameEnds, if_neg fun h => hg (hjudged.mp h), discardFrame, satInc_eq_min, ← hh]
  · rw [hreceived, List.append_nil, List.append_nil, List.append_nil, List.append_nil, receiveBytes_ignored s junk hh hjunk]
  · rw [hreceived, List.append_nil, List.append_nil, List.append_nil, receiveBytes_start hh ha hf hjunk]
    rcases hgot with rfl | ⟨b, bs, rfl, hn, hl⟩
    · rfl
    · rw [receiveBytes_short rfl hn hl]
      rfl
  · rw [hreceived, hreceived]
    simp only [List.append_nil]
  · simp only [hreceived, List.append_nil, driveOutputs_receiveBytes, receiveBytes_append]
  · have hevent : exec (.fleetLengthAbove240 [b]) s = .next (driveOutputs (receiveBytes [b] s)) := rfl
    rw [hevent, receiveBytes_cons, receiveBytes_nil, receiveByte_frame s b [] hr, List.nil_append, frameByte_long hb,
      discardFrame, satInc_eq_min]
  · have hevent : exec (.fleetLengthAbove240 [a5, b]) s = .next (driveOutputs (receiveBytes [a5, b] s)) := rfl
    rw [hevent, receiveBytes_cons, receiveByte_hunt s a5 hr, if_pos ⟨ha, hf⟩, receiveBytes_cons, receiveBytes_nil,
      receiveByte_frame _ b [] rfl, List.nil_append, frameByte_long hb, discardFrame, satInc_eq_min, ← hr]
    rfl
  · have hevent : exec .fleetFrameAbort s = .next (driveOutputs (abortFrame s)) := rfl
    rw [hevent, abortFrame, if_neg (by simp [hr]), discardFrame, satInc_eq_min]
  · rw [exec_event (c := .frameTransmitStart) rfl s]
    exact congrArg (fun t => Host.Outcome.next (driveOutputs t)) (transmitStart_response hs htx)
  · rw [exec_event (c := .frameTransmitStart) rfl s]
    exact congrArg (fun t => Host.Outcome.next (driveOutputs t)) (transmitStart_notice hs htx hset)
  · rw [exec_event (c := .frameTransmitStart) rfl s]
    exact congrArg (fun t => Host.Outcome.next (driveOutputs t)) (transmitStart_empty hs htx hset)
  · rw [Fleet.line, h]
  · rw [Fleet.line, h]
    rfl

end Sys2Proof.Machine

/-! PROOFS. The CRC of frames and tables (R199): its register, its residue, and the bytes of a bank. -/

namespace Sys2Proof.Machine

/-! ## The register (R199) -/

theorem crcShift_of_clear {r : Word16} (h : r.getLsbD 15 = false) : crcShift r = r <<< 1 := by
  have hmsb : r.msb = false := (BitVec.msb_eq_getLsbD_last r).trans h
  rw [crcShift, if_neg (by simp [hmsb])]

theorem crcShift_of_set {r : Word16} (h : r.getLsbD 15 = true) : crcShift r = (r <<< 1) ^^^ 0x1021#16 := by
  have hmsb : r.msb = true := (BitVec.msb_eq_getLsbD_last r).trans h
  rw [crcShift, if_pos hmsb]

theorem crcShift_eq (r : Word16) : crcShift r = if r.getLsbD 15 then (r <<< 1) ^^^ 0x1021 else r <<< 1 := by
  cases h : r.getLsbD 15 with
  | true => exact crcShift_of_set h
  | false => exact crcShift_of_clear h

/-- The bit that leaves the register comes back as its lowest one. -/
theorem crcShift_lowest (r : Word16) : (crcShift r).getLsbD 0 = r.getLsbD 15 := by
  cases h : r.getLsbD 15 with
  | true => rw [crcShift_of_set h]; simp
  | false => rw [crcShift_of_clear h]; simp

theorem crcShift_injective : Function.Injective crcShift := by
  intro x y h
  have htop : x.getLsbD 15 = y.getLsbD 15 := by rw [← crcShift_lowest, h, crcShift_lowest]
  have hshift : x <<< 1 = y <<< 1 := by
    cases hy : y.getLsbD 15 with
    | true => rwa [crcShift_of_set hy, crcShift_of_set (htop.trans hy), BitVec.xor_left_inj] at h
    | false => rwa [crcShift_of_clear hy, crcShift_of_clear (htop.trans hy)] at h
  refine BitVec.eq_of_getLsbD_eq fun i hi => ?_
  by_cases h15 : i = 15
  · rw [h15, htop]
  · have hbit := congrArg (fun r : Word16 => r.getLsbD (i + 1)) hshift
    rw [BitVec.getLsbD_eq_getElem hi, BitVec.getLsbD_eq_getElem hi]
    simpa [show i + 1 < 16 by omega] using hbit

/-- The eight shifts that take a byte in (R199). -/
def crcShifts (r : Word16) : Word16 := Nat.repeat crcShift 8 r

theorem crcByte_eq (r : Word16) (b : Byte) : crcByte r b = crcShifts (r ^^^ (b.setWidth 16 <<< 8)) := rfl

theorem crcShifts_injective : Function.Injective crcShifts := by
  have hrepeat (n : Nat) : Function.Injective (Nat.repeat crcShift n) := by
    induction n with
    | zero => exact fun _ _ h => h
    | succ n ih => exact crcShift_injective.comp ih
  exact hrepeat 8

/-- A byte in the low half is not reached by the feedback within its eight shifts. -/
theorem crcShifts_low (b : Byte) : crcShifts (b.setWidth 16) = b.setWidth 16 <<< 8 := by
  have hrepeat (n : Nat) (hn : n ≤ 8) : Nat.repeat crcShift n (b.setWidth 16) = b.setWidth 16 <<< n := by
    induction n with
    | zero => simp [Nat.repeat]
    | succ n ih =>
      have hclear : (b.setWidth 16 <<< n).getLsbD 15 = false := by
        simp [BitVec.getLsbD_of_ge b (15 - n) (by omega)]
      rw [Nat.repeat, ih (by omega), crcShift_of_clear hclear, ← BitVec.shiftLeft_add]
  exact hrepeat 8 le_rfl

/-! ## The two check bytes (R199) -/

theorem word_halves (w : Word16) :
    ((w.extractLsb' 8 8).setWidth 16 <<< 8) ^^^ (w.extractLsb' 0 8).setWidth 16 = w := by
  refine BitVec.eq_of_getLsbD_eq fun i hi => ?_
  rw [BitVec.getLsbD_xor, BitVec.getLsbD_shiftLeft, BitVec.getLsbD_setWidth, BitVec.getLsbD_setWidth,
    BitVec.getLsbD_extractLsb', BitVec.getLsbD_extractLsb', Nat.zero_add]
  rcases Nat.lt_or_ge i 8 with h | h
  · simp [h, hi]
  · simp [hi, Nat.not_lt.mpr h, show 8 + (i - 8) = i by omega, show i - 8 < 8 by omega, show i - 8 < 16 by omega]

/-- A register that takes in two check bytes comes to 0 exactly when they are its value. -/
theorem crcByte_residue (r w : Word16) :
    crcByte (crcByte r (w.extractLsb' 8 8)) (w.extractLsb' 0 8) = 0 ↔ w = r := by
  have hzero : crcShifts 0#16 = 0#16 := by decide
  have hword := word_halves w
  change _ = 0#16 ↔ _
  generalize w.extractLsb' 8 8 = hi, w.extractLsb' 0 8 = lo at hword ⊢
  rw [crcByte_eq, crcByte_eq, ← hzero, crcShifts_injective.eq_iff, BitVec.xor_eq_zero_iff, ← crcShifts_low lo,
    crcShifts_injective.eq_iff]
  constructor
  · intro h
    rw [← hword, ← h, BitVec.xor_comm r, ← BitVec.xor_assoc, BitVec.xor_self, BitVec.zero_xor]
  · intro h
    rw [← h, ← hword, BitVec.xor_comm, ← BitVec.xor_assoc, BitVec.xor_self, BitVec.zero_xor]

theorem extract_high (w : Word16) : w.extractLsb' 8 8 = BitVec.ofNat 8 (w.toNat / 256) := by
  refine BitVec.eq_of_toNat_eq ?_
  simp [Nat.shiftRight_eq_div_pow]

theorem extract_low (w : Word16) : w.extractLsb' 0 8 = BitVec.ofNat 8 (w.toNat % 256) := by
  refine BitVec.eq_of_toNat_eq ?_
  simp

/-! ## The bytes of a bank (R199) -/

theorem flatMap_toList_length {n : Nat} (l : List (Vector Byte n)) : (l.flatMap Vector.toList).length = n * l.length := by
  induction l with
  | nil => rfl
  | cons v l ih => rw [List.flatMap_cons, List.length_append, ih, Vector.length_toList, List.length_cons]; ring

theorem flatMap_toList_get {n : Nat} (l : List (Vector Byte n)) (k i : Nat) (hk : k < l.length) (hi : i < n) :
    (l.flatMap Vector.toList)[n * k + i]? = some (l[k][i]) := by
  induction l generalizing k with
  | nil => simp at hk
  | cons v l ih =>
    rw [List.flatMap_cons]
    cases k with
    | zero =>
      rw [List.getElem?_append_left (by simpa using hi)]
      simp [hi]
    | succ k =>
      rw [List.getElem?_append_right (by simp; nlinarith), Vector.length_toList,
        show n * (k + 1) + i - n = n * k + i by rw [Nat.mul_succ]; omega, ih k (by simpa using hk)]
      rfl

theorem Bank.bytes_length (b : Bank) : b.bytes.length = 992 := by
  simp only [Bank.bytes, List.length_append, flatMap_toList_length, Vector.length_toList]

theorem Bank.bytes_site (b : Bank) (i : Fin 32) : b.bytes[i.val]? = some b.site[i] := by
  rw [Bank.bytes, List.append_assoc, List.append_assoc, List.getElem?_append_left (by simp)]
  simp

theorem Bank.bytes_feeder (b : Bank) (f : Fin 8) (i : Fin 16) :
    b.bytes[32 + 16 * f.val + i.val]? = some b.feeder[f][i] := by
  rw [Bank.bytes, List.append_assoc, List.append_assoc, List.getElem?_append_right (by simp; omega),
    List.getElem?_append_left (by rw [flatMap_toList_length]; simp; omega), Vector.length_toList,
    show 32 + 16 * f.val + i.val - 32 = 16 * f.val + i.val by omega,
    flatMap_toList_get _ f.val i.val (by simp) i.isLt]
  simp

theorem Bank.bytes_pad (b : Bank) (p : Fin 64) (i : Fin 12) :
    b.bytes[160 + 12 * p.val + i.val]? = some b.pad[p][i] := by
  have hfront : (b.site.toList ++ b.feeder.toList.flatMap Vector.toList).length = 160 := by
    simp
  rw [Bank.bytes, List.append_assoc, List.getElem?_append_right (by omega),
    List.getElem?_append_left (by rw [flatMap_toList_length]; simp; omega), hfront,
    show 160 + 12 * p.val + i.val - 160 = 12 * p.val + i.val by omega,
    flatMap_toList_get _ p.val i.val (by simp) i.isLt]
  simp

theorem Bank.bytes_line (b : Bank) (r : Fin 16) (i : Fin 4) :
    b.bytes[928 + 4 * r.val + i.val]? = some b.line[r][i] := by
  have hfront : (b.site.toList ++ b.feeder.toList.flatMap Vector.toList
      ++ b.pad.toList.flatMap Vector.toList).length = 928 := by
    simp
  rw [Bank.bytes, List.getElem?_append_right (by omega), hfront,
    show 928 + 4 * r.val + i.val - 928 = 4 * r.val + i.val by omega,
    flatMap_toList_get _ r.val i.val (by simp) i.isLt]
  simp

/-- Settles O53. -/
theorem crcChecksItself : Obligations.CrcChecksItself := by
  refine ⟨by decide +kernel, fun bs w => ?_, rfl, fun bs b => ?_, fun w => ?_, fun b => ⟨b.bytes_length, b.bytes_site,
    b.bytes_feeder, b.bytes_pad, b.bytes_line⟩⟩
  · rw [crc, List.foldl_append]
    exact crcByte_residue (crc bs) w
  · intro shift
    have hshift : shift = crcShift := funext fun r => (crcShift_eq r).symm
    rw [hshift, crc, List.foldl_append]
    rfl
  · rw [crcBytes, extract_high, extract_low]

end Sys2Proof.Machine

/-! PROOFS. The grant order list, the two passes and the rounding of a sweep (R60 to R72). -/

namespace Sys2Proof.Machine

/-! ## Rounding (R71, R72) -/

/-- The tiers that a value may be rounded down to (R72). -/
def openTiers (res : Resolution) (step : Nat) (tiers : List Nat) (v : Nat) : List Nat :=
  tiers.filter fun t => decide (t ≤ v) && (res == .fine || t % step == 0)

theorem mem_openTiers {res : Resolution} {step : Nat} {tiers : List Nat} {v t : Nat} :
    t ∈ openTiers res step tiers v ↔ t ∈ tiers ∧ t ≤ v ∧ (res = .stepped → t % step = 0) := by
  cases res <;> simp [openTiers]

theorem roundTier_nil (res : Resolution) (step v : Nat) : roundTier res step [] v = v := if_pos rfl

/-- Rounding to the tiers gives 0, or the largest tier that a value may be rounded down to (R72). -/
theorem roundTier_cases {tiers : List Nat} (h : tiers ≠ []) (res : Resolution) (step v : Nat) :
    (roundTier res step tiers v = 0 ∨ roundTier res step tiers v ∈ openTiers res step tiers v)
      ∧ ∀ t ∈ openTiers res step tiers v, t ≤ roundTier res step tiers v := by
  have heq : roundTier res step tiers v = ((openTiers res step tiers v).max?).getD 0 := if_neg h
  rw [heq]
  cases hmax : (openTiers res step tiers v).max? with
  | none =>
    rw [List.max?_eq_none_iff] at hmax
    simp [hmax]
  | some m =>
    obtain ⟨hmem, hle⟩ := List.max?_eq_some_iff.mp hmax
    exact ⟨.inr hmem, hle⟩

theorem roundGrant_nil {c : Capability} (h : c.tiers = []) (res : Resolution) (step v : Nat) :
    roundGrant res step c v = roundStep res step c.vmin v := by
  rw [roundGrant, h, roundTier_nil]

theorem roundStep_eq (res : Resolution) (step vmin v : Nat) : roundStep res step vmin v =
    if res = .fine then v else if v / step * step < vmin then 0 else v / step * step := by
  cases res <;> rfl

/-- Settles O32. -/
theorem grantsRoundDown : Obligations.GrantsRoundDown := by
  intro res step v w c hw
  rw [← roundStep_eq] at hw
  subst hw
  refine ⟨roundGrant_le res step c v, fun h => roundGrant_nil h res step v, fun h => ?_⟩
  obtain ⟨hmem, hmost⟩ := roundTier_cases h res step (roundStep res step c.vmin v)
  exact ⟨hmem.imp_right mem_openTiers.mp, fun k hk hle hstep => hmost k (mem_openTiers.mpr ⟨hk, hle, hstep⟩)⟩

/-! ## Ranks (R68) -/

section
variable {H T o i j : Nat}

theorem rankOf_head (h : i < H) : rankOf H T o i = i := if_pos h

theorem rankOf_tail (h : 64 - T ≤ i) : rankOf H T o i = i := by
  rcases Nat.lt_or_ge i H with hi | hi
  · exact if_pos hi
  · exact (if_neg (Nat.not_lt.mpr hi)).trans (if_neg (by omega))

theorem rankOf_middle (h : H ≤ i) (h' : i < 64 - T) : rankOf H T o i =
    H + (i - H + ((64 - H - T) - o % (64 - H - T))) % (64 - H - T) :=
  (if_neg (Nat.not_lt.mpr h)).trans (if_pos (by omega))

/-- The middle region keeps to its own numbers. -/
theorem rankOf_middle_range (h : H ≤ i) (h' : i < 64 - T) : H ≤ rankOf H T o i ∧ rankOf H T o i < 64 - T := by
  have := Nat.mod_lt (i - H + ((64 - H - T) - o % (64 - H - T))) (show 64 - H - T > 0 by omega)
  rw [rankOf_middle h h']
  omega

theorem rankOf_region (i : Nat) : (i < H ∨ 64 - T ≤ i) ∨ (H ≤ i ∧ i < 64 - T) := by omega

theorem rankOf_outer (h : i < H ∨ 64 - T ≤ i) : rankOf H T o i = i := h.elim rankOf_head rankOf_tail

/-- No two pads share a rank (R68). -/
theorem rankOf_injective (h : rankOf H T o i = rankOf H T o j) : i = j := by
  rcases rankOf_region (H := H) (T := T) i with hi | ⟨hi, hi'⟩ <;>
    rcases rankOf_region (H := H) (T := T) j with hj | ⟨hj, hj'⟩
  · rwa [rankOf_outer hi, rankOf_outer hj] at h
  · have := rankOf_middle_range (o := o) hj hj'
    rw [rankOf_outer hi] at h
    omega
  · have := rankOf_middle_range (o := o) hi hi'
    rw [rankOf_outer hj] at h
    omega
  · rw [rankOf_middle hi hi', rankOf_middle hj hj'] at h
    have hmod : i - H ≡ j - H [MOD 64 - H - T] := Nat.ModEq.add_right_cancel' _ (Nat.add_left_cancel h)
    have := hmod.eq_of_lt_of_lt (by omega) (by omega)
    omega

theorem rankOf_lt (h : i < 64) : rankOf H T o i < 64 := by
  rcases rankOf_region (H := H) (T := T) i with hi | ⟨hi, hi'⟩
  · rwa [rankOf_outer hi]
  · have := rankOf_middle_range (o := o) hi hi'
    omega

/-- The middle region turns with the offset (R68). -/
theorem rankOf_turns (h : H ≤ i) (h' : i < 64 - T) :
    (rankOf H T o i : Int) = H + ((i : Int) - H - o) % ((64 - H - T : Nat) : Int) := by
  rw [rankOf_middle h h']
  have hm : 0 < 64 - H - T := by omega
  generalize 64 - H - T = m at hm
  have hlt := Nat.mod_lt o hm
  have hdiv : (m : Int) * (o / m : Nat) + (o % m : Nat) = o := by exact_mod_cast Nat.div_add_mod o m
  have hturn : ((i - H : Nat) + (m - o % m : Nat) : Int) = ((i : Int) - H - o) + m * (1 + (o / m : Nat)) := by
    rw [Nat.cast_sub h, Nat.cast_sub hlt.le, mul_add]
    omega
  have hcong : ((i : Int) - H - o) % (m : Int) = ((i - H : Nat) + (m - o % m : Nat) : Int) % (m : Int) := by
    rw [hturn, Int.add_mul_emod_self_left]
  rw [hcong]
  push_cast
  rfl

end

/-! ## The grant order list (R61, R67) -/

/-- The entry of an eligible pad, and the conditions under which it has one (R61). -/
theorem entryOf_eq_some {x : Snapshot} {o : Nat} {p : PadId} {e : Entry} : entryOf x o p = some e ↔
    ∃ (c : Capability) (d : Nat), x.pads[p].caps = some c ∧ demand (x.bank.padRec p) x.pads[p] = some d
      ∧ (x.pads[p].state.served = true ∧ x.pads[p].inScope = true
        ∧ (x.bank.feederRec (x.bank.padRec p).group).enabled = true
        ∧ (x.pads[p].deadline.isSome = true ∨ (x.bank.padRec p).opportunity = true) ∧ c.effMin ≤ d)
      ∧ e =
        { pad := p, group := (x.bank.padRec p).group, cls := (x.bank.padRec p).cls
          rank := rankOf (siteView x.bank.site).head (siteView x.bank.site).tail o p.val
          caps := c, ramped := rampCap d c.vmin x.pads[p].sent (x.bank.feederRec (x.bank.padRec p).group).ramp
          need := needOf x.pads[p] x.now d, urgency := urgencyOf (needOf x.pads[p] x.now d) d } := by
  unfold entryOf
  dsimp only
  cases hc : x.pads[p].caps with
  | none => simp
  | some c =>
    cases hd : demand (x.bank.padRec p) x.pads[p] with
    | none => simp
    | some d =>
      dsimp only
      split
      next hall =>
        constructor
        · exact fun h => ⟨c, d, rfl, rfl, hall, (Option.some.inj h).symm⟩
        · rintro ⟨c', d', hc', hd', -, he⟩
          cases hc'
          cases hd'
          rw [he]
      next hnot =>
        constructor
        · intro h
          cases h
        · rintro ⟨c', d', hc', hd', hall, -⟩
          cases hc'
          cases hd'
          exact absurd hall hnot

/-- The demand ceiling is the least of the pad's, the vehicle's, the acceptance and a manual limit (R62). -/
theorem demand_eq {r : PadRec} {q : PadSnap} {c : Capability} {d : Nat} (hc : q.caps = some c)
    (hd : demand r q = some d) :
    ∃ a : Nat, q.accept = some a ∧ d = min (min r.ceiling c.vmax) (min a (q.limit.getD a)) := by
  unfold demand at hd
  rw [hc] at hd
  cases ha : q.accept with
  | none => simp [ha] at hd
  | some a =>
    rw [ha] at hd
    refine ⟨a, rfl, ?_⟩
    cases hl : q.limit with
    | none =>
      simp only [hl, Option.some.injEq] at hd
      simp [← hd, min_assoc]
    | some y =>
      simp only [hl, Option.some.injEq] at hd
      simp [← hd, min_assoc]

theorem rampCap_eq (d vmin sent ramp : Nat) : rampCap d vmin sent ramp =
    if sent = 0 then min d (max vmin ramp) else min d (sent + ramp) := by
  unfold rampCap
  by_cases h : sent = 0
  · rw [if_neg (by omega), if_pos h]
  · rw [if_pos (by omega), if_neg h]

theorem precedes_iff {a b : Entry} : a.precedes b = true ↔ a.cls < b.cls
    ∨ (a.cls = b.cls ∧ (b.urgency < a.urgency ∨ (a.urgency = b.urgency ∧ a.rank ≤ b.rank))) := by
  simp [Entry.precedes]

theorem precedes_total (a b : Entry) : a.precedes b = true ∨ b.precedes a = true := by
  rw [precedes_iff, precedes_iff]
  omega

theorem precedes_trans {a b c : Entry} (hab : a.precedes b = true) (hbc : b.precedes c = true) :
    a.precedes c = true := by
  rw [precedes_iff] at hab hbc ⊢
  omega

section
variable {α : Type} {le : α → α → Bool}

theorem insertBy_sorted (htotal : ∀ a b, le a b = true ∨ le b a = true)
    (htrans : ∀ a b c, le a b = true → le b c = true → le a c = true) (x : α) {l : List α}
    (h : l.Pairwise fun a b => le a b = true) : (insertBy le x l).Pairwise fun a b => le a b = true := by
  induction l with
  | nil => exact List.pairwise_singleton _ x
  | cons y ys ih =>
    obtain ⟨hy, hys⟩ := List.pairwise_cons.mp h
    unfold insertBy
    split
    next hle =>
      refine List.pairwise_cons.mpr ⟨fun z hz => ?_, h⟩
      rcases List.mem_cons.mp hz with rfl | hz
      · exact hle
      · exact htrans _ _ _ hle (hy z hz)
    next hnot =>
      refine List.pairwise_cons.mpr ⟨fun z hz => ?_, ih hys⟩
      rcases List.mem_cons.mp ((insertBy_perm le x ys).mem_iff.mp hz) with rfl | hz
      · exact (htotal z y).resolve_left hnot
      · exact hy z hz

theorem sortBy_sorted (htotal : ∀ a b, le a b = true ∨ le b a = true)
    (htrans : ∀ a b c, le a b = true → le b c = true → le a c = true) (l : List α) :
    (sortBy le l).Pairwise fun a b => le a b = true := by
  induction l with
  | nil => exact .nil
  | cons x xs ih => exact insertBy_sorted htotal htrans x ih

end

/-- The list is strictly ordered: no two entries share a rank. -/
theorem orderList_strict (x : Snapshot) (o : Nat) : (orderList x o).Pairwise fun a b =>
    a.cls < b.cls ∨ (a.cls = b.cls ∧ (b.urgency < a.urgency ∨ (a.urgency = b.urgency ∧ a.rank < b.rank))) := by
  have hsorted : (orderList x o).Pairwise fun a b => a.precedes b = true :=
    sortBy_sorted precedes_total (fun _ _ _ => precedes_trans) _
  have hdistinct : (orderList x o).Pairwise fun a b => a.pad ≠ b.pad := List.pairwise_map.mp (orderList_nodup x o)
  have hrank {e : Entry} (he : e ∈ orderList x o) :
      e.rank = rankOf (siteView x.bank.site).head (siteView x.bank.site).tail o e.pad.val := by
    obtain ⟨c, d, -, -, -, heq⟩ := entryOf_eq_some.mp (mem_orderList.mp he)
    rw [heq]
  refine (hsorted.and hdistinct).imp_of_mem fun ha hb ⟨hle, hne⟩ => ?_
  have hranks : _ ≠ _ := fun h => hne (Fin.ext (rankOf_injective ((hrank ha).symm.trans (h.trans (hrank hb)))))
  rw [precedes_iff] at hle
  omega

/-- Settles O31. -/
theorem grantOrderListSorted : Obligations.GrantOrderListSorted := by
  refine ⟨fun x o => ⟨orderList_nodup x o, fun p => ?_, fun e he => ?_, orderList_strict x o⟩,
    fun H T o hle => ⟨fun i => rankOf_head, fun i => rankOf_turns, fun i => rankOf_tail,
      fun i j _ _ => rankOf_injective, fun i => rankOf_lt⟩⟩
  · have hmem : p ∈ (orderList x o).map Entry.pad ↔ ∃ e, entryOf x o p = some e := by
      rw [List.mem_map]
      constructor
      · rintro ⟨e, he, rfl⟩
        exact ⟨e, mem_orderList.mp he⟩
      · rintro ⟨e, he⟩
        have hpad := entryOf_pad he
        exact ⟨e, mem_orderList.mpr (hpad ▸ he), hpad⟩
    simp only [hmem, entryOf_eq_some]
    constructor
    · rintro ⟨e, c, d, hc, hd, ⟨hs, hi, he, hw, hm⟩, -⟩
      exact ⟨hs, hi, he, hw, c, d, hc, hd, hm⟩
    · rintro ⟨hs, hi, he, hw, c, d, hc, hd, hm⟩
      exact ⟨_, c, d, hc, hd, ⟨hs, hi, he, hw, hm⟩, rfl⟩
  · obtain ⟨c, d, hc, hd, -, heq⟩ := entryOf_eq_some.mp (mem_orderList.mp he)
    obtain ⟨a, ha, hda⟩ := demand_eq hc hd
    have hcaps : e.caps = c := by rw [heq]
    refine ⟨by rw [heq], by rw [heq], by rw [heq], by rw [hcaps]; exact hc, a, d, ha, by rw [hcaps]; exact hda, hd,
      by rw [heq], by rw [heq], ?_⟩
    rw [heq]
    exact rampCap_eq ..

/-! ## The two passes (R60, R69, R70) -/

/-- The pads' amounts over those that `mine` names. -/
def amounts (mine : PadId → Bool) (l : List (PadId × Nat)) : Nat := ((l.filter fun x => mine x.1).map Prod.snd).sum

theorem amounts_cons (mine : PadId → Bool) (p : PadId) (n : Nat) (l : List (PadId × Nat)) :
    amounts mine ((p, n) :: l) = (if mine p then n else 0) + amounts mine l := by
  cases h : mine p <;> simp [amounts, h]

/-- What the pads get from a list of grants is at most what the list grants. -/
theorem padSum_newGrant_le (mine : PadId → Bool) (l : List (PadId × Nat)) :
    (padSum fun p => if mine p then newGrant l p else 0) ≤ amounts mine l := by
  induction l with
  | nil => simp [padSum_eq_sum, newGrant, amounts]
  | cons x l ih =>
    obtain ⟨p, n⟩ := x
    have hpoint (q : PadId) : (if mine q then newGrant ((p, n) :: l) q else 0)
        ≤ (if q = p then (if mine p then n else 0) else 0) + if mine q then newGrant l q else 0 := by
      by_cases hq : q = p
      · subst hq
        simp only [newGrant, List.lookup_cons_self, Option.getD_some, if_true]
        exact Nat.le_add_right _ _
      · have hb : (q == p) = false := by simp [hq]
        simp [newGrant, List.lookup_cons, hb, hq]
    have hone : (padSum fun q => if q = p then (if mine p then n else 0) else 0) = if mine p then n else 0 := by
      simp [padSum_eq_sum]
    calc _ ≤ _ := padSum_le hpoint
      _ = _ := (padSum_add _ _).symm
      _ ≤ _ := by rw [amounts_cons, hone]; exact Nat.add_le_add_left ih _

/-- What remains of a group, or of the site. -/
def Pool.left (w : Pool) : Option GroupId → Nat
  | none => w.site
  | some k => w.group[k]

/-- An amount taken for a pad of group `g` comes out of this remainder. -/
def charged : Option GroupId → GroupId → Bool
  | none, _ => true
  | some k, g => g == k

theorem Pool.take_left (w : Pool) (g : GroupId) (n : Nat) (k : Option GroupId) :
    (w.take g n).left k = if charged k g then w.left k - n else w.left k := by
  cases k with
  | none => rfl
  | some k =>
    by_cases h : g = k
    · subst h
      simp [Pool.take, Pool.left, charged]
    · have hval : g.val ≠ k.val := fun hv => h (Fin.ext hv)
      simp [Pool.take, Pool.left, charged, h, hval]

theorem Pool.avail_le_left (w : Pool) {g : GroupId} {k : Option GroupId} (h : charged k g = true) :
    w.avail g ≤ w.left k := by
  cases k with
  | none => exact min_le_right _ _
  | some k =>
    have hg : g = k := by simpa [charged] using h
    subst hg
    exact min_le_left _ _

/-- What pass 1 wants for an entry (R69). -/
def Entry.want (e : Entry) : Nat := if e.need = 0 then 0 else min (max e.need e.caps.vmin) e.ramped

/-- What pass 1 takes for an entry, before rounding (R69). -/
def firstTake (w : Pool) (e : Entry) : Nat :=
  if e.want ≤ w.avail e.group then e.want else if e.caps.vmin ≤ w.avail e.group then w.avail e.group else 0

theorem firstGrant_eq (round : Capability → Nat → Nat) (w : Pool) (e : Entry) :
    firstGrant round w e = round e.caps (firstTake w e) := rfl

theorem Entry.want_le (e : Entry) : e.want ≤ e.ramped := by
  unfold Entry.want
  split
  · exact Nat.zero_le _
  · exact min_le_right _ _

theorem Entry.least_le_want {e : Entry} (hpos : 0 < e.want) (hr : e.caps.vmin ≤ e.ramped) : e.caps.vmin ≤ e.want := by
  unfold Entry.want at hpos ⊢
  split at hpos
  · exact absurd hpos (lt_irrefl 0)
  · rw [if_neg ‹_›]
    exact le_min (le_max_right _ _) hr

theorem firstTake_le_avail (w : Pool) (e : Entry) : firstTake w e ≤ w.avail e.group := by
  unfold firstTake
  split
  · assumption
  · split
    · exact le_rfl
    · exact Nat.zero_le _

theorem firstTake_le_want (w : Pool) (e : Entry) : firstTake w e ≤ e.want := by
  unfold firstTake
  split
  · exact le_rfl
  · split <;> omega

theorem least_le_firstTake {w : Pool} {e : Entry} (hpos : 0 < firstTake w e) (hr : e.caps.vmin ≤ e.ramped) :
    e.caps.vmin ≤ firstTake w e := by
  unfold firstTake at hpos ⊢
  split at hpos
  next h =>
    rw [if_pos h]
    exact Entry.least_le_want hpos hr
  next h =>
    rw [if_neg h]
    split at hpos
    next hv => rwa [if_pos hv]
    next => exact absurd hpos (lt_irrefl 0)

section
variable {round : Capability → Nat → Nat} (hround : ∀ c v, round c v ≤ v)
include hround

theorem firstGrant_le_avail (w : Pool) (e : Entry) : firstGrant round w e ≤ w.avail e.group :=
  (hround _ _).trans (firstTake_le_avail w e)

theorem secondGrant_le (w : Pool) (e : Entry) (g : Nat) :
    secondGrant round w e g ≤ g + min (e.ramped - g) (w.avail e.group) := by
  unfold secondGrant
  dsimp only
  split
  · omega
  · exact max_le (Nat.le_add_right _ _) (hround _ _)

omit hround in
theorem secondGrant_ge (w : Pool) (e : Entry) (g : Nat) : g ≤ secondGrant round w e g := by
  unfold secondGrant
  dsimp only
  split
  next h => exact h.1.le
  next => exact le_max_left _ _

/-- The amounts that pass 1 gives come out of the working capacities. -/
theorem passOne_spends {group : PadId → GroupId} (k : Option GroupId) (w : Pool) (es : List Entry)
    (hgroup : ∀ e ∈ es, e.group = group e.pad) :
    (passOne round w es).2.left k
      + amounts (fun p => charged k (group p)) ((passOne round w es).1.map fun x => (x.1.pad, x.2)) = w.left k := by
  induction es generalizing w with
  | nil => rfl
  | cons e es ih =>
    have hle := firstGrant_le_avail hround w e
    have hrest := ih (w.take e.group (firstGrant round w e)) fun e' h => hgroup e' (List.mem_cons_of_mem e h)
    simp only [passOne, List.map_cons, amounts_cons, ← hgroup e List.mem_cons_self, Pool.take_left] at hrest ⊢
    split at hrest
    next hk =>
      have := hle.trans (w.avail_le_left hk)
      rw [if_pos hk]
      omega
    next hk =>
      rw [if_neg hk]
      omega

/-- What pass 2 adds comes out of what pass 1 left. -/
theorem passTwo_spends {group : PadId → GroupId} (k : Option GroupId) (w : Pool) (l : List (Entry × Nat))
    (hgroup : ∀ x ∈ l, x.1.group = group x.1.pad) :
    amounts (fun p => charged k (group p)) (passTwo round w l)
      ≤ amounts (fun p => charged k (group p)) (l.map fun x => (x.1.pad, x.2)) + w.left k := by
  induction l generalizing w with
  | nil => exact Nat.zero_le _
  | cons x l ih =>
    obtain ⟨e, g⟩ := x
    have hge := secondGrant_ge (round := round) w e g
    have hle := secondGrant_le hround w e g
    have hrest := ih (w.take e.group (secondGrant round w e g - g)) fun x h => hgroup x (List.mem_cons_of_mem _ h)
    have hhead : e.group = group e.pad := hgroup (e, g) List.mem_cons_self
    simp only [passTwo, List.map_cons, amounts_cons, ← hhead, Pool.take_left] at hrest ⊢
    split at hrest
    next hk =>
      have := w.avail_le_left hk
      rw [if_pos hk, if_pos hk]
      omega
    next hk =>
      rw [if_neg hk, if_neg hk]
      omega

end

theorem poolOf_group (x : Snapshot) (g : GroupId) : (poolOf x).group[g.val] = x.capacity[g]
    - padSum fun p => if (x.bank.padRec p).group = g then x.pads[p].reservation else 0 := by
  simp only [poolOf, tabulate_get]

/-- A sweep's new grants stay within what the reservations leave of a limit (R60, R69, R70). -/
theorem sweepGrants_spend (x : Snapshot) (o : Nat) (k : Option GroupId) :
    (padSum fun p => if charged k (x.bank.padRec p).group then newGrant (sweepGrants x o) p else 0)
      ≤ (poolOf x).left k := by
  have hgroup : ∀ e ∈ orderList x o, e.group = (x.bank.padRec e.pad).group := fun e he => by
    obtain ⟨c, d, -, -, -, heq⟩ := entryOf_eq_some.mp (mem_orderList.mp he)
    rw [heq]
  have hround := roundGrant_le x.resolution (siteView x.bank.site).step
  have hone := passOne_spends hround (group := fun p => (x.bank.padRec p).group) k (poolOf x) (orderList x o) hgroup
  have htwo := passTwo_spends hround (group := fun p => (x.bank.padRec p).group) k
    (passOne (roundGrant x.resolution (siteView x.bank.site).step) (poolOf x) (orderList x o)).2
    (passOne (roundGrant x.resolution (siteView x.bank.site).step) (poolOf x) (orderList x o)).1
    fun y hy => hgroup y.1 (by
      rw [← passOne_entries (roundGrant x.resolution (siteView x.bank.site).step) (poolOf x) (orderList x o)]
      exact List.mem_map_of_mem hy)
  have hlist := padSum_newGrant_le (fun p => charged k (x.bank.padRec p).group) (sweepGrants x o)
  calc _ ≤ _ := hlist
    _ ≤ _ := htwo
    _ = _ := (Nat.add_comm _ _).trans hone

/-! ### What a grant keeps to (R63, R69 to R72) -/

theorem roundGrant_pos {res : Resolution} {step v : Nat} {c : Capability} (h : 0 < roundGrant res step c v) :
    (c.tiers ≠ [] → roundGrant res step c v ∈ c.tiers)
      ∧ (res = .stepped → roundGrant res step c v % step = 0)
      ∧ (c.vmin ≤ v → (∀ t ∈ c.tiers, c.vmin ≤ t) → c.vmin ≤ roundGrant res step c v) := by
  by_cases hnil : c.tiers = []
  · rw [roundGrant_nil hnil, roundStep_eq] at h ⊢
    refine ⟨fun hne => absurd hnil hne, fun hres => ?_, fun hv _ => ?_⟩
    · subst hres
      rw [if_neg (by decide)]
      split
      · exact Nat.zero_mod step
      · exact Nat.mul_mod_left _ _
    · split at h
      · rwa [if_pos ‹_›]
      · split at h
        · exact absurd h (lt_irrefl 0)
        · rw [if_neg ‹_›, if_neg ‹_›]
          exact Nat.not_lt.mp ‹_›
  · obtain ⟨hmem, -⟩ := roundTier_cases hnil res step (roundStep res step c.vmin v)
    obtain ⟨htier, -, hstep⟩ := mem_openTiers.mp (hmem.resolve_left h.ne')
    exact ⟨fun _ => htier, hstep, fun _ ht => ht _ htier⟩

/-- An entry may be granted `g`: its ramp cap, its tiers, the step and its minimum allow it. -/
structure Entry.Allows (res : Resolution) (step : Nat) (e : Entry) (g : Nat) : Prop where
  ramped : g ≤ e.ramped
  tier : 0 < g → e.caps.tiers ≠ [] → g ∈ e.caps.tiers
  step : 0 < g → res = .stepped → g % step = 0
  least : 0 < g → e.caps.vmin ≤ e.ramped → (∀ t ∈ e.caps.tiers, e.caps.vmin ≤ t) → e.caps.vmin ≤ g

section
variable {res : Resolution} {step : Nat} {w : Pool} {e : Entry} {g : Nat}

theorem Entry.allows_zero : e.Allows res step 0 := ⟨Nat.zero_le _, by simp, by simp, by simp⟩

/-- A rounded figure is allowed where it was within the ramp cap, and at the minimum where it may not fall
below it. -/
theorem Entry.allows_round {v : Nat} (hramped : v ≤ e.ramped)
    (hleast : 0 < v → e.caps.vmin ≤ e.ramped → (∀ t ∈ e.caps.tiers, e.caps.vmin ≤ t) → e.caps.vmin ≤ v) :
    e.Allows res step (roundGrant res step e.caps v) := by
  have hle := roundGrant_le res step e.caps v
  refine ⟨hle.trans hramped, fun h => (roundGrant_pos h).1, fun h => (roundGrant_pos h).2.1, fun h hr ht => ?_⟩
  exact (roundGrant_pos h).2.2 (hleast (h.trans_le hle) hr ht) ht

theorem firstGrant_allowed : e.Allows res step (firstGrant (roundGrant res step) w e) :=
  Entry.allows_round ((firstTake_le_want w e).trans e.want_le) fun hpos hr _ => least_le_firstTake hpos hr

theorem secondGrant_allowed (h : e.Allows res step g) :
    e.Allows res step (secondGrant (roundGrant res step) w e g) := by
  unfold secondGrant
  dsimp only
  split
  · exact Entry.allows_zero
  next hmore =>
    rcases max_choice g (roundGrant res step e.caps (g + min (e.ramped - g) (w.avail e.group))) with hmax | hmax
    · rwa [hmax]
    · rw [hmax]
      refine Entry.allows_round (by have := h.ramped; omega) fun _ hr ht => ?_
      rcases Nat.eq_zero_or_pos g with hg | hg
      · omega
      · have := h.least hg hr ht
        omega

end

theorem passOne_allowed {res : Resolution} {step : Nat} (w : Pool) (es : List Entry) :
    ∀ x ∈ (passOne (roundGrant res step) w es).1, x.1.Allows res step x.2 := by
  induction es generalizing w with
  | nil => simp [passOne]
  | cons e es ih =>
    intro x hx
    rcases List.mem_cons.mp hx with rfl | hx
    · exact firstGrant_allowed
    · exact ih _ x hx

theorem passTwo_allowed {res : Resolution} {step : Nat} (w : Pool) {l : List (Entry × Nat)}
    (h : ∀ x ∈ l, x.1.Allows res step x.2) :
    ∀ y ∈ passTwo (roundGrant res step) w l, ∃ e ∈ l.map Prod.fst, e.pad = y.1 ∧ e.Allows res step y.2 := by
  induction l generalizing w with
  | nil => simp [passTwo]
  | cons x l ih =>
    intro y hy
    rcases List.mem_cons.mp hy with rfl | hy
    · exact ⟨x.1, List.mem_cons_self, rfl, secondGrant_allowed (h x List.mem_cons_self)⟩
    · obtain ⟨e, he, hpad, hallow⟩ := ih _ (fun x hx => h x (List.mem_cons_of_mem _ hx)) y hy
      exact ⟨e, List.mem_cons_of_mem _ he, hpad, hallow⟩

/-- A nonzero new grant is that of an entry of the list, which allows it. -/
theorem newGrant_allowed {x : Snapshot} {o : Nat} {p : PadId} (h : 0 < newGrant (sweepGrants x o) p) :
    ∃ e, entryOf x o p = some e
      ∧ e.Allows x.resolution (siteView x.bank.site).step (newGrant (sweepGrants x o) p) := by
  have hmem : (p, newGrant (sweepGrants x o) p) ∈ sweepGrants x o := by
    cases hl : (sweepGrants x o).lookup p with
    | none => simp [newGrant, hl] at h
    | some g =>
      rw [newGrant, hl, Option.getD_some]
      obtain ⟨front, back, heq, -⟩ := List.lookup_eq_some_iff.mp hl
      simp [heq]
  obtain ⟨e, he, hpad, hallow⟩ := passTwo_allowed _ (passOne_allowed (poolOf x) (orderList x o)) _ hmem
  rw [passOne_entries] at he
  subst hpad
  exact ⟨e, mem_orderList.mp he, hallow⟩

theorem effMin_ge (c : Capability) : c.vmin ≤ c.effMin := by
  unfold Capability.effMin
  split
  · exact le_rfl
  · exact le_max_left _ _

theorem add_le_max_of_le_sub {a r c : Nat} (h : a ≤ c - r) : a + r ≤ max c r := by omega

/-- Within each group the new grants and the reservations keep to the effective capacity (R60). -/
theorem newGrants_fit_group (x : Snapshot) (o : Nat) (k : GroupId) :
    (padSum fun p => if (x.bank.padRec p).group = k then newGrant (sweepGrants x o) p + x.pads[p].reservation else 0)
      ≤ max x.capacity[k] (padSum fun p => if (x.bank.padRec p).group = k then x.pads[p].reservation else 0) := by
  have hspend := add_le_max_of_le_sub ((sweepGrants_spend x o (some k)).trans_eq (poolOf_group x k))
  rw [padSum_add] at hspend
  refine (padSum_le fun p => ?_).trans hspend
  by_cases hk : (x.bank.padRec p).group = k
  · have hcharged : charged (some k) (x.bank.padRec p).group = true := decide_eq_true hk
    rw [if_pos hk, if_pos hk, if_pos hcharged]
  · rw [if_neg hk]
    exact Nat.zero_le _

/-- Over the site they keep to the site limit. -/
theorem newGrants_fit_site (x : Snapshot) (o : Nat) :
    padSum (fun p => newGrant (sweepGrants x o) p + x.pads[p].reservation)
      ≤ max (siteView x.bank.site).limit (padSum fun p => x.pads[p].reservation) := by
  have hspend := add_le_max_of_le_sub (sweepGrants_spend x o none)
  rwa [padSum_add] at hspend

theorem poolOf_unique {x : Snapshot} {w : Pool}
    (hgroup : ∀ g : GroupId, w.group[g] = x.capacity[g]
       - padSum fun p => if (x.bank.padRec p).group = g then x.pads[p].reservation else 0)
    (hsite : w.site = (siteView x.bank.site).limit - padSum (fun p => x.pads[p].reservation)) : w = poolOf x := by
  obtain ⟨wg, ws⟩ := w
  have hvector : wg = (poolOf x).group := by
    ext1 k hk
    exact (hgroup ⟨k, hk⟩).trans (poolOf_group x ⟨k, hk⟩).symm
  exact congrArg₂ Pool.mk hvector hsite

/-- Settles O33. -/
theorem newGrantsFitTheCapacities : Obligations.NewGrantsFitTheCapacities := by
  refine ⟨fun x o round w hround hgroup hsite => ?_, fun round w e es m want avail g hm hwant havail hg => ?_,
    fun round w e g extra g' es hextra hg => ?_,
    fun x o => ⟨newGrants_fit_group x o, newGrants_fit_site x o, fun p hp => ?_⟩⟩
  · rw [hround, poolOf_unique hgroup hsite]
    rfl
  · subst hm hwant havail hg
    exact ⟨rfl, rfl⟩
  · subst hextra hg
    exact ⟨rfl, rfl⟩
  · obtain ⟨e, he, hallow⟩ := newGrant_allowed hp
    obtain ⟨c, d, hc, hd, ⟨hs, hi, -, -, hm⟩, heq⟩ := entryOf_eq_some.mp he
    have hcaps : e.caps = c := by rw [heq]
    have hramped : e.ramped = rampCap d c.vmin x.pads[p].sent (x.bank.feederRec (x.bank.padRec p).group).ramp := by
      rw [heq]
    have hvmin : c.vmin ≤ d := (effMin_ge c).trans hm
    refine ⟨c, d, hc, hd, hs, hi, hramped ▸ hallow.ramped, ?_, hcaps ▸ hallow.tier hp, hallow.step hp,
      fun hsent ht => ?_⟩
    · refine hallow.ramped.trans (hramped ▸ ?_)
      rw [rampCap_eq]
      split <;> exact min_le_left _ _
    · refine hcaps ▸ hallow.least hp ?_ (hcaps ▸ ht)
      rw [hcaps, hramped, rampCap_eq]
      split
      · exact le_min hvmin (le_max_left _ _)
      · exact le_min hvmin (by omega)

end Sys2Proof.Machine

/-! PROOFS. The judgement of a reply and what its characters carry (R128 to R133, R199, R202). -/

namespace Sys2Proof.Machine

/-! ## The characters of a reply (R130, R131) -/

section
variable {before rest : List RxChar} {a : RxChar}

theorem replyChars_of_none (h : ∀ c ∈ before, c.ninth = false) : replyChars before = [] := by
  have hall : before.dropWhile (fun c => !c.ninth) = [] := by
    rw [List.dropWhile_eq_nil_iff]
    intro c hc
    simp [h c hc]
  rw [replyChars, hall, List.take_nil]

theorem replyChars_append (h : ∀ c ∈ before, c.ninth = false) (ha : a.ninth = true) :
    replyChars (before ++ a :: rest) = (a :: rest).take 300 := by
  have hdrop : (before ++ a :: rest).dropWhile (fun c => !c.ninth) = a :: rest := by
    rw [List.dropWhile_append_of_pos fun c hc => by simp [h c hc], List.dropWhile_cons_of_neg (by simp [ha])]
  rw [replyChars, hdrop]
  rfl

theorem strayBefore_append (h : ∀ c ∈ before, c.ninth = false) (ha : a.ninth = true) :
    strayBefore (before ++ a :: rest) = true ↔ before ≠ [] := by
  cases before with
  | nil => simp [strayBefore, ha]
  | cons c cs => simp [strayBefore, h c List.mem_cons_self]

end

/-! ## CORRUPT (R132) -/

/-- The lengths that the five kinds give (R202). -/
theorem frameLength_iff {d : List Byte} {n : Nat} : frameLength d = some n ↔
    ((byteAt d 1).toNat = 0x01 ∧ n = 9) ∨ ((byteAt d 1).toNat = 0x02 ∧ n = 4)
      ∨ ((byteAt d 1).toNat = 0x11 ∧ n = 17) ∨ ((byteAt d 1).toNat = 0x12 ∧ n = 8)
      ∨ ((byteAt d 1).toNat = 0x13 ∧ n = 16 + 2 * (byteAt d 13).toNat) := by
  have hkind (k : Byte) : byteAt d 1 = k ↔ (byteAt d 1).toNat = k.toNat := BitVec.toNat_inj.symm
  simp only [frameLength, hkind]
  have h1 : linePoll.toNat = 0x01 := rfl
  have h2 : lineProbe.toNat = 0x02 := rfl
  have h3 : lineReport.toNat = 0x11 := rfl
  have h4 : lineFault.toNat = 0x12 := rfl
  have h5 : lineCaps.toNat = 0x13 := rfl
  rw [h1, h2, h3, h4, h5]
  (repeat' split) <;> simp only [Option.some.injEq, reduceCtorEq, false_iff] <;> omega

theorem checkAgrees_iff (d : List Byte) :
    checkAgrees d = true ↔ d.drop (d.length - 2) = crcBytes (crc (d.take (d.length - 2))) := by
  rw [checkAgrees, beq_iff_eq]
  exact eq_comm

theorem replyCorrupt_iff {before rest : List RxChar} {a : RxChar} (h : ∀ c ∈ before, c.ninth = false)
    (ha : a.ninth = true) :
    replyCorrupt (before ++ a :: rest) = true ↔ CorruptReply before ((a :: rest).take 300) := by
  have hstray := strayBefore_append (rest := rest) h ha
  simp only [replyCorrupt, CorruptReply, replyData, replyChars_append h ha, Bool.or_eq_true, hstray, List.any_eq_true,
    decide_eq_true_eq, Bool.not_eq_true', ← Bool.not_eq_true, checkAgrees_iff, bne_iff_ne, ne_eq, frameLength_iff,
    List.length_map, Config.replyLimit, byteAt, or_assoc]

theorem classify_of_none {tx : Transaction} {rx : List RxChar} (h : replyChars rx = []) : classify tx rx = .noReply :=
  if_pos h

theorem classify_corrupt {tx : Transaction} {rx : List RxChar} (h : replyChars rx ≠ []) (hc : replyCorrupt rx = true) :
    classify tx rx = .corrupt :=
  (if_neg h).trans (if_pos hc)

theorem msb_iff (b : Byte) : b.msb = true ↔ 128 ≤ b.toNat := by
  rw [BitVec.msb_eq_decide, decide_eq_true_eq]

/-- The address character of a reply carries the reply mark and the drop addressed (R132). -/
theorem addressed_iff (b : Byte) (drop : Nat) :
    (b.msb = true ∧ (b.setWidth 7).toNat = drop) ↔ 128 ≤ b.toNat ∧ b.toNat - 128 = drop := by
  rw [msb_iff, BitVec.toNat_setWidth]
  have := b.isLt
  omega

/-- The request's kind allows the reply, and the address character is that of the drop addressed. -/
def Fits (tx : Transaction) (rx : List RxChar) : Prop :=
  allowed tx.request (replyKind rx) = true ∧ (byteAt (replyData rx) 0).msb = true
    ∧ ((byteAt (replyData rx) 0).setWidth 7).toNat = tx.drop

section
variable {tx : Transaction} {rx : List RxChar} (h : replyChars rx ≠ []) (hc : replyCorrupt rx = false)
include h hc

theorem classify_wrong (hf : ¬ Fits tx rx) : classify tx rx = .wrongReply :=
  (if_neg h).trans ((if_neg (by simp [hc])).trans (if_neg hf))

theorem classify_noisy (hf : Fits tx rx) (hn : ∃ c ∈ replyChars rx, c.noise = true) : classify tx rx = .noisy :=
  (if_neg h).trans ((if_neg (by simp [hc])).trans ((if_pos hf).trans (if_pos (List.any_eq_true.mpr hn))))

theorem classify_good (hf : Fits tx rx) (hn : ∀ c ∈ replyChars rx, c.noise = false) : classify tx rx = .good := by
  have hnone : ¬ (replyChars rx).any RxChar.noise = true := by
    rw [List.any_eq_true]
    rintro ⟨c, hmem, hnoise⟩
    exact absurd ((hn c hmem).symm.trans hnoise) (by simp)
  exact (if_neg h).trans ((if_neg (by simp [hc])).trans ((if_pos hf).trans (if_neg hnone)))

end

/-- Settles O45. -/
theorem allowedReplies : Obligations.AllowedReplies := by
  refine ⟨fun k hk => ⟨?_, ?_, fun tx rx hne hc hkind hwrong => ?_⟩, rfl, fun o => ?_, fun tx before rest a hbefore =>
    ⟨replyChars_of_none hbefore, classify_of_none (replyChars_of_none hbefore), fun ha => ?_⟩⟩
  · simp [allowed]
  · simp [allowed]
  · refine classify_wrong hne hc fun ⟨hallowed, _, hdrop⟩ => ?_
    rw [BitVec.toNat_setWidth] at hdrop
    rcases hwrong with h | h
    · rw [← hkind, hallowed] at h
      exact absurd h (by simp)
    · exact h hdrop
  · cases o <;> simp [LineOutcome.isGood]
  · intro rx cs d fits
    have hchars : replyChars rx = cs := replyChars_append hbefore ha
    have hne : replyChars rx ≠ [] := by rw [hchars]; exact List.cons_ne_nil _ _
    have hcorrupt : replyCorrupt rx = true ↔ CorruptReply before cs := replyCorrupt_iff hbefore ha
    have hdata : replyData rx = d := congrArg (List.map RxChar.data) hchars
    have hsound (h : ¬ CorruptReply before cs) : replyCorrupt rx = false := by
      rwa [← Bool.not_eq_true, hcorrupt]
    have hfits : Fits tx rx ↔ fits := by
      rw [Fits, addressed_iff, replyKind, hdata]
      exact Iff.rfl
    refine ⟨hchars, congrArg (byteAt · 1) hdata, ?_, hcorrupt, fun h => classify_corrupt hne (hcorrupt.mpr h),
      fun h hf => classify_wrong hne (hsound h) (hfits.not.mpr hf), fun h hf hn => ?_, fun h hf hn => ?_⟩
    · rw [replyBody, hdata]
    · exact classify_noisy hne (hsound h) (hfits.mpr hf) (hchars ▸ hn)
    · exact classify_good hne (hsound h) (hfits.mpr hf) (hchars ▸ hn)

/-! ## What is taken of samples (R128, R129) -/

section
variable (c : RxChar) (i : Nat)

/-- The value of a bit is that of two of its samples. -/
theorem rxChar_majority {v : Bool}
    (h : (c.first.getLsbD i = v ∧ c.second.getLsbD i = v) ∨ (c.first.getLsbD i = v ∧ c.third.getLsbD i = v)
      ∨ (c.second.getLsbD i = v ∧ c.third.getLsbD i = v)) : c.bits.getLsbD i = v := by
  simp only [RxChar.bits, BitVec.getLsbD_or, BitVec.getLsbD_and]
  rcases h with ⟨h, h'⟩ | ⟨h, h'⟩ | ⟨h, h'⟩ <;> rw [h, h'] <;> cases v <;> simp

theorem rxChar_data_bit {i : Nat} (h : i < 8) : c.data.getLsbD i = c.bits.getLsbD (i + 1) := by
  simp [RxChar.data, h, Nat.add_comm]

theorem rxChar_noise_iff : c.noise = true ↔ ∃ i : Nat, i < 11 ∧ (c.first.getLsbD i ≠ c.second.getLsbD i
    ∨ c.second.getLsbD i ≠ c.third.getLsbD i) := by
  have hsame (x y : LineChar) : x = y ↔ ∀ i < 11, x.getLsbD i = y.getLsbD i :=
    ⟨fun h i _ => h ▸ rfl, BitVec.eq_of_getLsbD_eq⟩
  rw [RxChar.noise, Bool.not_eq_true', Bool.and_eq_false_iff, beq_eq_false_iff_ne, beq_eq_false_iff_ne, ne_eq, ne_eq,
    hsame, hsame]
  push Not
  constructor
  · rintro (⟨i, hi, h⟩ | ⟨i, hi, h⟩)
    · exact ⟨i, hi, .inl h⟩
    · exact ⟨i, hi, .inr h⟩
  · rintro ⟨i, hi, h | h⟩
    · exact .inl ⟨i, hi, h⟩
    · exact .inr ⟨i, hi, h⟩

end

section
variable (n : Bool) (b : Byte)

theorem cleanChar_data : (cleanChar n b).data = b := by
  refine BitVec.eq_of_getLsbD_eq fun i hi => ?_
  rw [rxChar_data_bit _ hi, cleanChar_bits, sentChar, BitVec.getLsbD_append, if_neg (by omega), BitVec.getLsbD_append,
    if_pos (by omega), Nat.add_sub_cancel]

theorem cleanChar_ninth : (cleanChar n b).ninth = n := by
  rw [RxChar.ninth, cleanChar_bits, sentChar, BitVec.getLsbD_append, if_neg (by decide), BitVec.getLsbD_append,
    if_neg (by decide), BitVec.getLsbD_append, if_pos (by decide)]
  cases n <;> rfl

theorem cleanChar_framing : (cleanChar n b).framing = false := by
  rw [RxChar.framing, cleanChar_bits, sentChar, BitVec.getLsbD_append, if_neg (by decide), BitVec.getLsbD_append,
    if_neg (by decide), BitVec.getLsbD_append, if_neg (by decide)]
  rfl

theorem cleanChar_noise : (cleanChar n b).noise = false := by simp [cleanChar, RxChar.noise]

end

/-! ## An undamaged reply (R132, R199, R202) -/

/-- The characters of an undamaged reply after its address character. -/
def cleanRest (drop : Nat) (kind : Byte) (body : List Byte) : List RxChar :=
  (kind :: body ++ crcBytes (crc (byte1 (128 + drop) :: kind :: body))).map (cleanChar false)

section
variable {drop : Nat} {kind : Byte} {body : List Byte}

theorem goodReply_eq : goodReply drop kind body =
    cleanChar true (byte1 (128 + drop)) :: cleanRest drop kind body := rfl

theorem goodReply_length : (goodReply drop kind body).length = body.length + 4 := by
  simp [goodReply_eq, cleanRest, crcBytes]

theorem goodReply_clean {c : RxChar} (h : c ∈ goodReply drop kind body) : c.framing = false ∧ c.noise = false := by
  rw [goodReply_eq] at h
  rcases List.mem_cons.mp h with rfl | h
  · exact ⟨cleanChar_framing _ _, cleanChar_noise _ _⟩
  · obtain ⟨b, -, rfl⟩ := List.mem_map.mp h
    exact ⟨cleanChar_framing _ _, cleanChar_noise _ _⟩

theorem goodReply_chars (h : body.length < 296) : replyChars (goodReply drop kind body) = goodReply drop kind body := by
  have hchars := replyChars_append (before := []) (rest := cleanRest drop kind body)
    (a := cleanChar true (byte1 (128 + drop))) (by simp) (cleanChar_ninth _ _)
  rw [List.nil_append, ← goodReply_eq] at hchars
  rw [hchars, List.take_of_length_le (by rw [goodReply_length]; omega)]

theorem goodReply_data (h : body.length < 296) :
    replyData (goodReply drop kind body) = lineFrame (byte1 (128 + drop)) kind body := by
  rw [replyData, goodReply_chars h, goodReply_eq, cleanRest, List.map_cons, List.map_map]
  have hdata : RxChar.data ∘ cleanChar false = id := funext (cleanChar_data false)
  rw [hdata, List.map_id, cleanChar_data]
  rfl

/-- The length that the kind gives is that of the frame. -/
def LengthFits (kind : Byte) (body : List Byte) : Prop :=
  (kind = lineReport → body.length = 13) ∧ (kind = lineFault → body.length = 4)
    ∧ (kind = lineCaps → 12 ≤ body.length ∧ body.length = 12 + 2 * (byteAt body 11).toNat ∧ body.length < 296)

theorem allowed_kinds {q : LineRequest} (h : allowed q kind = true) :
    kind = lineReport ∨ kind = lineFault ∨ kind = lineCaps := by
  cases q <;> simp only [allowed, Bool.or_eq_true, beq_iff_eq] at h <;> tauto

theorem lineFrame_length (addr : Byte) : (lineFrame addr kind body).length = body.length + 4 := by
  simp [lineFrame, crcBytes]

theorem lineFrame_checks (addr : Byte) : checkAgrees (lineFrame addr kind body) = true := by
  have hcut : (lineFrame addr kind body).length - 2 = (addr :: kind :: body).length := by
    rw [lineFrame_length]
    rfl
  rw [checkAgrees_iff, hcut, lineFrame, List.drop_left, List.take_left]

theorem lineFrame_fits {q : LineRequest} (h : allowed q kind = true) (hl : LengthFits kind body) (addr : Byte) :
    body.length < 296 ∧ frameLength (lineFrame addr kind body) = some (lineFrame addr kind body).length := by
  obtain ⟨hreport, hfault, hcaps⟩ := hl
  rw [lineFrame_length, frameLength_iff]
  have hkind : byteAt (lineFrame addr kind body) 1 = kind := rfl
  rw [hkind]
  rcases allowed_kinds h with rfl | rfl | rfl
  · have := hreport rfl
    exact ⟨by omega, .inr (.inr (.inl ⟨rfl, by omega⟩))⟩
  · have := hfault rfl
    exact ⟨by omega, .inr (.inr (.inr (.inl ⟨rfl, by omega⟩)))⟩
  · obtain ⟨hmin, hcount, hmax⟩ := hcaps rfl
    have hbyte : byteAt (lineFrame addr lineCaps body) 13 = byteAt body 11 := by
      simp [lineFrame, byteAt, List.getElem?_append_left (show 11 < body.length by omega)]
    rw [hbyte]
    exact ⟨hmax, .inr (.inr (.inr (.inr ⟨rfl, by omega⟩)))⟩

/-- Nothing in an undamaged reply of a fitting length is CORRUPT. -/
theorem goodReply_sound {q : LineRequest} (h : allowed q kind = true) (hl : LengthFits kind body) :
    replyCorrupt (goodReply drop kind body) = false := by
  obtain ⟨hshort, hlength⟩ := lineFrame_fits h hl (byte1 (128 + drop))
  have hstray : strayBefore (goodReply drop kind body) = false := by
    rw [goodReply_eq, strayBefore, cleanChar_ninth]
    rfl
  have hframing : (goodReply drop kind body).any RxChar.framing = false := by
    rw [List.any_eq_false]
    exact fun c hc => by simp [(goodReply_clean hc).1]
  have hninth : ((goodReply drop kind body).drop 1).any RxChar.ninth = false := by
    rw [List.any_eq_false, goodReply_eq, List.drop_one, List.tail_cons]
    intro c hc
    obtain ⟨b, -, rfl⟩ := List.mem_map.mp hc
    simp [cleanChar_ninth]
  have hlimit : ¬ Config.replyLimit ≤ (goodReply drop kind body).length := by
    rw [goodReply_length, Config.replyLimit]
    omega
  simp only [replyCorrupt, goodReply_chars hshort, goodReply_data hshort, hstray, hframing, hninth, lineFrame_checks,
    hlength, hlimit, decide_false, Bool.not_true, bne_self_eq_false, Bool.or_self]

theorem goodReply_address (hdrop : drop < 128) (h : body.length < 296) :
    (byteAt (replyData (goodReply drop kind body)) 0).toNat = 128 + drop := by
  rw [goodReply_data h]
  exact byte1_toNat (by omega)

theorem goodReply_kind (h : body.length < 296) : replyKind (goodReply drop kind body) = kind := by
  rw [replyKind, goodReply_data h]
  rfl

theorem goodReply_body (h : body.length < 296) : replyBody (goodReply drop kind body) = body := by
  rw [replyBody, goodReply_data h, lineFrame_length, Nat.add_sub_cancel]
  exact List.take_left

end

theorem be16_eq (hi lo : Byte) : be16 hi lo = 256 * hi.toNat + lo.toNat := by rw [be16, Nat.mul_comm]

/-- Settles O46. -/
theorem undamagedReplyIsGood : Obligations.UndamagedReplyIsGood := by
  refine ⟨fun c => ⟨fun i v => rxChar_majority c i, fun i => rxChar_data_bit c, rfl, ?_, rxChar_noise_iff c⟩,
    fun n b => ⟨cleanChar_data n b, cleanChar_ninth n b, cleanChar_framing n b, cleanChar_noise n b⟩,
    fun tx kind body hdrop hallowed hreport hfault hcaps => ?_, fun b => ?_⟩
  · rw [RxChar.framing, Bool.not_eq_true']
  · have hl : LengthFits kind body := ⟨hreport, hfault, hcaps⟩
    obtain ⟨hshort, -⟩ := lineFrame_fits hallowed hl (byte1 (128 + tx.drop))
    have haddress := goodReply_address (kind := kind) hdrop hshort
    have hfits : Fits tx (goodReply tx.drop kind body) := by
      rw [Fits, goodReply_kind hshort, addressed_iff, haddress]
      exact ⟨hallowed, by omega, by omega⟩
    have hchars := goodReply_chars (drop := tx.drop) (kind := kind) hshort
    refine ⟨classify_good (by rw [hchars]; exact List.cons_ne_nil _ _) (goodReply_sound hallowed hl) hfits ?_,
      goodReply_kind hshort, goodReply_body hshort⟩
    rw [hchars]
    exact fun c hc => (goodReply_clean hc).2
  · intro w
    have hword (i : Nat) : wordAt b i = w i := be16_eq _ _
    refine ⟨?_, hword 0, hword 2, ?_, ?_, ?_, fun i hi => ?_⟩
    · simp only [reportOf, hword]
      rfl
    · simp only [capsOf, longAt, hword]
      rfl
    · simp only [capsOf, hword]
      rfl
    · simp only [capsOf, List.length_map, List.length_range]
      rfl
    · have hcount : i < (byteAt b 11).toNat := hi
      simp [capsOf, hword, hcount]

end Sys2Proof.Machine

/-! PROOFS. The turn that a line picks, and the end of a break (R130, R131, R136 to R142). -/

namespace Sys2Proof.Machine

/-! ## A line falls idle (R131) -/

section
variable {c : LineCtl}

theorem LineCtl.mayStart_iff (c : LineCtl) :
    c.mayStart = true ↔ c.inFlight = none ∧ c.breakPending = false ∧ c.breaking = false := by
  simp [LineCtl.mayStart, and_assoc]

/-- With no break that waits, falling idle ends the busy state alone. -/
theorem LineCtl.fallIdle_of_unasked (h : c.breakPending = false) : c.fallIdle = { c with busy := false } := by
  cases hb : c.busy with
  | false =>
    rw [LineCtl.fallIdle_idle c hb, ← hb]
  | true => rw [LineCtl.fallIdle_busy c hb, if_neg (by simp [h])]

/-- A break that waited for a busy line alone starts when it falls idle. -/
theorem LineCtl.fallIdle_breaks (hbusy : c.busy = true) (hasked : c.breakPending = true) (hflight : c.inFlight = none)
    (hbreaking : c.breaking = false) : c.fallIdle = { c with busy := false, breakPending := false, breaking := true } := by
  rw [LineCtl.fallIdle_busy c hbusy, if_pos ⟨hasked, hflight, hbreaking⟩]

/-- A line whose break is being sent falls idle without another one. -/
theorem LineCtl.fallIdle_of_breaking (h : c.breaking = true) : c.fallIdle = { c with busy := false } := by
  cases hb : c.busy with
  | false => rw [LineCtl.fallIdle_idle c hb, ← hb]
  | true => rw [LineCtl.fallIdle_busy c hb, if_neg (by simp [h])]

theorem LineCtl.endBreak_of_breaking (h : c.fallIdle.breaking = true) :
    c.endBreak = ({ c.fallIdle with breaking := false, urgent := [] } : LineCtl).startBreak :=
  if_pos h

theorem LineCtl.startBreak_of_unasked (h : c.breakPending = false) : c.startBreak = c := if_neg (by simp [h])

/-- A break that ends with no other asked for leaves the space level (R142). -/
theorem LineCtl.endBreak_ends (hbreaking : c.breaking = true) (hasked : c.breakPending = false) :
    c.endBreak = { c with breaking := false, busy := false, urgent := [] } := by
  have hidle := LineCtl.fallIdle_of_breaking hbreaking
  rw [LineCtl.endBreak_of_breaking (by rw [hidle]; exact hbreaking), hidle]
  exact LineCtl.startBreak_of_unasked hasked

/-- A break asked for meanwhile follows at once (R142). -/
theorem LineCtl.endBreak_repeats (hbreaking : c.breaking = true) (hasked : c.breakPending = true)
    (hflight : c.inFlight = none) : c.endBreak = { c with breakPending := false, busy := false, urgent := [] } := by
  have hidle := LineCtl.fallIdle_of_breaking hbreaking
  rw [LineCtl.endBreak_of_breaking (by rw [hidle]; exact hbreaking), hidle]
  refine (if_pos ⟨hasked, hflight, rfl, rfl⟩).trans ?_
  rw [← hbreaking]

/-- A break that waited for a busy line has started when it falls idle, and ends (R131, R142). -/
theorem LineCtl.endBreak_waited (hbusy : c.busy = true) (hasked : c.breakPending = true) (hflight : c.inFlight = none)
    (hbreaking : c.breaking = false) : c.endBreak = { c with busy := false, breakPending := false, urgent := [] } := by
  have hidle := LineCtl.fallIdle_breaks hbusy hasked hflight hbreaking
  rw [LineCtl.endBreak_of_breaking (by rw [hidle]), hidle]
  refine (LineCtl.startBreak_of_unasked rfl).trans ?_
  rw [← hbreaking]

end

/-! ## The turn picked (R136 to R141) -/

/-- What a turn sends, and what is then in flight (R130, R136, R145). -/
def LineCtl.sent (site : SiteRec) (x : Turn) (c : LineCtl) : LineCtl :=
  { c.afterTurn x with
    busy := false
    inFlight := some
      { drop := x.drop, pad := x.pad, request := x.request, slot := x.slot
        timeout := site.replyTimeout, inDiscovery := x.slot == .normal && c.discovery }
    wire := turnFrame site x }

theorem LineCtl.afterTurn_idle (x : Turn) (c : LineCtl) :
    ({ c with busy := false } : LineCtl).afterTurn x = { c.afterTurn x with busy := false } := by
  unfold LineCtl.afterTurn
  split <;> rfl

section
variable {l : LineId} {s : State}

theorem offered_iff {ms : List Nat} {mark : Bool} : offered ms mark = true ↔ mark = false ∨ ms = [] := by
  cases mark <;> simp [offered]

theorem offered_eq_false {ms : List Nat} {mark : Bool} : offered ms mark = false ↔ mark = true ∧ ms ≠ [] := by
  cases mark <;> simp [offered]

theorem pickTurn_fallIdle (h : (s.lines[l.val]).breakPending = false) :
    pickTurn (s.updLine l LineCtl.fallIdle) l = pickTurn s l := by
  simp only [pickTurn, Fin.getElem_fin, State.updLine_same, LineCtl.fallIdle_of_unasked h]
  rfl

theorem mayStart_fallIdle (h : (s.lines[l.val]).mayStart = true) :
    ((s.updLine l LineCtl.fallIdle).lines[l]).mayStart = true := by
  rw [LineCtl.mayStart_iff] at h ⊢
  rw [Fin.getElem_fin, State.updLine_same, LineCtl.fallIdle_of_unasked h.2.1]
  exact h

/-- A line that may start sends the turn it picks. -/
theorem startTransaction_picks {x : Turn} (hmay : (s.lines[l.val]).mayStart = true) (hpick : pickTurn s l = some x) :
    startTransaction l s = s.withLines (s.lines.set l ((s.lines[l.val]).sent s.site x)) := by
  have hunasked := ((LineCtl.mayStart_iff _).mp hmay).2.1
  have hmay' := mayStart_fallIdle hmay
  unfold startTransaction pickAndSend
  rw [if_neg (by rw [hmay']; decide), pickTurn_fallIdle hunasked, hpick]
  dsimp only
  rw [State.updLine_updLine, State.updLine]
  have hline : (s.lines[l]).fallIdle = { s.lines[l.val] with busy := false } := LineCtl.fallIdle_of_unasked hunasked
  rw [hline, LineCtl.afterTurn_idle]
  rfl

/-- A line that has nothing to address stays silent. -/
theorem startTransaction_silent (hmay : (s.lines[l.val]).mayStart = true) (hpick : pickTurn s l = none) :
    startTransaction l s = s.withLines (s.lines.set l { s.lines[l.val] with busy := false }) := by
  have hunasked := ((LineCtl.mayStart_iff _).mp hmay).2.1
  have hmay' := mayStart_fallIdle hmay
  unfold startTransaction pickAndSend
  rw [if_neg (by rw [hmay']; decide), pickTurn_fallIdle hunasked, hpick]
  dsimp only
  rw [State.updLine]
  have hline : (s.lines[l]).fallIdle = { s.lines[l.val] with busy := false } := LineCtl.fallIdle_of_unasked hunasked
  rw [hline]

/-- The final poll list goes first (R138, R141). -/
theorem pickTurn_final {d : Nat} {ds : List Nat} (h : (s.lines[l.val]).final = d :: ds)
    (ho : (s.lines[l.val]).finalOffered = false ∨ s.members l = []) :
    pickTurn s l = some { drop := d, pad := none, request := .poll, slot := .final, setpoint := 0 } := by
  simp only [pickTurn, Fin.getElem_fin, offered_iff.mpr ho, if_true, finalTurn, h, List.head?_cons, Option.map_some]

theorem finalTurn_skipped
    (h : (s.lines[l.val]).final = [] ∨ ((s.lines[l.val]).finalOffered = true ∧ s.members l ≠ [])) :
    (if offered (s.members l) (s.lines[l.val]).finalOffered then finalTurn s.lines[l.val] else none) = none := by
  rcases h with h | h
  · simp [finalTurn, h]
  · simp [offered_eq_false.mpr h]

theorem urgentTurn_skipped
    (h : (s.lines[l.val]).urgent = [] ∨ ((s.lines[l.val]).urgentOffered = true ∧ s.members l ≠ [])) :
    (if offered (s.members l) (s.lines[l.val]).urgentOffered then urgentTurn s s.lines[l.val] else none) = none := by
  rcases h with h | h
  · simp [urgentTurn, h]
  · simp [offered_eq_false.mpr h]

/-- Then the urgent list (R138, R139). -/
theorem pickTurn_urgent {p : PadId} {ps : List PadId}
    (hf : (s.lines[l.val]).final = [] ∨ ((s.lines[l.val]).finalOffered = true ∧ s.members l ≠ []))
    (h : (s.lines[l.val]).urgent = p :: ps) (ho : (s.lines[l.val]).urgentOffered = false ∨ s.members l = []) :
    pickTurn s l = some
      { drop := (s.padRec p).drop, pad := some p, request := .poll, slot := .urgent, setpoint := s.pads[p].sent } := by
  simp only [pickTurn, Fin.getElem_fin, finalTurn_skipped hf, offered_iff.mpr ho, if_true, urgentTurn, h,
    List.head?_cons, Option.map_some]

/-- Then the cycle (R137, R138). -/
theorem pickTurn_cycle
    (hf : (s.lines[l.val]).final = [] ∨ ((s.lines[l.val]).finalOffered = true ∧ s.members l ≠ []))
    (hu : (s.lines[l.val]).urgent = [] ∨ ((s.lines[l.val]).urgentOffered = true ∧ s.members l ≠ [])) :
    pickTurn s l = normalTurn s l s.lines[l.val] := by
  simp only [pickTurn, Fin.getElem_fin, finalTurn_skipped hf, urgentTurn_skipped hu]

/-- The member that the cycle addresses next (R137). -/
theorem nextMember_eq {ms : List Nat} {position : Option Nat} {d : Nat} (hd : d ∈ ms)
    (h : (∃ k : Nat, position = some k ∧ k < d ∧ ∀ m : Nat, m ∈ ms → k < m → d ≤ m)
      ∨ ((∀ k : Nat, position = some k → ∀ m : Nat, m ∈ ms → m ≤ k) ∧ ∀ m : Nat, m ∈ ms → d ≤ m)) :
    nextMember ms position = some d := by
  rcases h with ⟨k, rfl, hk, hleast⟩ | ⟨habove, hleast⟩
  · have hmin : (ms.filter fun x => decide (k < x)).min? = some d := by
      rw [List.min?_eq_some_iff]
      simp only [List.mem_filter, decide_eq_true_eq, and_imp]
      exact ⟨⟨hd, hk⟩, hleast⟩
    simp only [nextMember, hmin]
  · have hmin : ms.min? = some d := List.min?_eq_some_iff.mpr ⟨hd, hleast⟩
    cases position with
    | none => exact hmin
    | some k =>
      have hnone : ms.filter (fun x => decide (k < x)) = [] := by
        rw [List.filter_eq_nil_iff]
        intro m hm
        simpa using habove k rfl m hm
      simp only [nextMember, hnone, List.min?_nil, hmin]

/-- The pad at an address: the lowest that holds it. -/
theorem padAt_eq {p : PadId} {d : Nat} (hon : s.onLine l p = true) (hd : (s.padRec p).drop = d)
    (hlowest : ∀ q : PadId, q < p → s.onLine l q = true → (s.padRec q).drop ≠ d) : s.padAt l d = some p := by
  rw [State.padAt, List.find?_eq_some_iff_getElem]
  refine ⟨by simp [hon, hd], p.val, by simp [allPads], by simp [allPads], fun j hj => ?_⟩
  simp only [allPads, List.getElem_finRange, Fin.cast_mk, Bool.not_eq_true', Bool.and_eq_false_iff, beq_eq_false_iff_ne]
  by_cases hq : s.onLine l ⟨j, by omega⟩ = true
  · exact .inr (hlowest ⟨j, by omega⟩ hj hq)
  · exact .inl (by simpa using hq)

end

/-! ## The characters sent (R128) -/

section
variable (n : Bool) (b : Byte)

theorem sentChar_start : (sentChar n b).getLsbD 0 = false := by
  rw [sentChar, BitVec.getLsbD_append, if_pos (by decide)]
  rfl

theorem sentChar_ninth : (sentChar n b).getLsbD 9 = n := by
  rw [← cleanChar_bits]
  exact cleanChar_ninth n b

theorem sentChar_stop : (sentChar n b).getLsbD 10 = true := by
  have hframing := cleanChar_framing n b
  rwa [RxChar.framing, Bool.not_eq_false', cleanChar_bits] at hframing

theorem sentChar_data {i : Nat} (h : i < 8) : (sentChar n b).getLsbD (i + 1) = b.getLsbD i := by
  rw [← cleanChar_bits, ← rxChar_data_bit _ h, cleanChar_data]

end

/-- Settles O44. -/
theorem turnsArePickedAndBreaksEnd : Obligations.TurnsArePickedAndBreaksEnd := by
  have hstarts (l : LineId) (s : State) :
      exec (.transactionStart l) s = .next (driveOutputs (startTransaction l s)) := rfl
  have hends (l : LineId) (s : State) : exec (.lineBreakEnd l) s =
      .next (driveOutputs (s.withLines (s.lines.set l (s.lines[l]).endBreak))) := rfl
  refine ⟨fun l s hmay => ⟨fun d ds hf ho => ?_, fun p ps hf hu ho => ?_,
      fun d p hf hu hd hnext hon hline hdrop hlowest => ?_, fun hf hu hm => ?_⟩,
    fun l d s => mem_members, LineCtl.mayStart_iff, fun l s hbusy hasked hflight hbreaking => ⟨?_, ?_⟩,
    fun drop setpoint validity period a rest n b => ⟨rfl, rfl, rfl, sentChar_start n b, sentChar_ninth n b,
      sentChar_stop n b, fun i => sentChar_data n b⟩,
    fun l s hbreaking => ⟨fun hasked => ?_, fun hasked hflight => ?_⟩⟩
  · have htail : (s.lines[l.val]).final.drop 1 = ds := congrArg (List.drop 1) hf
    rw [hstarts, startTransaction_picks hmay (pickTurn_final hf ho), ← htail]
    rfl
  · have htail : (s.lines[l.val]).urgent.drop 1 = ps := congrArg (List.drop 1) hu
    rw [hstarts, startTransaction_picks hmay (pickTurn_urgent hf hu ho), ← htail]
    rfl
  · have hpad : s.padAt l d = some p := by
      refine padAt_eq (by simp [State.onLine, hon, hline]) hdrop fun q hq hqon => ?_
      simp only [State.onLine, Bool.and_eq_true, beq_iff_eq] at hqon
      exact hlowest q hq hqon.1 hqon.2
    have hpick : pickTurn s l = some
        { drop := d, pad := some p, request := if s.pads[p].state = .probing then .probe else .poll
          slot := .normal, setpoint := s.pads[p].sent } := by
      rw [pickTurn_cycle hf hu, normalTurn]
      have hmember : nextMember (s.members l) (s.lines[l.val]).position = some d := nextMember_eq hd hnext
      rw [hmember]
      exact congrArg (Option.map _) hpad
    rw [hstarts, startTransaction_picks hmay hpick]
    by_cases hprobing : s.pads[p].state = .probing
    · rw [if_pos hprobing, if_pos hprobing, if_pos hprobing]
      rfl
    · have hdistinct : (fun q => some q != some p) = fun q : PadId => decide (q ≠ p) := by
        funext q
        by_cases hq : q = p <;> simp [hq]
      rw [if_neg hprobing, if_neg hprobing, if_neg hprobing, ← hdistinct]
      rfl
  · have hpick : pickTurn s l = none := by
      have hnext : nextMember (s.members l) (s.lines[l.val]).position = none := by
        rw [hm]
        unfold nextMember
        split <;> rfl
      rw [pickTurn_cycle (.inl hf) (.inl hu), normalTurn, hnext]
    rw [hstarts, startTransaction_silent hmay hpick]
    rfl
  · have hidle := LineCtl.fallIdle_breaks hbusy hasked hflight hbreaking
    have hstays : ¬ ((s.updLine l LineCtl.fallIdle).lines[l]).mayStart = true := by
      rw [LineCtl.mayStart_iff, Fin.getElem_fin, State.updLine_same, ← Fin.getElem_fin, hidle]
      simp
    rw [hstarts, startTransaction, pickAndSend, if_pos (by simpa using hstays), State.updLine, hidle]
  · rw [hends, LineCtl.endBreak_waited hbusy hasked hflight hbreaking]
  · rw [hends, LineCtl.endBreak_ends hbreaking hasked]
  · rw [hends, LineCtl.endBreak_repeats hbreaking hasked hflight]

end Sys2Proof.Machine

/-! PROOFS. The validation of a bank and the end of the commit check (R12 to R18, R203). -/

namespace Sys2Proof.Machine

/-! ## The reason of one record (R13) -/

/-- The reason reported is the lowest code for which a record fails. -/
structure Judges (reason : Option Byte) (fails : Nat → Prop) : Prop where
  passes : reason = none → ∀ code, ¬ fails code
  lowest : ∀ c, reason = some c → fails c.toNat ∧ ∀ code, code < c.toNat → ¬ fails code

theorem judges_none {fails : Nat → Prop} (h : ∀ code, ¬ fails code) : Judges none fails :=
  ⟨fun _ => h, fun c hc => by cases hc⟩

theorem judges_nil : Judges (firstReason []) fun _ => False := judges_none fun _ => id

/-- A test before others, whose codes are higher. -/
theorem judges_cons {b : Bool} {c : Byte} {tests : List (Bool × Byte)} {fails later : Nat → Prop}
    (hlater : Judges (firstReason tests) later) (hlow : ∀ code, later code → c.toNat < code)
    (h : ∀ code, fails code ↔ (code = c.toNat ∧ b = true) ∨ later code) :
    Judges (firstReason ((b, c) :: tests)) fails := by
  cases b with
  | true =>
    refine ⟨fun hnone => by simp [firstReason] at hnone, fun d hd => ?_⟩
    have hcd : c = d := by simpa [firstReason] using hd
    subst hcd
    refine ⟨(h _).mpr (.inl ⟨rfl, rfl⟩), fun code hlt hf => ?_⟩
    rcases (h code).mp hf with ⟨heq, -⟩ | hl
    · omega
    · have := hlow code hl
      omega
  | false =>
    have heq : fails = later := funext fun code => by simp [h]
    rw [heq]
    exact hlater

/-- Three tests in ascending order of their codes. -/
theorem judges_three {b1 b2 b3 : Bool} {c1 c2 c3 : Byte} {fails : Nat → Prop} (h12 : c1.toNat < c2.toNat)
    (h23 : c2.toNat < c3.toNat)
    (h : ∀ code, fails code ↔ (code = c1.toNat ∧ b1 = true) ∨ (code = c2.toNat ∧ b2 = true)
      ∨ (code = c3.toNat ∧ b3 = true)) : Judges (firstReason [(b1, c1), (b2, c2), (b3, c3)]) fails := by
  refine judges_cons (later := fun code => (code = c2.toNat ∧ b2 = true) ∨ (code = c3.toNat ∧ b3 = true))
    (judges_cons (later := fun code => code = c3.toNat ∧ b3 = true)
      (judges_cons judges_nil (by simp) (by simp)) ?_ fun _ => Iff.rfl) ?_ h
  · rintro code ⟨rfl, -⟩
    exact h23
  · rintro code (⟨rfl, -⟩ | ⟨rfl, -⟩)
    · exact h12
    · exact h12.trans h23

/-- Two tests in ascending order of their codes. -/
theorem judges_two {b1 b2 : Bool} {c1 c2 : Byte} {fails : Nat → Prop} (h12 : c1.toNat < c2.toNat)
    (h : ∀ code, fails code ↔ (code = c1.toNat ∧ b1 = true) ∨ (code = c2.toNat ∧ b2 = true)) :
    Judges (firstReason [(b1, c1), (b2, c2)]) fails := by
  refine judges_cons (later := fun code => code = c2.toNat ∧ b2 = true) (judges_cons judges_nil (by simp) (by simp)) ?_ h
  rintro code ⟨rfl, -⟩
  exact h12

theorem outside_iff {lo hi n : Nat} : outside lo hi n = true ↔ ¬ (lo ≤ n ∧ n ≤ hi) := by
  simp only [outside, Bool.or_eq_true, decide_eq_true_eq]
  omega

theorem siteReason_judges (b : Bank) : Judges (siteReason b.site) (recordFails b .site 0) := by
  refine judges_three (by decide) (by decide) fun code => ?_
  simp only [recordFails, true_and, Bool.or_eq_true, outside_iff, decide_eq_true_eq]
  have h1 : (1 : Byte).toNat = 1 := rfl
  have h4 : (4 : Byte).toNat = 4 := rfl
  have h7 : (7 : Byte).toNat = 7 := rfl
  rw [h1, h4, h7]
  refine or_congr_left (and_congr_right fun _ => ?_)
  omega

theorem thresholdsOut_iff (v : FeederRec) : thresholdsOut v = true ↔
    (v.monitor = .notify ∧ ¬ v.warnLevel < v.warnRelease)
      ∨ (v.monitor = .shedOnly ∧ ¬ v.shedLevel < v.shedRelease)
      ∨ (v.monitor = .notifyAndShed
        ∧ ¬ (v.warnLevel < v.warnRelease ∧ v.shedLevel < v.shedRelease
          ∧ v.shedLevel < v.warnLevel ∧ v.shedRelease ≤ v.warnRelease)) := by
  unfold thresholdsOut
  cases hm : v.monitor with
  | off => simp
  | notify => simp
  | shedOnly => simp
  | notifyAndShed =>
    simp only [Bool.or_eq_true, decide_eq_true_eq, reduceCtorEq, false_and, false_or, true_and]
    omega

theorem feederReason_judges (b : Bank) (g : GroupId) :
    Judges (feederReason b.feeder[g]) (recordFails b .feeder g.val) := by
  have hrec (code : Nat) : recordFails b .feeder g.val code ↔ b.feeder[g][0] ≠ 0 ∧
      ((code = 1 ∧ ¬ (b.feeder[g][0] = 1 ∧ (b.feederRec g).rated ≤ 4000 ∧ (b.feederRec g).fallback ≤ 4000
          ∧ (b.feederRec g).shed ≤ 4000 ∧ 1 ≤ (b.feederRec g).ramp ∧ (b.feederRec g).ramp ≤ 400
          ∧ (b.feederRec g).tolerance ≤ 50 ∧ 1 ≤ (b.feederRec g).overdrawLimit ∧ (b.feederRec g).overdrawLimit ≤ 7
          ∧ (b.feederRec g).warnLevel ≤ 1000 ∧ (b.feederRec g).warnRelease ≤ 1000 ∧ (b.feederRec g).shedLevel ≤ 1000
          ∧ (b.feederRec g).shedRelease ≤ 1000))
        ∨ (code = 5 ∧ ((b.feederRec g).rated < (b.feederRec g).fallback ∨ (b.feederRec g).rated < (b.feederRec g).shed))
        ∨ (code = 6 ∧ thresholdsOut (b.feederRec g) = true)) := by
    simp only [thresholdsOut_iff]
    constructor
    · rintro ⟨k, hk, h⟩
      obtain rfl : k = g := Fin.ext hk
      exact h
    · exact fun h => ⟨g, rfl, h⟩
  by_cases hzero : b.feeder[g][0] = 0
  · have hnone : feederReason b.feeder[g] = none := if_pos hzero
    rw [hnone]
    exact judges_none fun code h => ((hrec code).mp h).1 hzero
  · have hjudged : feederReason b.feeder[g] = _ := if_neg hzero
    rw [hjudged]
    refine judges_three (by decide) (by decide) fun code => ?_
    rw [hrec]
    have h1 : (1 : Byte).toNat = 1 := rfl
    have h5 : (5 : Byte).toNat = 5 := rfl
    have h6 : (6 : Byte).toNat = 6 := rfl
    simp only [ne_eq, hzero, not_false_eq_true, true_and, h1, h5, h6, Bool.or_eq_true, outside_iff, decide_eq_true_eq]
    refine or_congr (and_congr_right fun _ => ?_) Iff.rfl
    by_cases hone : b.feeder[g][0] = 1
    · simp only [hone, true_and, not_true_eq_false, false_or, Bank.feederRec]
      omega
    · simp only [hone, false_and, not_false_eq_true, true_or]

theorem duplicateDrop_iff (b : Bank) (p : PadId) : duplicateDrop b p = true ↔ ∃ q : PadId, q < p
    ∧ (b.padRec q).enabled = true ∧ (b.padRec q).line = (b.padRec p).line ∧ (b.padRec q).drop = (b.padRec p).drop := by
  simp [duplicateDrop, allPads, and_assoc]

theorem padReason_judges (b : Bank) (p : PadId) : Judges (padReason b p) (recordFails b .pad p.val) := by
  have hrec (code : Nat) : recordFails b .pad p.val code ↔ b.pad[p][0] ≠ 0 ∧
      ((code = 1 ∧ ¬ (b.pad[p][0] = 1 ∧ b.pad[p][2].toNat ≤ 3 ∧ 1 ≤ b.pad[p][3].toNat ∧ b.pad[p][3].toNat ≤ 16
          ∧ b.pad[p][4].toNat ≤ 7 ∧ b.pad[p][5].toNat ≤ 3 ∧ be16 b.pad[p][6] b.pad[p][7] ≤ 400))
        ∨ (code = 2 ∧ (b.feederRec (b.padRec p).group).enabled = false)
        ∨ (code = 3 ∧ duplicateDrop b p = true)) := by
    simp only [duplicateDrop_iff]
    constructor
    · rintro ⟨k, hk, h⟩
      obtain rfl : k = p := Fin.ext hk
      exact h
    · exact fun h => ⟨p, rfl, h⟩
  by_cases hzero : b.pad[p][0] = 0
  · have hnone : padReason b p = none := if_pos hzero
    rw [hnone]
    exact judges_none fun code h => ((hrec code).mp h).1 hzero
  · have hjudged : padReason b p = _ := if_neg hzero
    rw [hjudged]
    refine judges_three (by decide) (by decide) fun code => ?_
    rw [hrec]
    have h1 : (1 : Byte).toNat = 1 := rfl
    have h2 : (2 : Byte).toNat = 2 := rfl
    have h3 : (3 : Byte).toNat = 3 := rfl
    simp only [ne_eq, hzero, not_false_eq_true, true_and, h1, h2, h3, Bool.or_eq_true, outside_iff, decide_eq_true_eq,
      Bool.not_eq_true']
    refine or_congr (and_congr_right fun _ => ?_) Iff.rfl
    have hdrop : (b.padRec p).drop = b.pad[p][3].toNat := rfl
    have hcls : (b.padRec p).cls = b.pad[p][5].toNat := rfl
    have hceiling : (b.padRec p).ceiling = be16 b.pad[p][6] b.pad[p][7] := rfl
    rw [hdrop, hcls, hceiling]
    by_cases hone : b.pad[p][0] = 1
    · simp only [hone, true_and, not_true_eq_false, false_or]
      omega
    · simp only [hone, false_and, not_false_eq_true, true_or]

theorem functionOf_shed (b : Byte) : functionOf b = .shed ↔ b = 1 := by
  constructor
  · intro h
    unfold functionOf at h
    split at h
    · exact BitVec.eq_of_toNat_eq ‹_›
    all_goals cases h
  · rintro rfl
    rfl

theorem takesArgument_iff (b : Byte) : (sourceOf b).takesArgument = true ↔ b = 3 ∨ b = 4 ∨ b = 9 := by
  constructor
  · intro h
    unfold sourceOf at h
    split at h
    case h_3 heq => exact .inl (BitVec.eq_of_toNat_eq heq)
    case h_4 heq => exact .inr (.inl (BitVec.eq_of_toNat_eq heq))
    case h_9 heq => exact .inr (.inr (BitVec.eq_of_toNat_eq heq))
    all_goals cases h
  · rintro (rfl | rfl | rfl) <;> rfl

theorem inputRange_iff (r : Vector Byte 4) :
    (outside 0 3 r[0].toNat || outside 0 4 r[2].toNat
      || ((inputView r).function == .shed && outside 0 7 r[1].toNat)) = true ↔
      ¬ (r[0].toNat ≤ 3 ∧ r[2].toNat ≤ 4 ∧ (r[0] = 1 → r[1].toNat ≤ 7)) := by
  have hshed : (inputView r).function = .shed ↔ r[0] = 1 := functionOf_shed _
  simp only [Bool.or_eq_true, outside_iff, Bool.and_eq_true, beq_iff_eq, hshed]
  by_cases hone : r[0] = 1
  · simp only [hone, true_and, forall_const]
    omega
  · simp only [hone, false_and, or_false, false_implies, and_true]
    omega

theorem inputReason_judges (b : Bank) (i : InputId) : Judges (inputReason b i) (recordFails b .line i.val) := by
  refine judges_two (by decide) fun code => ?_
  have hgroup : ((inputView (b.line[i.val]'(by omega))).function == .shed
      && !(b.feederRec (inputView (b.line[i.val]'(by omega))).group).enabled) = true ↔
      (b.line[i.val]'(by omega))[0] = 1 ∧ (b.feederRec (b.inputRec i).group).enabled = false := by
    rw [Bool.and_eq_true, beq_iff_eq, Bool.not_eq_true']
    exact and_congr_left fun _ => functionOf_shed _
  rw [inputRange_iff, hgroup]
  constructor
  · rintro (⟨k, hk, h⟩ | ⟨o, ho, -⟩)
    · obtain rfl : k = i := Fin.ext hk
      exact h
    · omega
  · exact fun h => .inl ⟨i, rfl, h⟩

theorem outputRange_iff (r : Vector Byte 4) : (outside 0 9 r[0].toNat || outside 0 1 r[2].toNat) = true ↔
    ¬ (r[0].toNat ≤ 9 ∧ r[2].toNat ≤ 1) := by
  simp only [Bool.or_eq_true, outside_iff]
  omega

theorem outputArgument_iff (r : Vector Byte 4) :
    ((outputView r).source.takesArgument && outside 0 7 r[1].toNat) = true ↔
      (r[0] = 3 ∨ r[0] = 4 ∨ r[0] = 9) ∧ 7 < r[1].toNat := by
  have hsource : (outputView r).source.takesArgument = true ↔ r[0] = 3 ∨ r[0] = 4 ∨ r[0] = 9 := takesArgument_iff _
  rw [Bool.and_eq_true, hsource, outside_iff]
  refine and_congr_right fun _ => ?_
  omega

theorem outputReason_judges (b : Bank) (o : OutputId) : Judges (outputReason b o) (recordFails b .line (8 + o.val)) := by
  refine judges_two (by decide) fun code => ?_
  rw [outputRange_iff, outputArgument_iff]
  constructor
  · rintro (⟨k, hk, -⟩ | ⟨q, hq, h⟩)
    · omega
    · obtain rfl : q = o := Fin.ext (by omega)
      exact h
  · exact fun h => .inr ⟨o, rfl, h⟩

/-! ## The records of a bank, in the order of the check (R13) -/

/-- The reason of a record, where it fails. -/
def reasonAt (b : Bank) (x : TableId) (i : Nat) : Option Byte :=
  match x with
  | .site => siteReason b.site
  | .feeder => if h : i < 8 then feederReason b.feeder[i] else none
  | .pad => if h : i < 64 then padReason b ⟨i, h⟩ else none
  | .line => if h : i < 8 then inputReason b ⟨i, h⟩ else if h : i - 8 < 8 then outputReason b ⟨i - 8, h⟩ else none

/-- A record, found to fail or not. -/
def judgedAt (b : Bank) (y : TableId × Nat) : Option Invalid := (reasonAt b y.1 y.2).map fun c => ⟨y.1, y.2, c⟩

theorem reasonAt_judges (b : Bank) {x : TableId} {i : Nat} (h : i < x.records) :
    Judges (reasonAt b x i) (recordFails b x i) := by
  cases x with
  | site =>
    obtain rfl : i = 0 := Nat.lt_one_iff.mp h
    exact siteReason_judges b
  | feeder =>
    have hi : i < 8 := h
    rw [reasonAt, dif_pos hi]
    exact feederReason_judges b ⟨i, hi⟩
  | pad =>
    have hi : i < 64 := h
    rw [reasonAt, dif_pos hi]
    exact padReason_judges b ⟨i, hi⟩
  | line =>
    have hi : i < 16 := h
    rw [reasonAt]
    split
    next hin => exact inputReason_judges b ⟨i, hin⟩
    next hin =>
      rw [dif_pos (by omega)]
      have hjudged := outputReason_judges b ⟨i - 8, by omega⟩
      rwa [show 8 + (i - 8) = i by omega] at hjudged

/-- Every record of a bank, in the order in which the check looks at them. -/
def bankRecords : List (TableId × Nat) :=
  [TableId.site, .feeder, .pad, .line].flatMap fun x => (List.range x.records).map fun i => (x, i)

theorem mem_bankRecords {y : TableId × Nat} : y ∈ bankRecords ↔ y.2 < y.1.records := by
  obtain ⟨x, i⟩ := y
  simp only [bankRecords, List.mem_flatMap, List.mem_map, List.mem_range, Prod.mk.injEq]
  constructor
  · rintro ⟨_, -, _, h, rfl, rfl⟩
    exact h
  · intro h
    exact ⟨x, by cases x <;> simp, i, h, rfl, rfl⟩

/-- One record comes before another in the order of the tables and of the record numbers. -/
def Earlier (y z : TableId × Nat) : Prop := y.1.code.toNat < z.1.code.toNat ∨ (y.1 = z.1 ∧ y.2 < z.2)

theorem bankRecords_sorted : bankRecords.Pairwise Earlier := by
  rw [bankRecords, List.pairwise_flatMap]
  constructor
  · intro x _
    exact List.pairwise_map.mpr (List.pairwise_lt_range.imp fun h => .inr ⟨rfl, h⟩)
  · have hcodes : [TableId.site, .feeder, .pad, .line].Pairwise fun x y => x.code.toNat < y.code.toNat := by decide
    refine hcodes.imp fun hlt y hy z hz => .inl ?_
    simp only [List.mem_map] at hy hz
    obtain ⟨_, -, rfl⟩ := hy
    obtain ⟨_, -, rfl⟩ := hz
    exact hlt

theorem map_finRange_eq {α : Type} (n : Nat) (f : Fin n → α) (g : Nat → α) (h : ∀ i : Fin n, f i = g i.val) :
    (List.finRange n).map f = (List.range n).map g := by
  rw [← List.map_coe_finRange_eq_range, List.map_map]
  exact List.map_congr_left fun i _ => h i

theorem validate_eq (b : Bank) : validate b = bankRecords.findSome? (judgedAt b) := by
  have hfeeders : (allGroups.map fun g => (feederReason b.feeder[g]).map fun c => (⟨.feeder, g.val, c⟩ : Invalid)) =
      (List.range 8).map fun i => judgedAt b (.feeder, i) :=
    map_finRange_eq 8 _ _ fun g => by simp [judgedAt, reasonAt]
  have hpads : (allPads.map fun p => (padReason b p).map fun c => (⟨.pad, p.val, c⟩ : Invalid)) =
      (List.range 64).map fun i => judgedAt b (.pad, i) :=
    map_finRange_eq 64 _ _ fun p => by simp [judgedAt, reasonAt]
  have hinputs : (allInputs.map fun i => (inputReason b i).map fun c => (⟨.line, i.val, c⟩ : Invalid)) =
      (List.range 8).map fun i => judgedAt b (.line, i) :=
    map_finRange_eq 8 _ _ fun p => by simp [judgedAt, reasonAt]
  have houtputs : (allInputs.map fun o => (outputReason b o).map fun c => (⟨.line, 8 + o.val, c⟩ : Invalid)) =
      (List.range 8).map fun i => judgedAt b (.line, 8 + i) :=
    map_finRange_eq 8 _ _ fun p => by simp [judgedAt, reasonAt]
  unfold validate
  dsimp only
  rw [hfeeders, hpads, hinputs, houtputs]
  have hline : List.range TableId.line.records = List.range 8 ++ (List.range 8).map (8 + ·) :=
    List.range_add (n := 8) (m := 8)
  have hlist : bankRecords.map (judgedAt b) =
      [(siteReason b.site).map fun c => (⟨.site, 0, c⟩ : Invalid)] ++ (List.range 8).map (fun i => judgedAt b (.feeder, i))
        ++ (List.range 64).map (fun i => judgedAt b (.pad, i)) ++ (List.range 8).map (fun i => judgedAt b (.line, i))
        ++ (List.range 8).map fun i => judgedAt b (.line, 8 + i) := by
    simp only [bankRecords, List.flatMap_cons, List.flatMap_nil, List.append_nil, List.map_append, List.map_map, hline,
      List.append_assoc, Function.comp_def]
    rfl
  rw [← hlist, List.findSome?_map]
  rfl

/-- A bank passes exactly when no record of it fails (R13). -/
theorem validate_none_iff (b : Bank) :
    validate b = none ↔ ∀ (x : TableId) (i code : Nat), i < x.records → ¬ recordFails b x i code := by
  rw [validate_eq, List.findSome?_eq_none_iff]
  constructor
  · intro h x i code hi
    exact (reasonAt_judges b hi).passes (Option.map_eq_none_iff.mp (h (x, i) (mem_bankRecords.mpr hi))) code
  · intro h y hy
    have hi := mem_bankRecords.mp hy
    refine Option.map_eq_none_iff.mpr ?_
    cases hr : reasonAt b y.1 y.2 with
    | none => rfl
    | some c => exact absurd ((reasonAt_judges b hi).lowest c hr).1 (h y.1 y.2 _ hi)

theorem not_earlier_of_earlier {y z : TableId × Nat} (h : Earlier y z) : ¬ Earlier z y := by
  rintro (h' | ⟨heq, hlt⟩) <;> rcases h with h | ⟨heq', hlt'⟩
  · omega
  · rw [heq'] at h'
    omega
  · rw [heq] at h
    omega
  · omega

/-- The record reported is the first that fails, for its lowest reason (R13). -/
theorem validate_some {b : Bank} {bad : Invalid} (h : validate b = some bad) : bad.record < bad.table.records
    ∧ recordFails b bad.table bad.record bad.reason.toNat
    ∧ (∀ code : Nat, code < bad.reason.toNat → ¬ recordFails b bad.table bad.record code)
    ∧ ∀ (x : TableId) (i code : Nat), i < x.records →
        (x.code.toNat < bad.table.code.toNat ∨ (x = bad.table ∧ i < bad.record)) → ¬ recordFails b x i code := by
  rw [validate_eq, List.findSome?_eq_some_iff] at h
  obtain ⟨front, y, back, hsplit, hy, hfront⟩ := h
  obtain ⟨c, hc, rfl⟩ := Option.map_eq_some_iff.mp hy
  have hi : y.2 < y.1.records := mem_bankRecords.mp (by rw [hsplit]; simp)
  obtain ⟨hfails, hlowest⟩ := (reasonAt_judges b hi).lowest c hc
  refine ⟨hi, hfails, hlowest, fun x i code hxi hbefore => ?_⟩
  have hearlier : Earlier (x, i) y := hbefore
  have hmem : (x, i) ∈ front := by
    have hall : (x, i) ∈ front ++ y :: back := hsplit ▸ mem_bankRecords.mpr hxi
    have hsorted := hsplit ▸ bankRecords_sorted
    rcases List.mem_append.mp hall with hf | hb
    · exact hf
    · rcases List.mem_cons.mp hb with heq | hb
      · exact absurd (heq ▸ hearlier) (not_earlier_of_earlier (heq ▸ hearlier))
      · have hafter := (List.pairwise_cons.mp (List.pairwise_append.mp hsorted).2.1).1 _ hb
        exact absurd hearlier (not_earlier_of_earlier hafter)
  exact (reasonAt_judges b hxi).passes (Option.map_eq_none_iff.mp (hfront _ hmem)) code

/-! ## The layouts of the records (R203) -/

theorem monitorOf_eq (b : Byte) : monitorOf b =
    ([.off, .notify, .shedOnly, .notifyAndShed] : List MonitorMode).getD (b.toNat % 4) .off := by
  have hlow : b.getLsbD 0 = decide (b.toNat % 4 % 2 = 1) := by
    rw [BitVec.getLsbD, Nat.testBit_zero, Nat.mod_mod_of_dvd _ (by decide)]
  have hhigh : b.getLsbD 1 = decide (b.toNat % 4 / 2 = 1) := by
    rw [BitVec.getLsbD, Nat.testBit_succ, Nat.testBit_zero, show b.toNat / 2 % 2 = b.toNat % 4 / 2 by omega]
  have hlt : b.toNat % 4 < 4 := Nat.mod_lt _ (by decide)
  rw [monitorOf, hlow, hhigh]
  generalize b.toNat % 4 = k at hlt
  interval_cases k <;> rfl

theorem threshold_eq (low high : Byte) (sh : Nat) :
    threshold low high sh = 256 * (high.toNat / 2 ^ sh % 4) + low.toNat := by
  simp [threshold, BitVec.extractLsb'_toNat, Nat.shiftRight_eq_div_pow]

theorem siteView_eq (r : Vector Byte 32) : siteView r =
    { limit := 256 * r[0].toNat + r[1].toNat, period := 256 * r[2].toNat + r[3].toNat, holdRounds := r[4].toNat
      missLimit := r[5].toNat, probeAttempts := r[6].toNat, replyTimeout := r[7].toNat, head := r[8].toNat
      tail := r[9].toNat, step := r[10].toNat, defMax := 256 * r[11].toNat + r[12].toNat
      defMin := 256 * r[13].toNat + r[14].toNat, holdTime := 256 * r[15].toNat + r[16].toNat } := by
  simp only [siteView, be16_eq]

theorem feederView_eq (r : Vector Byte 16) : feederView r =
    { enabled := decide (r[0] = 1), rated := 256 * r[3].toNat + r[4].toNat, fallback := 256 * r[5].toNat + r[6].toNat
      shed := 256 * r[7].toNat + r[8].toNat, ramp := 256 * r[9].toNat + r[10].toNat, tolerance := r[2].toNat
      overdrawLimit := r[1].toNat / 16 % 8
      monitor := [.off, .notify, .shedOnly, .notifyAndShed].getD (r[1].toNat % 4) .off
      warnLevel := 256 * (r[15].toNat / 64) + r[11].toNat
      warnRelease := 256 * (r[15].toNat / 16 % 4) + r[12].toNat
      shedLevel := 256 * (r[15].toNat / 4 % 4) + r[13].toNat
      shedRelease := 256 * (r[15].toNat % 4) + r[14].toNat } := by
  have hlimit : (r[1].extractLsb' 4 3).toNat = r[1].toNat / 16 % 8 := by
    simp [BitVec.extractLsb'_toNat, Nat.shiftRight_eq_div_pow]
  have htop : r[15].toNat / 64 % 4 = r[15].toNat / 64 := by
    have := r[15].isLt
    omega
  simp only [feederView, be16_eq, monitorOf_eq, threshold_eq, hlimit, Nat.reducePow, htop, Nat.div_one]
  rfl

theorem functionOf_eq {b : Byte} (h : b.toNat ≤ 3) :
    some (functionOf b) = ([.none, .shed, .stop, .notify] : List InputFunction)[b.toNat]? := by
  unfold functionOf
  interval_cases b.toNat <;> rfl

theorem senseOf_eq {b : Byte} (h : b.toNat ≤ 4) :
    some (senseOf b) = ([.rising, .falling, .both, .levelHigh, .levelLow] : List Sense)[b.toNat]? := by
  unfold senseOf
  interval_cases b.toNat <;> rfl

/-! ## The end of the check (R12, R15, R17) -/

section
variable {s : State} {carried : Word16} {tag : Byte}

theorem endCheck_mismatch (hc : s.tables.commit = .checking carried tag) (h : crc s.tables.shadow.bytes ≠ carried) :
    endCheck s = respond kindCommit tag .crcMismatch (crcBytes (crc s.tables.shadow.bytes)) (s.setCommit .idle) := by
  unfold endCheck
  rw [hc]
  exact if_pos h

theorem endCheck_invalid {bad : Invalid} (hc : s.tables.commit = .checking carried tag)
    (h : crc s.tables.shadow.bytes = carried) (hbad : validate s.tables.shadow = some bad) :
    endCheck s = respond kindCommit tag .invalidTable [bad.table.code, byte1 bad.record, bad.reason]
      (s.setCommit .idle) := by
  unfold endCheck
  rw [hc]
  dsimp only
  rw [if_neg (not_not.mpr h), hbad]

theorem endCheck_pending (hc : s.tables.commit = .checking (crc s.tables.shadow.bytes) tag)
    (hv : validate s.tables.shadow = none) (hbusy : s.alloc.sweep.isSome = true ∨ s.alloc.fastShed = .running) :
    endCheck s = respond kindCommit tag .ok [] (s.setCommit .pending) := by
  unfold endCheck
  rw [hc]
  dsimp only
  rw [if_neg (not_not.mpr rfl), hv]
  refine if_neg ?_
  rintro ⟨hsweep, hrun⟩
  rcases hbusy with h | h
  · rw [Option.isNone_iff_eq_none] at hsweep
    have hnone : s.alloc.sweep = none := hsweep
    simp [hnone] at h
  · exact hrun h

end

/-! ### What an activation leaves of the Notice Unit and of the signal lines -/

section
variable (s : State)

@[simp] theorem raise_captures (k : Notice) : (raise k s).notices.captures = s.notices.captures := by
  rw [raise_notices]

@[simp] theorem raiseIf_captures (b : Bool) (k : Notice) : (raiseIf b k s).notices.captures = s.notices.captures := by
  cases b
  · rfl
  · exact raise_captures s k

@[simp] theorem raiseAll_captures (ks : List Notice) : (raiseAll ks s).notices.captures = s.notices.captures :=
  foldl_keeps (fun t => t.notices.captures) _ (fun t k => raise_captures t k) ks s

@[simp] theorem moveVoltage_captures (g : GroupId) : (moveVoltage g s).notices.captures = s.notices.captures := by
  unfold moveVoltage
  split <;> simp

@[simp] theorem evaluateLost_captures (old new : Bank) (before : Vector Pad 64) :
    (evaluateLost old new before s).notices.captures = s.notices.captures :=
  foldl_keeps (fun t => t.notices.captures) _ (fun t g => moveVoltage_captures t g) _ s

@[simp] theorem activateHold_captures (old new : Bank) :
    (activateHold old new s).notices.captures = s.notices.captures := by
  unfold activateHold
  split <;> simp

@[simp] theorem activateBanks_captures : (activateBanks s).notices.captures = s.notices.captures := by
  simp [activateBanks, activateRest_eq, activateInputs, activateGroups, activateCopy]

@[simp] theorem startSweep_captures : (startSweep s).notices.captures = s.notices.captures := by
  simp [startSweep, deadlineWatch]

@[simp] theorem endDiscoveryIfDone_captures : (endDiscoveryIfDone s).notices.captures = s.notices.captures := by
  unfold endDiscoveryIfDone
  split <;> simp [discoveryEnd, startTimer]

@[simp] theorem activateMarks_captures : (activateMarks s).notices.captures = s.notices.captures := by
  unfold activateMarks
  split <;> simp

@[simp] theorem activate_captures (b : Bool) : (activate b s).notices.captures = s.notices.captures := by
  simp [activate_eq]

@[simp] theorem activateMarks_running : (activateMarks s).time.running = s.time.running := by
  unfold activateMarks
  split
  · unfold endDiscoveryIfDone
    split
    · simp [discoveryEnd_time]
    · simp
  · rfl

@[simp] theorem haltIfStopped_running (old new : Bank) : (haltIfStopped old new s).time.running = s.time.running := by
  unfold haltIfStopped
  split
  · rw [(haltEffects_engine s).2.1]
  · rfl

@[simp] theorem activate_running (b : Bool) : (activate b s).time.running = s.time.running := by
  simp [activate_eq]

@[simp] theorem activate_taken (b : Bool) : (activate b s).signals.taken = s.signals.taken := by
  simp [activate_eq, activateBanks]

end

/-- Settles O22. -/
theorem commitCheckEnds : Obligations.CommitCheckEnds := by
  have hexec (s : State) : exec .commitCheckEnd s = .next (driveOutputs (endCheck s)) := rfl
  refine ⟨fun carried tag s hc => ⟨fun h => ?_, fun bad h hbad => ?_⟩, fun tag s hc hv => ⟨fun hbusy => ?_,
    fun hsweep hrun => ⟨_, hexec s, ?_⟩⟩, fun b => ⟨validate_none_iff b, fun bad => validate_some⟩, siteView_eq,
    feederView_eq, fun r => ⟨?_, rfl, rfl, fun h => ?_, rfl, fun h => ?_, rfl, ?_⟩,
    fun r => ⟨functionOf_eq, fun h => ?_, senseOf_eq⟩, by decide⟩
  · rw [hexec, endCheck_mismatch hc h]
    rfl
  · rw [hexec, endCheck_invalid hc h hbad]
    rfl
  · rw [hexec, endCheck_pending hc hv hbusy]
    rfl
  · rw [endCheck_passes s tag hc hv hsweep hrun]
    have hnoticed := noticed_activate false (respond kindCommit tag .ok [] (s.setCommit .pending))
    refine ⟨?_, activate_done _ _, hnoticed.mask, ?_, ?_, ?_, ?_, ?_, ?_⟩
    · rw [driveOutputs_tables, activate_tables]
      rfl
    · rw [driveOutputs_notices, activate_captures]
      rfl
    · rw [driveOutputs_time, activate_running]
      rfl
    · rw [driveOutputs_fleet, hnoticed.fleet]
      rfl
    · rw [driveOutputs_fleet, hnoticed.fleet]
      rfl
    · rw [driveOutputs_fleet, hnoticed.responses]
      exact List.filter_append ..
    · rw [driveOutputs_taken, activate_taken]
      rfl
  · rfl
  · exact Nat.mod_eq_of_lt (by omega)
  · exact Nat.mod_eq_of_lt (by omega)
  · exact be16_eq _ _
  · exact Nat.mod_eq_of_lt (by omega)

end Sys2Proof.Machine

/-! PROOFS. The entry to HALTED by SET_MODE HALT or a STOP input (R86 to R88, R170), and the input lines (R191 to
R195). -/

namespace Sys2Proof.Machine

/-! ## A pad without power (R88) -/

/-- A pad that an entry to HALTED has left: no power, no reservation, not CHARGING. -/
structure Pad.Off (q : Pad) : Prop extends Pad.Idle q where
  rounds : q.roundsLeft = 0
  quiet : q.state ≠ .charging

theorem Pad.off_halt (q : Pad) : q.halt.Off := by
  rw [Pad.halt_eq]
  refine ⟨⟨rfl, rfl, rfl, rfl, rfl⟩, rfl, ?_⟩
  dsimp only
  split
  · decide
  · assumption

theorem Pad.Off.inScope {q : Pad} (h : q.Off) (b : Bool) : ({ q with inScope := b } : Pad).Off :=
  ⟨⟨h.grant, h.sent, h.prior, h.decPending, h.reservation⟩, h.rounds, h.quiet⟩

theorem Pad.Off.activated {q : Pad} (h : q.Off) (x : PadClass) (b : Bool) : (q.activated x b).Off := by
  cases x with
  | absent => exact h
  | disabled => exact ⟨⟨rfl, rfl, rfl, rfl, rfl⟩, rfl, nofun⟩
  | moved => exact ⟨⟨rfl, rfl, rfl, rfl, rfl⟩, rfl, nofun⟩
  | enabled => exact ⟨⟨h.grant, h.sent, h.prior, h.decPending, h.reservation⟩, h.rounds, nofun⟩
  | kept => cases b <;> exact ⟨⟨h.grant, h.sent, h.prior, h.decPending, h.reservation⟩, h.rounds, h.quiet⟩

theorem Pad.activated_inScope (x : PadClass) (b : Bool) (q : Pad) : (q.activated x b).inScope = q.inScope := by
  cases x with
  | kept => cases b <;> rfl
  | _ => rfl

/-! ## A scope applied and a bank activated where no pad holds a grant -/

section
variable {s : State}

theorem needsShed_of_off (h : ∀ p : PadId, (s.pads[p.val]).Off) : s.needsShed = false :=
  needsShed_of_no_grant fun p => (h p).grant

theorem increaseRelease_of_off (h : ∀ p : PadId, (s.pads[p.val]).Off) (p : PadId) :
    (increaseRelease s).pads[p.val] = s.pads[p.val] := by
  rw [increaseRelease_get, if_neg]
  rw [(h p).grant]
  simp

theorem fastShedCheck_of_off (h : ∀ p : PadId, (s.pads[p.val]).Off) (hf : s.alloc.fastShed = .none) :
    fastShedCheck s = s := by
  rw [fastShedCheck_none (by rw [hf]; decide) (needsShed_of_off h), if_neg (by rw [hf]; decide)]

theorem activateBanks_off (h : ∀ p : PadId, (s.pads[p.val]).Off) (p : PadId) : (activateBanks s).pads[p.val] =
    (s.pads[p.val]).activated (classOf s.tables.active s.tables.shadow p)
      (keepsSample s.tables.active s.tables.shadow p) := by
  have hpads (q : PadId) : (activateLines s.tables.active s.tables.shadow ((activateCopy s).mapPads fun p q =>
      q.activated (classOf s.tables.active s.tables.shadow p)
        (keepsSample s.tables.active s.tables.shadow p))).pads[q.val] =
      (s.pads[q.val]).activated (classOf s.tables.active s.tables.shadow q)
        (keepsSample s.tables.active s.tables.shadow q) := by
    simp [activateLines]
  simp only [activateBanks, activateRest_pads, activatePads]
  split
  · rw [increaseRelease_of_off fun q => by rw [hpads]; exact (h q).activated _ _, hpads]
  · exact hpads p

/-- In HALTED, with no grant, nothing follows the copy of the bank. -/
theorem activate_of_off (h : ∀ p : PadId, (s.pads[p.val]).Off) (hf : s.alloc.fastShed = .none)
    (hm : s.mode.engine = .halted) : activate false s = activateBanks s := by
  have hoff (p : PadId) : ((activateBanks s).pads[p.val]).Off := by
    rw [activateBanks_off h]
    exact (h p).activated _ _
  have hengine : (activateBanks s).mode.engine = .halted := by
    rw [activateBanks_mode]
    exact hm
  have hcheck : endCheckOf false (activateBanks s) = activateBanks s :=
    fastShedCheck_of_off hoff (by rw [activateBanks_alloc]; exact hf)
  have hhalt : haltIfStopped s.tables.active s.tables.shadow (activateBanks s) = activateBanks s :=
    if_neg fun hstop => hstop.2 hengine
  rw [activate_eq, hcheck, hhalt, activateMarks_of_not_discovering _ (by rw [hengine]; decide)]

end

/-! ## The entry to HALTED (R86 to R88, R170) -/

/-- An entry to HALTED up to the activation: the effects of R88, and the held scope change applied where a sweep
was abandoned. -/
def haltedScope (s : State) : State := if s.alloc.sweep.isSome then applyHeld (haltEffects s) else haltEffects s

theorem enterHalted_eq (s : State) : enterHalted s = activatePending (haltedScope s) := rfl

section
variable (s : State)

/-- The scope change that an entry to HALTED applies. -/
def State.heldBySweep : Option Scope := if s.alloc.sweep.isSome then s.mode.held else none

theorem haltedScope_none {s : State} (h : s.heldBySweep = none) : haltedScope s = haltEffects s := by
  unfold State.heldBySweep at h
  unfold haltedScope
  split
  next hs =>
    rw [if_pos hs] at h
    have hheld : (haltEffects s).mode.held = none := by rw [(haltEffects_engine s).1]; exact h
    unfold applyHeld
    rw [hheld]
  next => rfl

theorem haltedScope_some {s : State} {x : Scope} (h : s.heldBySweep = some x) : haltedScope s =
    applyScope x ((haltEffects s).withMode { (haltEffects s).mode with held := none }) := by
  unfold State.heldBySweep at h
  split at h
  next hs =>
    have hheld : (haltEffects s).mode.held = some x := by rw [(haltEffects_engine s).1]; exact h
    unfold haltedScope applyHeld
    rw [if_pos hs, hheld]
  next => cases h

theorem haltedScope_pad (p : PadId) : (haltedScope s).pads[p.val] =
    { (s.pads[p.val]).halt with
      inScope := match s.heldBySweep with
        | some x => x.holds p
        | none => (s.pads[p.val]).inScope } := by
  cases h : s.heldBySweep with
  | none =>
    rw [haltedScope_none h, haltEffects_get, Pad.halt_eq]
  | some x =>
    have hget : ((haltEffects s).withMode { (haltEffects s).mode with held := none }).pads[p.val] =
        (s.pads[p.val]).halt := haltEffects_get s p
    rw [haltedScope_some h, applyScope_other p (.inr (.inr (by rw [hget]; exact (Pad.off_halt _).grant))), hget]

theorem haltedScope_line (l : LineId) : (haltedScope s).lines[l.val] =
    { ({ s.lines[l.val] with discovery := false } : LineCtl).askBreak with
      urgent := (haltedScope s).lines[l.val].urgent } := by
  cases h : s.heldBySweep with
  | none =>
    rw [haltedScope_none h, haltEffects_line]
    rfl
  | some x =>
    rw [haltedScope_some h, applyScope_line, State.withMode_lines, haltEffects_line]
    rfl

theorem haltedScope_mode : (haltedScope s).mode =
    { s.mode with
      engine := .halted
      scope := s.heldBySweep.getD s.mode.scope
      held := if s.heldBySweep.isSome then none else s.mode.held } := by
  have hengine := (haltEffects_engine s).1
  cases h : s.heldBySweep with
  | none =>
    rw [haltedScope_none h, hengine]
    rfl
  | some x =>
    have hmode (u : State) : (applyScope x u).mode = { u.mode with scope := x } := rfl
    rw [haltedScope_some h, hmode, State.withMode_mode, hengine]
    rfl

theorem haltedScope_alloc : (haltedScope s).alloc =
    { s.alloc with sweep := none, fastShed := .none, sweepWaiting := false } := by
  cases h : s.heldBySweep with
  | none => rw [haltedScope_none h, (haltEffects_engine s).2.2]
  | some x => rw [haltedScope_some h, applyScope_alloc, State.withMode_alloc, (haltEffects_engine s).2.2]

theorem haltedScope_time : (haltedScope s).time = { s.time with timer := none } := by
  cases h : s.heldBySweep with
  | none => rw [haltedScope_none h, (haltEffects_engine s).2.1]
  | some x => rw [haltedScope_some h, applyScope_time, State.withMode_time, (haltEffects_engine s).2.1]

theorem haltedScope_freeCount : (haltedScope s).freeCount = s.freeCount + if s.heldBySweep.isSome then 1 else 0 := by
  cases h : s.heldBySweep with
  | none =>
    rw [haltedScope_none h]
    exact haltEffects_freeCount s
  | some x =>
    have hcount (u : State) : (applyScope x u).freeCount = u.freeCount + 1 := rfl
    rw [haltedScope_some h, hcount, State.withMode_freeCount, haltEffects_freeCount]
    rfl

@[simp] theorem haltedScope_tables : (haltedScope s).tables = s.tables := by
  unfold haltedScope
  split <;> simp
@[simp] theorem haltedScope_groups : (haltedScope s).groups = s.groups := by
  unfold haltedScope
  split <;> simp
@[simp] theorem haltedScope_notices : (haltedScope s).notices = s.notices := by
  unfold haltedScope
  split <;> simp
@[simp] theorem haltedScope_signals : (haltedScope s).signals = s.signals := by
  unfold haltedScope
  split <;> simp
@[simp] theorem haltedScope_fleet : (haltedScope s).fleet = s.fleet := by
  unfold haltedScope
  split <;> simp

theorem haltedScope_off (p : PadId) : ((haltedScope s).pads[p.val]).Off := by
  rw [haltedScope_pad]
  exact (Pad.off_halt _).inScope _

end

/-- Without a PENDING commit the entry ends there. -/
theorem enterHalted_plain {s : State} (h : s.tables.commit ≠ .pending) : enterHalted s = haltedScope s := by
  rw [enterHalted_eq, activatePending, if_neg (by rwa [haltedScope_tables])]

/-- A PENDING commit is copied, and nothing else follows in HALTED. -/
theorem enterHalted_activates {s : State} (h : s.tables.commit = .pending) :
    enterHalted s = activateBanks (haltedScope s) := by
  rw [enterHalted_eq, activatePending, if_pos (by rwa [haltedScope_tables]),
    activate_of_off (haltedScope_off s) (by rw [haltedScope_alloc]) (by rw [haltedScope_mode])]

/-- What an entry to HALTED leaves of the part, whether it activates a bank or not. -/
structure HaltedFrom (s t : State) : Prop where
  mode : t.mode =
    { s.mode with
      engine := .halted
      scope := s.heldBySweep.getD s.mode.scope
      held := if s.heldBySweep.isSome then none else s.mode.held
      stopLatch := t.mode.stopLatch }
  alloc : t.alloc =
    { s.alloc with sweep := none, fastShed := .none, sweepWaiting := false, rotation := t.alloc.rotation }
  time : t.time = { s.time with timer := none }
  off : ∀ p : PadId, (t.pads[p.val]).Off
  mark : ∀ p : PadId, (t.pads[p.val]).inScope =
    match s.heldBySweep with
    | some x => x.holds p
    | none => (s.pads[p.val]).inScope
  line : ∀ l : LineId, t.lines[l.val] =
    { ({ s.lines[l.val] with discovery := false } : LineCtl).askBreak with
      urgent := t.lines[l.val].urgent, final := t.lines[l.val].final }
  freeCount : t.freeCount =
    s.freeCount + (if s.heldBySweep.isSome then 1 else 0) + if s.tables.commit = .pending then 1 else 0
  plain : s.tables.commit ≠ .pending → t.tables = s.tables ∧ t.groups = s.groups ∧ t.notices = s.notices
    ∧ t.signals = s.signals ∧ t.mode.stopLatch = s.mode.stopLatch
    ∧ ∀ p : PadId, t.pads[p.val] = { (s.pads[p.val]).halt with inScope := (t.pads[p.val]).inScope }
  activated : s.tables.commit = .pending →
    t.tables = { s.tables with active := s.tables.shadow, loaded := Vector.replicate 4 true, commit := .idle }
    ∧ noticeIn .commitDone t.notices.pendingSet = true

theorem enterHalted_halts (s : State) : HaltedFrom s (enterHalted s) := by
  by_cases hc : s.tables.commit = .pending
  · have heq := enterHalted_activates hc
    have hpad (p : PadId) := activateBanks_off (haltedScope_off s) p
    rw [heq]
    exact
      { mode := by rw [activateBanks_mode, haltedScope_mode]
        alloc := by rw [activateBanks_alloc, haltedScope_alloc]
        time := by rw [activateBanks_time, haltedScope_time]
        off := fun p => by rw [hpad]; exact (haltedScope_off s p).activated _ _
        mark := fun p => by rw [hpad, Pad.activated_inScope, haltedScope_pad]
        line := fun l => by rw [activateBanks_line, haltedScope_line]
        freeCount := by rw [activateBanks_freeCount, haltedScope_freeCount, if_pos hc]
        plain := fun h => absurd hc h
        activated := fun _ => ⟨by rw [activateBanks_tables, haltedScope_tables], by
          rw [← heq, enterHalted_eq, activatePending, if_pos (by rwa [haltedScope_tables])]
          exact activate_done _ _⟩ }
  · rw [enterHalted_plain hc]
    exact
      { mode := by rw [haltedScope_mode]
        alloc := by rw [haltedScope_alloc]
        time := haltedScope_time s
        off := haltedScope_off s
        mark := fun p => by rw [haltedScope_pad]
        line := fun l => by
          have hfinal := congrArg LineCtl.final (haltedScope_line s l)
          exact (haltedScope_line s l).trans (by rw [hfinal])
        freeCount := by rw [haltedScope_freeCount, if_neg hc, Nat.add_zero]
        plain := fun _ => ⟨by simp, by simp, by simp, by simp, by rw [haltedScope_mode], fun p => by
          rw [haltedScope_pad]⟩
        activated := fun h => absurd h hc }

theorem LineCtl.askBreak_asked (c : LineCtl) : c.askBreak.breaking = true ∨ c.askBreak.breakPending = true := by
  unfold LineCtl.askBreak LineCtl.startBreak
  split
  · exact .inl rfl
  · exact .inr rfl

theorem LineCtl.askBreak_eq (c : LineCtl) :
    c.askBreak = { c with breakPending := c.askBreak.breakPending, breaking := c.askBreak.breaking } := by
  unfold LineCtl.askBreak
  rw [LineCtl.startBreak_eq]

theorem LineCtl.askBreak_keeps (c : LineCtl) : c.askBreak.discovery = c.discovery
    ∧ c.askBreak.inFlight = c.inFlight ∧ c.askBreak.position = c.position := by
  rw [LineCtl.askBreak_eq]
  exact ⟨rfl, rfl, rfl⟩

section
variable {s t : State} (h : HaltedFrom s t)
include h

theorem HaltedFrom.power (p : PadId) : (t.pads[p.val]).grant = 0 ∧ (t.pads[p.val]).sent = 0
    ∧ (t.pads[p.val]).prior = 0 ∧ (t.pads[p.val]).decPending = false ∧ (t.pads[p.val]).reservation = 0
    ∧ (t.pads[p.val]).roundsLeft = 0 ∧ (t.pads[p.val]).state ≠ .charging :=
  have hoff := h.off p
  ⟨hoff.grant, hoff.sent, hoff.prior, hoff.decPending, hoff.reservation, hoff.rounds, hoff.quiet⟩

theorem HaltedFrom.asked (l : LineId) : (t.lines[l.val]).discovery = false
    ∧ (t.lines[l.val]).inFlight = (s.lines[l.val]).inFlight ∧ (t.lines[l.val]).position = (s.lines[l.val]).position
    ∧ ((t.lines[l.val]).breaking = true ∨ (t.lines[l.val]).breakPending = true) := by
  have hasked := LineCtl.askBreak_asked { s.lines[l.val] with discovery := false }
  obtain ⟨hdiscovery, hflight, hposition⟩ := LineCtl.askBreak_keeps { s.lines[l.val] with discovery := false }
  rw [h.line l]
  exact ⟨hdiscovery, hflight, hposition, hasked⟩

/-- The held scope change of a sweep that is abandoned is applied (R86, R176, R177). -/
theorem HaltedFrom.scoped {x : Scope} (hs : s.alloc.sweep.isSome = true) (hx : s.mode.held = some x) :
    t.mode.scope = x ∧ t.mode.held = none ∧ ∀ p : PadId, (t.pads[p.val]).inScope = true ↔
      x = .full ∨ ∃ first last : PadId, x = .range first last ∧ first.val ≤ p.val ∧ p.val ≤ last.val := by
  have hheld : s.heldBySweep = some x := (if_pos hs).trans hx
  have hmark := h.mark
  rw [hheld] at hmark
  refine ⟨?_, ?_, fun p => ?_⟩
  · rw [h.mode, hheld]
    rfl
  · rw [h.mode, hheld]
    rfl
  · rw [hmark p]
    exact Scope.holds_iff x p

/-- Without one the scope stays. -/
theorem HaltedFrom.unscoped (hs : s.alloc.sweep = none ∨ s.mode.held = none) : t.mode.scope = s.mode.scope
    ∧ t.mode.held = s.mode.held ∧ ∀ p : PadId, (t.pads[p.val]).inScope = (s.pads[p.val]).inScope := by
  have hheld : s.heldBySweep = none := by
    unfold State.heldBySweep
    rcases hs with hs | hs
    · rw [hs]
      rfl
    · rw [hs, ite_self]
  have hmark := h.mark
  rw [hheld] at hmark
  refine ⟨?_, ?_, hmark⟩
  · rw [h.mode, hheld]
    rfl
  · rw [h.mode, hheld]
    rfl

end

theorem State.heldBySweep_isSome (s : State) :
    s.heldBySweep.isSome = true ↔ s.alloc.sweep.isSome = true ∧ s.mode.held.isSome = true := by
  unfold State.heldBySweep
  split <;> simp_all

/-- Settles O35: the answer of an entry to HALTED. -/
theorem haltTakesAllPower : Obligations.HaltTakesAllPower := by
  intro tag x y rest s ht
  have hexec := exec_next (c := .setModeHalt tag [0, x, y]) (f := ⟨0x18, tag, _⟩) rfl ht
  have hrequest : setModeRequest [0, x, y] (s.taking rest) = setHalt (s.taking rest) := rfl
  simp only [ownerOf, hrequest] at hexec
  refine ⟨fun hm => ?_, fun hm => ?_⟩
  · have hstays : setHalt (s.taking rest) = modeAnswer (s.taking rest) := congrArg modeAnswer (if_pos hm)
    have hcode : (s.taking rest).mode.engine.code = 0 := congrArg EngineMode.code hm
    rw [hexec, hstays, modeAnswer, hcode]
    rfl
  · intro n
    have hhalts : setHalt (s.taking rest) = modeAnswer (enterHalted (s.taking rest)) := congrArg modeAnswer (if_neg hm)
    rw [hhalts, modeAnswer, delivered_accept] at hexec
    have hhalted := enterHalted_halts (s.taking rest)
    have hnoticed := noticed_enterHalted (s.taking rest)
    generalize enterHalted (s.taking rest) = r at hexec hhalted hnoticed
    have hmode := hhalted.mode
    have halloc := hhalted.alloc
    have hcount : r.freeCount = n := by
      refine hhalted.freeCount.trans ?_
      simp only [State.heldBySweep_isSome]
      rfl
    refine ⟨_, hexec, congrArg ModeControl.engine hmode, (congrArg ModeControl.resolution hmode).trans rfl,
      congrArg Alloc.sweep halloc, congrArg Alloc.fastShed halloc, congrArg Alloc.sweepWaiting halloc,
      (congrArg Alloc.rounds halloc).trans rfl, (congrArg Alloc.kept halloc).trans rfl, hhalted.time,
      hhalted.power, fun hc p => ?_, fun held => hhalted.scoped,
      hhalted.unscoped, hhalted.activated, fun hc => ?_, hhalted.asked, ?_, fun item hitem => ?_⟩
    · obtain ⟨-, -, -, -, -, hpad⟩ := hhalted.plain hc
      have heq := hpad p
      rw [Pad.halt_eq] at heq
      exact ⟨congrArg Pad.state heq, (congrArg Pad.dispatch heq).trans rfl, (congrArg Pad.caps heq).trans rfl,
        (congrArg Pad.need heq).trans rfl, (congrArg Pad.urgency heq).trans rfl, (congrArg Pad.report heq).trans rfl,
        (congrArg Pad.limit heq).trans rfl⟩
    · obtain ⟨htables, hgroups, hnotices, hsignals, hlatch, -⟩ := hhalted.plain hc
      exact ⟨htables, hgroups, hnotices,
        congrArg (fun g : Signals => ({ g with outputs := _ } : Signals)) hsignals, hlatch⟩
    · exact congrArg Fleet.rx hnoticed.fleet
    · have htx : (driveOutputs (respond 0x18 tag .ok (r.mode.engine.code :: r.mode.resolution.code
          :: (scopeBytes r.freeCount r.mode.scope ++ heldBytes (r.freeCount + 2) r.mode.held)) (r.spend 4))).fleet.tx =
          r.fleet.tx ++ [item] := by
        rw [hitem, hcount, congrArg ModeControl.engine hmode, congrArg ModeControl.resolution hmode]
        rfl
      constructor
      · rw [htx, List.getLast?_concat]
      · have hitself : [item].filter (fun i => !i.isNotice) = [item] := by
          rw [hitem]
          rfl
        rw [htx, List.filter_append, hnoticed.responses, hitself]
        rfl

end Sys2Proof.Machine

/-! PROOFS. The inputs: pin levels, edges taken and CLEAR_INPUT (R178, R191 to R195). -/

namespace Sys2Proof.Machine

/-! ## What follows an input (R106, R168, R193) -/

section
variable (s : State)

theorem reformShed_shedInput (g : GroupId) :
    ((reformShed g s).groups[g.val]).shedInput = s.shedInputNow g := by
  unfold reformShed
  split
  next h => exact h
  next => simp [recompute_groups, storeCapacity]

theorem reformShed_shedInputNow (g h : GroupId) : (reformShed g s).shedInputNow h = s.shedInputNow h := by
  simp only [State.shedInputNow, State.active, State.inputRec, reformShed_tables, reformShed_signals]

variable {i : InputId} {s}

theorem reformOwner_of_shed (h : (s.inputRec i).function = .shed) :
    reformOwner i s = reformShed (s.inputRec i).group s := by
  rw [reformOwner, h]

theorem reformOwner_of_stop (h : (s.inputRec i).function = .stop) : reformOwner i s = reformStop s := by
  rw [reformOwner, h]

theorem reformOwner_of_notify (h : (s.inputRec i).function = .notify) : reformOwner i s = s := by
  rw [reformOwner, h]

theorem stopHalts_of_ne (h : (s.inputRec i).function ≠ .stop) : stopHalts i s = s := if_neg fun hs => h hs.1

theorem stopHalts_of_stop (h : (s.inputRec i).function = .stop) (hm : s.mode.engine ≠ .halted) :
    stopHalts i s = enterHalted s := if_pos ⟨h, hm⟩

theorem stopHalts_of_halted (hm : s.mode.engine = .halted) : stopHalts i s = s := if_neg fun hs => hs.2 hm

theorem shedInputNow_iff (s : State) (g : GroupId) : s.shedInputNow g = true ↔ ∃ k : InputId,
    (s.inputRec k).function = .shed ∧ (s.inputRec k).group = g ∧ s.active k = true := by
  simp [State.shedInputNow, allInputs, and_assoc]

theorem stopLatchNow_iff (s : State) : s.stopLatchNow = true ↔ ∃ k : InputId,
    (s.inputRec k).function = .stop ∧ (s.inputRec k).sense.isEdge = true ∧ s.signals.latch[k.val] = true := by
  simp [State.stopLatchNow, allInputs, and_assoc]

theorem isEdge_iff {x : Sense} : x.isEdge = true ↔ x.activeLevel = none := Option.isNone_iff_eq_none

theorem matches_isEdge {x : Sense} {high : Bool} (h : x.matches high = true) : x.isEdge = true := by
  cases x <;> simp_all [Sense.matches, Sense.isEdge, Sense.activeLevel]

end

/-! ## An input that becomes active -/

section
variable {s : State} {i : InputId}

theorem reformOwner_mode (h : (s.inputRec i).function ≠ .stop) : (reformOwner i s).mode = s.mode := by
  unfold reformOwner
  split
  · exact reformShed_mode s _
  · exact absurd ‹_› h
  · rfl
  · rfl

@[simp] theorem reformOwner_engine (i : InputId) (s : State) :
    (reformOwner i s).mode.engine = s.mode.engine := by
  by_cases h : (s.inputRec i).function = .stop
  · rw [reformOwner_of_stop h]
    rfl
  · rw [reformOwner_mode h]

@[simp] theorem reformOwner_signals (i : InputId) (s : State) : (reformOwner i s).signals = s.signals := by
  unfold reformOwner
  split <;> simp

@[simp] theorem reformOwner_time (i : InputId) (s : State) : (reformOwner i s).time = s.time := by
  unfold reformOwner
  split <;> simp

theorem reformOwner_inputRec (i j : InputId) (s : State) : (reformOwner i s).inputRec j = s.inputRec j := by
  rw [State.inputRec, reformOwner_tables]
  rfl

/-- The owner of a shed input follows it (R106). -/
theorem reformOwner_shedInput (h : (s.inputRec i).function = .shed) :
    ((reformOwner i s).groups[(s.inputRec i).group.val]).shedInput = s.shedInputNow (s.inputRec i).group := by
  rw [reformOwner_of_shed h, reformShed_shedInput]

theorem becomeActive_of_ne (h : (s.inputRec i).function ≠ .stop) :
    becomeActive i s = raise .inputEvent (reformOwner i s) := by
  rw [becomeActive, stopHalts_of_ne]
  rwa [reformOwner_inputRec]

theorem becomeActive_of_stop (h : (s.inputRec i).function = .stop) (hm : s.mode.engine ≠ .halted) :
    becomeActive i s = raise .inputEvent (enterHalted (reformStop s)) := by
  rw [becomeActive, stopHalts_of_stop (by rwa [reformOwner_inputRec]) (by rwa [reformOwner_engine]),
    reformOwner_of_stop h]

theorem becomeActive_of_halted (h : (s.inputRec i).function = .stop) (hm : s.mode.engine = .halted) :
    becomeActive i s = raise .inputEvent (reformStop s) := by
  rw [becomeActive, stopHalts_of_halted (by rwa [reformOwner_engine]), reformOwner_of_stop h]

@[simp] theorem activate_level (b : Bool) (s : State) : (activate b s).signals.level = s.signals.level := by
  simp [activate_eq, activateBanks]

theorem enterHalted_pins (s : State) : (enterHalted s).signals.taken = s.signals.taken
    ∧ (enterHalted s).signals.level = s.signals.level := by
  rw [enterHalted_eq]
  unfold activatePending
  split
  · simp
  · simp

theorem becomeActive_pins (i : InputId) (s : State) : (becomeActive i s).signals.taken = s.signals.taken
    ∧ (becomeActive i s).signals.level = s.signals.level := by
  have hpins (t : State) : (stopHalts i t).signals.taken = t.signals.taken
      ∧ (stopHalts i t).signals.level = t.signals.level := by
    unfold stopHalts
    split
    · exact enterHalted_pins t
    · exact ⟨rfl, rfl⟩
  simp [becomeActive, hpins]

/-- Without a PENDING commit no activation follows, and the inputs stay. -/
theorem becomeActive_signals (hc : s.tables.commit ≠ .pending) : (becomeActive i s).signals = s.signals := by
  have howner : (reformOwner i s).tables.commit ≠ .pending := by rwa [reformOwner_tables]
  have hstop : (stopHalts i (reformOwner i s)).signals = (reformOwner i s).signals := by
    unfold stopHalts
    split
    · obtain ⟨-, -, -, hsignals, -⟩ := (enterHalted_halts (reformOwner i s)).plain howner
      exact hsignals
    · rfl
  rw [becomeActive, raise_signals, hstop, reformOwner_signals]

theorem becomeActive_halts (h : (s.inputRec i).function = .stop) : (becomeActive i s).mode.engine = .halted := by
  by_cases hm : s.mode.engine = .halted
  · rw [becomeActive_of_halted h hm, raise_mode]
    exact hm
  · rw [becomeActive_of_stop h hm, raise_mode, (enterHalted_halts (reformStop s)).mode]

/-- The stop latch as the owner re-forms it stands through the halt. -/
theorem becomeActive_stopLatch (h : (s.inputRec i).function = .stop) (hc : s.tables.commit ≠ .pending) :
    (becomeActive i s).mode.stopLatch = s.stopLatchNow := by
  by_cases hm : s.mode.engine = .halted
  · rw [becomeActive_of_halted h hm, raise_mode]
    rfl
  · obtain ⟨-, -, -, -, hlatch, -⟩ := (enterHalted_halts (reformStop s)).plain hc
    rw [becomeActive_of_stop h hm, raise_mode, hlatch]
    rfl

theorem becomeActive_shed (h : (s.inputRec i).function = .shed) (hactive : s.active i = true) :
    ((becomeActive i s).groups[(s.inputRec i).group.val]).shedInput = true := by
  rw [becomeActive_of_ne (by rw [h]; nofun), raise_groups, reformOwner_shedInput h, shedInputNow_iff]
  exact ⟨i, h, rfl, hactive⟩

theorem becomeActive_spares (h : (s.inputRec i).function ≠ .stop) : (becomeActive i s).mode = s.mode
    ∧ (becomeActive i s).tables = s.tables ∧ (becomeActive i s).time = s.time := by
  rw [becomeActive_of_ne h]
  exact ⟨by rw [raise_mode, reformOwner_mode h], by rw [raise_tables, reformOwner_tables],
    by rw [raise_time, reformOwner_time]⟩

end

/-! ## The edge taken (R191 to R193) -/

/-- The state with the pin's level taken. -/
def State.pinTaken (s : State) (i : InputId) : State :=
  s.withSignals { s.signals with taken := s.signals.taken.set i s.signals.level[i] }

/-- The state with the pin's level taken, and with it the latch of an edge sense. -/
def State.edgeTaken (s : State) (i : InputId) : State :=
  s.withSignals { s.signals with
    taken := s.signals.taken.set i s.signals.level[i]
    latch := if (s.inputRec i).sense.isEdge then s.signals.latch.set i true else s.signals.latch }

/-- An edge that makes its input active: one that sets a clear latch, or that reaches the active level. -/
def State.EdgeActs (s : State) (i : InputId) : Prop :=
  ((s.inputRec i).sense.matches s.signals.level[i] = true ∧ s.signals.latch[i] = false)
    ∨ (s.inputRec i).sense.activeLevel = some s.signals.level[i]

section
variable {s : State} {i : InputId} (hne : s.signals.level[i] ≠ s.signals.taken[i])
include hne

theorem takeEdge_idle (h : (s.inputRec i).function = .none
    ∨ ((s.inputRec i).sense.isEdge = true
      ∧ ((s.inputRec i).sense.matches s.signals.level[i] = false ∨ s.signals.latch[i] = true))) :
    takeEdge i s = s.pinTaken i := by
  unfold takeEdge
  dsimp only
  rw [if_neg hne]
  by_cases hf : (s.inputRec i).function = .none
  · rw [if_pos hf]
    rfl
  · obtain ⟨hedge, hquiet⟩ := h.resolve_left hf
    rw [if_neg hf, isEdge_iff.mp hedge]
    refine if_neg fun hact => ?_
    rcases hquiet with hq | hq
    · exact absurd hact.1 (by rw [hq]; nofun)
    · exact absurd hact.2 (by rw [hq]; nofun)

theorem takeEdge_acts (hf : (s.inputRec i).function ≠ .none) (h : s.EdgeActs i) :
    takeEdge i s = becomeActive i (s.edgeTaken i) := by
  unfold takeEdge
  dsimp only
  rw [if_neg hne, if_neg hf]
  unfold State.edgeTaken
  rcases h with h | h
  · have hedge := matches_isEdge h.1
    rw [isEdge_iff.mp hedge, if_pos hedge]
    exact if_pos h
  · have hedge : (s.inputRec i).sense.isEdge = false := isEdge_eq_false.mpr (by rw [h]; nofun)
    rw [h, hedge]
    exact if_pos rfl

theorem takeEdge_leaves (hf : (s.inputRec i).function ≠ .none)
    (h : (s.inputRec i).sense.activeLevel = some (!s.signals.level[i])) :
    takeEdge i s = reformOwner i (s.pinTaken i) := by
  unfold takeEdge
  dsimp only
  rw [if_neg hne, if_neg hf, h]
  exact if_neg (Bool.not_ne_self _).symm

end

theorem edgeTaken_active {s : State} {i : InputId} (hf : (s.inputRec i).function ≠ .none) (h : s.EdgeActs i) :
    (s.edgeTaken i).active i = true := by
  rw [active_iff]
  refine ⟨hf, ?_⟩
  rcases h with h | h
  · have hedge := matches_isEdge h.1
    refine .inr ⟨isEdge_iff.mp hedge, ?_⟩
    simp [State.edgeTaken, hedge]
  · exact .inl (h.trans (by simp [State.edgeTaken]))

/-! ## CLEAR_INPUT (R195) -/

/-- The state with an input's latch cleared. -/
def State.latchCleared (s : State) (i : InputId) : State :=
  s.withSignals { s.signals with latch := s.signals.latch.set i false }

theorem clearInputRequest_eq (i : InputId) (s : State) : clearInputRequest [byte1 i.val] s =
    let t := if s.signals.latch[i] ∧ (s.inputRec i).function ≠ .none ∧ (s.inputRec i).sense.isEdge then
        reformOwner i (s.latchCleared i)
      else s
    accept t [flagByte t.signals.taken[i], flagByte t.signals.latch[i], flagByte (t.active i)] := by
  have hbyte : (byteAt [byte1 i.val] 0).toNat = i.val := byte1_input i
  unfold clearInputRequest
  rw [if_neg (by simp), dif_pos (hbyte.trans_lt i.isLt)]
  simp only [hbyte]
  rfl

section
variable {s : State} {i : InputId}

theorem noticeIn_becomeActive (i : InputId) (s : State) :
    noticeIn .inputEvent (becomeActive i s).notices.pendingSet = true := raise_joins _ _

theorem becomeActive_notify (hf : (s.inputRec i).function = .notify) :
    (becomeActive i s).pads = s.pads ∧ (becomeActive i s).groups = s.groups ∧ (becomeActive i s).alloc = s.alloc
    ∧ (becomeActive i s).lines = s.lines := by
  rw [becomeActive_of_ne (by rw [hf]; nofun), reformOwner_of_notify hf]
  simp

/-- The latch of an edge that acts is set, a level's is left. -/
theorem edgeTaken_latch (i : InputId) (hc : s.tables.commit ≠ .pending) :
    (becomeActive i (s.edgeTaken i)).signals.latch =
      if (s.inputRec i).sense.isEdge then s.signals.latch.set i true else s.signals.latch :=
  congrArg Signals.latch (becomeActive_signals (i := i) (s := s.edgeTaken i) hc)

theorem edgeTaken_stopLatch (hf : (s.inputRec i).function = .stop) (hedge : (s.inputRec i).sense.isEdge = true)
    (hc : s.tables.commit ≠ .pending) : (becomeActive i (s.edgeTaken i)).mode.stopLatch = true := by
  refine (becomeActive_stopLatch (s := s.edgeTaken i) hf hc).trans ((stopLatchNow_iff _).mpr ?_)
  exact ⟨i, hf, hedge, by simp [State.edgeTaken, hedge]⟩

theorem edgeTaken_pins (i : InputId) (s : State) :
    (becomeActive i (s.edgeTaken i)).signals.taken = s.signals.taken.set i s.signals.level[i]
    ∧ (becomeActive i (s.edgeTaken i)).signals.level = s.signals.level := becomeActive_pins i _

theorem edgeTaken_halts (hf : (s.inputRec i).function = .stop) :
    (becomeActive i (s.edgeTaken i)).mode.engine = .halted := becomeActive_halts (s := s.edgeTaken i) hf

theorem edgeTaken_shed (hf : (s.inputRec i).function = .shed) (hacts : s.EdgeActs i) :
    ((becomeActive i (s.edgeTaken i)).groups[(s.inputRec i).group.val]).shedInput = true :=
  becomeActive_shed (s := s.edgeTaken i) hf (edgeTaken_active (by rw [hf]; nofun) hacts)

theorem edgeTaken_spares (hf : (s.inputRec i).function ≠ .stop) :
    (becomeActive i (s.edgeTaken i)).mode = s.mode ∧ (becomeActive i (s.edgeTaken i)).tables = s.tables
    ∧ (becomeActive i (s.edgeTaken i)).time = s.time := becomeActive_spares (s := s.edgeTaken i) hf

theorem edgeTaken_notify (hf : (s.inputRec i).function = .notify) :
    (becomeActive i (s.edgeTaken i)).pads = s.pads ∧ (becomeActive i (s.edgeTaken i)).groups = s.groups
    ∧ (becomeActive i (s.edgeTaken i)).alloc = s.alloc ∧ (becomeActive i (s.edgeTaken i)).lines = s.lines :=
  becomeActive_notify (s := s.edgeTaken i) hf

/-- The latch cleared leaves an edge-sensed input inactive. -/
theorem active_of_clear (hedge : (s.inputRec i).sense.isEdge = true) (h : s.signals.latch[i.val] = false) :
    s.active i = false := by
  rw [Bool.eq_false_iff, Ne, active_iff, isEdge_iff.mp hedge, h]
  rintro ⟨-, h | ⟨-, h⟩⟩ <;> exact nomatch h

end

section
variable {s : State} {i : InputId}

/-- The halt that a STOP edge brings, from the state whose stop latch the owner has re-formed. -/
theorem edgeTaken_haltedFrom (hf : (s.inputRec i).function = .stop) (hm : s.mode.engine ≠ .halted) :
    ∃ r, HaltedFrom (reformStop (s.edgeTaken i)) r ∧ becomeActive i (s.edgeTaken i) = raise .inputEvent r :=
  ⟨_, enterHalted_halts _, becomeActive_of_stop (s := s.edgeTaken i) hf hm⟩

theorem edgeTaken_activates (hf : (s.inputRec i).function = .stop) (hm : s.mode.engine ≠ .halted)
    (hc : s.tables.commit = .pending) : (becomeActive i (s.edgeTaken i)).tables.commit = .idle
    ∧ (becomeActive i (s.edgeTaken i)).tables.active = s.tables.shadow := by
  obtain ⟨r, hhalted, heq⟩ := edgeTaken_haltedFrom hf hm
  obtain ⟨htables, -⟩ := hhalted.activated hc
  rw [heq, raise_tables, htables]
  exact ⟨rfl, rfl⟩

theorem reformOwner_notices (i : InputId) (s : State) : (reformOwner i s).notices = s.notices :=
  (reformOwner_fleet_notices i s).2

theorem reformOwner_follows (hf : (s.inputRec i).function = .shed) :
    ((reformOwner i s).groups[(s.inputRec i).group.val]).shedInput
      = (reformOwner i s).shedInputNow (s.inputRec i).group := by
  rw [reformOwner_shedInput hf, reformOwner_of_shed hf, reformShed_shedInputNow]

theorem reformOwner_spares (hf : (s.inputRec i).function ≠ .shed) :
    (reformOwner i s).groups = s.groups ∧ (reformOwner i s).alloc = s.alloc ∧ (reformOwner i s).pads = s.pads
    ∧ (reformOwner i s).lines = s.lines := by
  unfold reformOwner
  split
  · exact absurd ‹_› hf
  all_goals exact ⟨rfl, rfl, rfl, rfl⟩

end

theorem reformOwner_active (i j : InputId) (s : State) : (reformOwner i s).active j = s.active j := by
  rw [State.active, reformOwner_inputRec, reformOwner_signals]
  rfl

section
variable {s : State} {i : InputId}

theorem clearInputRequest_idle (h : ¬ (s.signals.latch[i] = true ∧ (s.inputRec i).function ≠ .none
    ∧ (s.inputRec i).sense.isEdge = true)) : clearInputRequest [byte1 i.val] s =
    accept s [flagByte s.signals.taken[i], flagByte s.signals.latch[i], flagByte (s.active i)] := by
  rw [clearInputRequest_eq, if_neg h]

theorem clearInputRequest_clears (hlatch : s.signals.latch[i] = true) (hf : (s.inputRec i).function ≠ .none)
    (hsense : (s.inputRec i).sense.isEdge = true) : clearInputRequest [byte1 i.val] s =
    accept (reformOwner i (s.latchCleared i)) [flagByte s.signals.taken[i], 0, 0] := by
  have hsignals := reformOwner_signals i (s.latchCleared i)
  have hclear : (s.latchCleared i).signals.latch[i.val] = false := by simp [State.latchCleared]
  have hinactive : (reformOwner i (s.latchCleared i)).active i = false :=
    (reformOwner_active i i _).trans (active_of_clear hsense hclear)
  rw [clearInputRequest_eq, if_pos ⟨hlatch, hf, hsense⟩]
  dsimp only
  rw [hinactive, hsignals]
  simp only [State.latchCleared, flagByte, Fin.getElem_fin, State.withSignals_signals, Vector.getElem_set_self]
  rfl

end

/-- Settles O43: the edge that acts is `becomeActive` of the state with it taken; what it does to the engine is
the entry to HALTED, `HaltedFrom`. -/
theorem edgesAreTakenAndCleared : Obligations.EdgesAreTakenAndCleared := by
  have hedge (i : InputId) (s : State) : exec (.inputEdgeTaken i) s = .next (driveOutputs (takeEdge i s)) := rfl
  refine ⟨fun i s => ⟨fun high => rfl, fun hne h => ?_, fun hne hf hc => ⟨_, hedge i s, ?_⟩,
    fun hne hf hc hacts => ⟨_, hedge i s, ?_⟩, fun hne hstop hm hacts => ⟨_, hedge i s, ?_⟩⟩,
    fun i tag rest s ht => ⟨fun h => ?_, fun hlatch hf hsense => ?_⟩, fun i g s => ⟨?_, ?_, ?_⟩, by decide⟩
  · rw [hedge, takeEdge_idle hne h]
    rfl
  · by_cases hacts : s.EdgeActs i
    · rw [takeEdge_acts hne hf hacts]
      have hlatch := edgeTaken_latch i hc
      have hpins := edgeTaken_pins i s
      have hraised := noticeIn_becomeActive i (s.edgeTaken i)
      have hshed (h : (s.inputRec i).function = .shed) := edgeTaken_shed h hacts
      have hhalts (h : (s.inputRec i).function = .stop) := edgeTaken_halts h
      have hstopLatch (h : (s.inputRec i).function = .stop) hsense := edgeTaken_stopLatch h hsense hc
      have hspares (h : (s.inputRec i).function ≠ .stop) := edgeTaken_spares h
      have hnotify (h : (s.inputRec i).function = .notify) := edgeTaken_notify h
      generalize becomeActive i (s.edgeTaken i) = r at *
      refine ⟨hpins.1, hpins.2, fun hsense hmatch hclear => ⟨hlatch.trans (if_pos hsense), hraised,
        fun hstop => ⟨hhalts hstop, hstopLatch hstop hsense⟩, hshed⟩,
        fun hactive => ⟨hlatch.trans (if_neg ?_), hraised, hhalts, hshed⟩, fun hleft => ?_, hspares, hnotify⟩
      · rw [isEdge_iff, hactive]
        nofun
      · rcases hacts with ⟨hmatch, -⟩ | hactive
        · exact nomatch hleft.symm.trans (isEdge_iff.mp (matches_isEdge hmatch))
        · exact absurd (Option.some.inj (hactive.symm.trans hleft)) (by simp)
    · obtain ⟨hquiet, hlevel⟩ := not_or.mp hacts
      by_cases hleft : (s.inputRec i).sense.activeLevel = some (!s.signals.level[i])
      · rw [takeEdge_leaves hne hf hleft]
        have hsignals := reformOwner_signals i (s.pinTaken i)
        have hspares (h : (s.inputRec i).function ≠ .shed) := reformOwner_spares (s := s.pinTaken i) h
        refine ⟨(congrArg Signals.taken hsignals).trans rfl, (congrArg Signals.level hsignals).trans rfl,
          fun hsense => absurd (hleft.symm.trans (isEdge_iff.mp hsense)) nofun, fun hactive => absurd hactive hlevel,
          fun _ => ⟨(congrArg Signals.latch hsignals).trans rfl, reformOwner_notices i (s.pinTaken i),
            reformOwner_engine i (s.pinTaken i), reformOwner_follows (s := s.pinTaken i)⟩,
          fun hstop => ⟨reformOwner_mode (s := s.pinTaken i) hstop, reformOwner_tables i (s.pinTaken i),
            reformOwner_time i (s.pinTaken i)⟩, fun hnotify => ?_⟩
        obtain ⟨hgroups, halloc, hpads, hlines⟩ := hspares (by rw [hnotify]; nofun)
        exact ⟨hpads, hgroups, halloc, hlines⟩
      · have hsense : (s.inputRec i).sense.isEdge = true := by
          rw [isEdge_iff]
          cases hl : (s.inputRec i).sense.activeLevel with
          | none => rfl
          | some x =>
            have hx : x = s.signals.level[i] ∨ x = !s.signals.level[i] := by
              cases x <;> cases s.signals.level[i] <;> decide
            rcases hx with hx | hx
            · exact absurd (hl.trans (congrArg some hx)) hlevel
            · exact absurd (hl.trans (congrArg some hx)) hleft
        have hidle : (s.inputRec i).sense.matches s.signals.level[i] = false ∨ s.signals.latch[i] = true := by
          simpa [imp_iff_not_or] using hquiet
        rw [takeEdge_idle hne (.inr ⟨hsense, hidle⟩)]
        exact ⟨rfl, rfl, fun _ hmatch hclear => absurd ⟨hmatch, hclear⟩ hquiet,
          fun hactive => absurd hactive hlevel, fun h => absurd h hleft, fun _ => ⟨rfl, rfl, rfl⟩,
          fun _ => ⟨rfl, rfl, rfl, rfl⟩⟩
  · rw [takeEdge_acts hne hf hacts]
    have hpins := edgeTaken_pins i s
    have hraised := noticeIn_becomeActive i (s.edgeTaken i)
    have hshed (h : (s.inputRec i).function = .shed) := edgeTaken_shed h hacts
    have hhalts (h : (s.inputRec i).function = .stop) := edgeTaken_halts h
    have hactivates (h : (s.inputRec i).function = .stop) hm := edgeTaken_activates h hm hc
    have hspares (h : (s.inputRec i).function ≠ .stop) := edgeTaken_spares h
    generalize becomeActive i (s.edgeTaken i) = r at *
    refine ⟨hpins.1, hpins.2, hraised, fun hstop => ⟨hhalts hstop, hactivates hstop⟩, fun h => ⟨hshed h, ?_⟩⟩
    obtain ⟨-, htables, -⟩ := hspares (by rw [h]; nofun)
    exact htables
  · rw [takeEdge_acts hne (by rw [hstop]; nofun) hacts]
    obtain ⟨r, hhalted, heq⟩ := edgeTaken_haltedFrom hstop hm
    have hmode := hhalted.mode
    have halloc := hhalted.alloc
    have hr : (raise .inputEvent r) = { r with fleet := _, notices := _ } := raise_eq _ _
    rw [heq, hr]
    refine ⟨congrArg ModeControl.engine hmode, (congrArg ModeControl.resolution hmode).trans rfl,
      congrArg Alloc.sweep halloc, congrArg Alloc.fastShed halloc, congrArg Alloc.sweepWaiting halloc,
      (congrArg Alloc.rounds halloc).trans rfl, (congrArg Alloc.kept halloc).trans rfl, hhalted.time,
      hhalted.power, fun l => ?_, fun held => hhalted.scoped, hhalted.unscoped⟩
    obtain ⟨hdiscovery, hflight, -, hbreak⟩ := hhalted.asked l
    exact ⟨hdiscovery, hflight, hbreak⟩
  · have hexec := exec_next (c := .clearInput tag [byte1 i.val]) (f := ⟨0x0C, tag, _⟩) rfl ht
    have hidle : ¬ ((s.taking rest).signals.latch[i] = true ∧ ((s.taking rest).inputRec i).function ≠ .none
        ∧ ((s.taking rest).inputRec i).sense.isEdge = true) := by
      rintro ⟨hlatch, hf, hsense⟩
      rcases h with h | h | h
      · exact nomatch h.symm.trans hlatch
      · exact hf h
      · exact nomatch h.symm.trans hsense
    simp only [ownerOf] at hexec
    rw [hexec, clearInputRequest_idle hidle, delivered_accept]
    rfl
  · have hexec := exec_next (c := .clearInput tag [byte1 i.val]) (f := ⟨0x0C, tag, _⟩) rfl ht
    have hcleared := clearInputRequest_clears (s := s.taking rest) hlatch hf hsense
    simp only [ownerOf] at hexec
    rw [hcleared, delivered_accept] at hexec
    refine ⟨_, hexec, ?_⟩
    have hsignals := reformOwner_signals i ((s.taking rest).latchCleared i)
    obtain ⟨hfleet, hnotices⟩ := reformOwner_fleet_notices i ((s.taking rest).latchCleared i)
    have hengine := reformOwner_engine i ((s.taking rest).latchCleared i)
    have htables := reformOwner_tables i ((s.taking rest).latchCleared i)
    have htime := reformOwner_time i ((s.taking rest).latchCleared i)
    have hstop (h : (s.inputRec i).function = .stop) := reformOwner_of_stop (s := (s.taking rest).latchCleared i) h
    have hshed := reformOwner_follows (i := i) (s := (s.taking rest).latchCleared i)
    have hspares := reformOwner_spares (i := i) (s := (s.taking rest).latchCleared i)
    generalize reformOwner i ((s.taking rest).latchCleared i) = r at *
    refine ⟨congrArg Signals.latch hsignals, (congrArg Signals.taken hsignals).trans rfl, ?_, fun h => ?_, hshed,
      fun h => ?_, hengine, htables, htime, hnotices⟩
    · change ({ r.fleet with tx := _ } : Fleet) = _
      rw [hfleet]
      rfl
    · rw [hstop h]
      exact ⟨rfl, rfl⟩
    · obtain ⟨hgroups, halloc, -⟩ := hspares h
      exact ⟨hgroups, halloc⟩
  · rw [active_iff, isEdge_iff]
    constructor
    · rintro ⟨hf, h | h⟩
      · exact ⟨hf, .inr h⟩
      · exact ⟨hf, .inl h⟩
    · rintro ⟨hf, h | h⟩
      · exact ⟨hf, .inr h⟩
      · exact ⟨hf, .inl h⟩
  · exact shedInputNow_iff s g
  · exact stopLatchNow_iff s

end Sys2Proof.Machine

/-! PROOFS. The end of a transaction (R130 to R135, R142 to R144): the line it leaves, and the state elsewhere. -/

namespace Sys2Proof.Machine

/-! ## The line -/

theorem noneAbove_iff {ms : List Nat} {d : Nat} : noneAbove ms d = true ↔ ∀ m : Nat, m ∈ ms → m ≤ d := by
  simp [noneAbove]

theorem clears_eq (s : State) (l : LineId) (tx : Transaction) : s.clears l tx =
    (decide (tx.slot = .normal) && tx.inDiscovery && decide (∀ m : Nat, m ∈ s.members l → m ≤ tx.drop)) := by
  rw [State.clears, Bool.eq_iff_iff]
  simp only [Bool.and_eq_true, noneAbove_iff, decide_eq_true_eq]

/-- The counters of a line that closes (R134, R143). -/
theorem LineCtl.closing_counts (o : LineOutcome) (long : Bool) (c : LineCtl) :
    let counts : LineOutcome → Bool := fun x => !c.abandon && o == x
    c.closing o long = { c with
      inFlight := none, abandon := false, busy := long
      good := counted (counts .good) c.good, noisy := counted (counts .noisy) c.noisy
      corrupt := counted (counts .corrupt) c.corrupt, wrong := counted (counts .wrongReply) c.wrong
      noReply := counted (counts .noReply) c.noReply } := by
  dsimp only
  unfold LineCtl.closing
  cases c.abandon with
  | true => rfl
  | false => cases o <;> simp [LineCtl.count, counted, satInc_eq_min]

/-- A break that waits starts on a line with nothing in flight, unless it is held busy (R131, R142). -/
theorem LineCtl.startBreak_of_idle {c : LineCtl} (h : c.inFlight = none) : c.startBreak =
    { c with
      breaking := c.breaking || (c.breakPending && !c.busy)
      breakPending := c.breakPending && (c.breaking || c.busy) } := by
  unfold LineCtl.startBreak
  split
  next hstarts =>
    obtain ⟨hwaits, -, hbreaking, hbusy⟩ := hstarts
    simp [hwaits, hbreaking, hbusy]
  next hstays =>
    have hblocked : c.breakPending = false ∨ c.breaking = true ∨ c.busy = true := by
      cases hw : c.breakPending <;> cases hb : c.breaking <;> cases hy : c.busy <;> simp_all
    have hbreaking : (c.breaking || (c.breakPending && !c.busy)) = c.breaking := by
      rcases hblocked with h | h | h <;> simp [h]
    have hwaits : (c.breakPending && (c.breaking || c.busy)) = c.breakPending := by
      rcases hblocked with h | h | h <;> simp [h]
    rw [hbreaking, hwaits]

section
variable (l : LineId) (tx : Transaction) (rx : List RxChar) (s : State)

theorem endTransaction_ended : (endTransaction l tx (classify tx rx) rx s).lines[l.val] =
    { s.ended l tx rx with urgent := (endTransaction l tx (classify tx rx) rx s).lines[l.val].urgent } := by
  have hline := endTransaction_line l tx (classify tx rx) rx s
  generalize (endTransaction l tx (classify tx rx) rx s).lines[l.val].urgent = u at hline
  rw [hline, LineCtl.closing_counts, LineCtl.startBreak_of_idle rfl, clears_eq]
  rfl

end

/-! ## The discovery marks at the end -/

/-- Where other marks remain, the end of a transaction touches the line alone. -/
theorem clearMark_remaining {s : State} {l : LineId} {tx : Transaction} (h : s.marksRemain l tx) :
    clearMark l tx s = s.withLines (clearMark l tx s).lines := by
  unfold clearMark
  split
  next hclears =>
    obtain ⟨hmark, hslot, hin, habove⟩ := hclears
    have hends : endDiscoveryIfDone (s.updLine l fun c => { c with discovery := false }) =
        s.updLine l fun c => { c with discovery := false } := by
      refine if_neg fun hdone => ?_
      obtain ⟨hengine, hclear⟩ := hdone
      rcases h with h | h | h | h | ⟨m, hm, hlt⟩ | ⟨k, hk, hmarked⟩
      · exact h hengine
      · exact nomatch h.symm.trans hmark
      · exact h hslot
      · exact nomatch h.symm.trans hin
      · exact absurd (noneAbove_iff.mp habove m hm) (by omega)
      · have hother := (marksClear_iff _).mp hclear k
        rw [Fin.getElem_fin, State.updLine_other _ _ _ _ (Ne.symm hk)] at hother
        exact nomatch hother.symm.trans hmarked
    rw [hends]
    rfl
  · rfl

theorem Quiet.marksRemain {s t : State} {own : Option PadId} {l : LineId} {tx : Transaction} (h : Quiet own s t)
    (hm : s.marksRemain l tx) : t.marksRemain l tx := by
  have hmark (k : LineId) : (t.lines[k]).discovery = (s.lines[k]).discovery := by rw [h.lines]
  unfold State.marksRemain State.members State.onLine State.padRec at hm ⊢
  simp only [h.mode, h.tables, hmark]
  exact hm

section
variable {s : State} {l : LineId} {tx : Transaction} (o : LineOutcome) (rx : List RxChar)

/-- All but the lines is as the handing up leaves it, where other marks remain. -/
theorem endTransaction_remaining (hm : s.marksRemain l tx) : endTransaction l tx o rx s =
    (handedUp l tx o rx s).withLines (endTransaction l tx o rx s).lines := by
  have hclosed : (s.updLine l (LineCtl.closing o (endsLong rx))).marksRemain l tx := by
    have hmark (k : LineId) :
        ((s.updLine l (LineCtl.closing o (endsLong rx))).lines[k]).discovery = (s.lines[k]).discovery := by
      simp only [Fin.getElem_fin, State.updLine_get]
      split
      · rw [LineCtl.closing_discovery]
      · rfl
    unfold State.marksRemain at hm ⊢
    simp only [hmark]
    exact hm
  have hhanded := (quiet_handedUp l tx o rx s).marksRemain hclosed
  rw [endTransaction_eq]
  conv_lhs => rw [clearMark_remaining hhanded]
  rfl

theorem endDiscoveryIfDone_decPending (s : State) (q : PadId) :
    ((endDiscoveryIfDone s).pads[q.val]).decPending = (s.pads[q.val]).decPending := by
  rcases endDiscoveryIfDone_cases s with h | ⟨-, -, h⟩
  · rw [h]
  · have hpad := startSweep_get (s.withMode { s.mode with engine := .running }) q
    rw [Pad.atSweepStart_eq] at hpad
    rw [h]
    exact (congrArg Pad.decPending hpad).trans rfl

/-- A decrease that is pending as the result is handed up is so at the end, where DISCOVERING may end too. -/
theorem endTransaction_decPending (q : PadId) : ((endTransaction l tx o rx s).pads[q.val]).decPending =
    ((handedUp l tx o rx s).pads[q.val]).decPending := by
  have hmark (u : State) : ((clearMark l tx u).pads[q.val]).decPending = (u.pads[q.val]).decPending := by
    unfold clearMark
    split
    · exact endDiscoveryIfDone_decPending _ q
    · rfl
  exact hmark (handedUp l tx o rx s)

/-- The pads of a line's urgent list at the end are those of before, the transaction's, and those with a decrease
pending (R76, R139). -/
theorem endTransaction_joins : s.lines[l.val].urgent <+: (endTransaction l tx o rx s).lines[l.val].urgent
    ∧ ∀ q : PadId, q ∈ (endTransaction l tx o rx s).lines[l.val].urgent →
      q ∈ s.lines[l.val].urgent ∨ tx.pad = some q ∨ ((endTransaction l tx o rx s).pads[q.val]).decPending = true := by
  have hhanded := quiet_handedUp l tx o rx s
  obtain ⟨hurgent, -, -⟩ := LineCtl.closing_keeps o (endsLong rx) s.lines[l.val]
  have hclosed : ((s.updLine l (LineCtl.closing o (endsLong rx))).lines[l.val]).urgent = s.lines[l.val].urgent := by
    rw [State.updLine_same, hurgent]
  rw [endTransaction_urgent]
  refine ⟨hclosed ▸ hhanded.grows l, fun q hq => ?_⟩
  rcases hhanded.joins l q hq with h | h | h
  · exact .inl (hclosed ▸ h)
  · exact .inr (.inl h)
  · exact .inr (.inr ((endTransaction_decPending o rx q).trans h))

theorem lineEnded (l : LineId) (tx : Transaction) (rx : List RxChar) (s : State) :
    LineEnded s (driveOutputs (endTransaction l tx (classify tx rx) rx s)) l tx rx := by
  obtain ⟨hgrows, hjoins⟩ := endTransaction_joins (s := s) (l := l) (tx := tx) (classify tx rx) rx
  exact ⟨endTransaction_ended l tx rx s, hgrows, hjoins⟩

end

/-- What a handling of the session leaves alone elsewhere. -/
theorem sameElsewhere_of_quiet {s u : State} {l : LineId} {own : Option PadId} {f : LineCtl → LineCtl}
    {v : Vector LineCtl 4} (h : Quiet own (s.updLine l f) u)
    (hv : ∀ k : LineId, k ≠ l → v[k] = { s.lines[k] with urgent := v[k].urgent }) :
    SameElsewhere s (driveOutputs (u.withLines v)) l own := by
  have hsignals : u.signals = s.signals := h.signals
  refine ⟨h.tables, h.time, h.mode, h.alloc, ?_, ?_, ?_, h.noticed.mask, h.noticed.fleet, h.pending, fun q hq => ?_,
    hv, h.groups⟩
  · exact (congrArg Signals.level hsignals).trans rfl
  · exact (congrArg Signals.taken hsignals).trans rfl
  · exact (congrArg Signals.latch hsignals).trans rfl
  · have hfall := h.others q (Ne.symm hq)
    exact ⟨hfall.rest, hfall.state⟩

/-! ## A result that reaches its pad -/

/-- The state in which a session handles the result of `tx`: its line closed, and the outcome counted at the pad
(R134). -/
def State.arrived (s : State) (l : LineId) (p : PadId) (o : LineOutcome) (rx : List RxChar) : State :=
  (s.updLine l (LineCtl.closing o (endsLong rx))).updPad p (Pad.countFailure o)

section
variable {s : State} {l : LineId} {tx : Transaction} {p : PadId} (o : LineOutcome) (rx : List RxChar)

theorem handedUp_awaits (h : s.awaits l tx p) :
    handedUp l tx o rx s = handUp p tx.request o rx (s.arrived l p o rx) := by
  obtain ⟨-, habandon, hpad, hline, hdrop, hstate, -⟩ := h
  have hreach : reaches (s.updLine l fun c => { c with inFlight := none, abandon := false, busy := endsLong rx }) l tx
      = some p := reaches_eq_some.mpr ⟨hpad, hline, hdrop, hstate⟩
  have hcounted : (s.updLine l fun c => { c with inFlight := none, abandon := false, busy := endsLong rx }).updLine l
      (LineCtl.count o) = s.updLine l (LineCtl.closing o (endsLong rx)) := by
    have hclosing : s.updLine l (LineCtl.closing o (endsLong rx)) =
        s.updLine l fun c => { (if s.lines[l].abandon then c else c.count o) with
          inFlight := none, abandon := false, busy := endsLong rx } := rfl
    rw [State.updLine_updLine, hclosing, habandon]
    cases o <;> rfl
  unfold handedUp
  dsimp only
  rw [if_neg (by rw [Fin.getElem_fin] at *; simp [habandon]), deliver]
  simp only [hreach, hcounted]
  rfl

/-- The end of a transaction whose result reaches its pad: the session's handling `u`, and the lines. -/
theorem endTransaction_awaits (h : s.awaits l tx p) : ∃ v : Vector LineCtl 4,
    endTransaction l tx o rx s = (handUp p tx.request o rx (s.arrived l p o rx)).withLines v
    ∧ (∀ k : LineId, (v[k]).urgent = ((handUp p tx.request o rx (s.arrived l p o rx)).lines[k]).urgent)
    ∧ SameElsewhere s (driveOutputs (endTransaction l tx o rx s)) l (some p) := by
  have hhanded := handedUp_awaits o rx h
  obtain ⟨-, -, hpad, -, -, -, hmarks⟩ := h
  have hremaining := endTransaction_remaining o rx hmarks
  refine ⟨(endTransaction l tx o rx s).lines, hhanded ▸ hremaining, fun k => ?_, ?_⟩
  · rw [← hhanded]
    exact endTransaction_urgent l tx o rx s k
  · rw [hremaining, ← hpad]
    exact sameElsewhere_of_quiet (quiet_handedUp l tx o rx s) fun k hk => endTransaction_other l tx o rx s k (Ne.symm hk)

end

end Sys2Proof.Machine

/-! PROOFS. What a reply does to the session of its own pad: faults, completion and the end of probing (R35 to R37, R41,
R51, R52). -/

namespace Sys2Proof.Machine

/-! ## The command that ends a transaction -/

section
variable {c : Instr} {l : LineId} {tx : Transaction} {rx : List RxChar} {s : State}

theorem endReply_ends (hflight : s.lines[l].inFlight = some tx) (hrx : replyChars rx ≠ []) :
    endReply l rx s = endTransaction l tx (classify tx rx) rx s := by
  rw [endReply, hflight]
  exact if_neg hrx

theorem replyTimeout_ends (hflight : s.lines[l].inFlight = some tx) :
    replyTimeout l s = endTransaction l tx .noReply [] s := by
  rw [replyTimeout, hflight]

theorem exec_endsTransaction (hflight : s.lines[l].inFlight = some tx) (h : endsTransaction c l rx) :
    exec c s = .next (driveOutputs (endTransaction l tx (classify tx rx) rx s)) := by
  have hreply (hrx : replyChars rx ≠ []) :
      (.next (driveOutputs (endReply l rx s)) : Host.Outcome State Fault Refusal) =
        .next (driveOutputs (endTransaction l tx (classify tx rx) rx s)) := by
    rw [endReply_ends hflight hrx]
  rcases h with ⟨rfl, rfl⟩ | ⟨hrx, rfl | rfl | rfl | rfl⟩
  · have houtcome : classify tx [] = .noReply := classify_of_none (replyChars_of_none (by simp))
    rw [houtcome, ← replyTimeout_ends hflight]
    rfl
  all_goals exact hreply hrx

theorem replyChars_of_good (h : (classify tx rx).isGood = true) : replyChars rx ≠ [] := by
  intro hnone
  rw [classify_of_none hnone] at h
  exact nomatch h

end

/-! ## The session's handling and the state it leaves -/

/-- `t` is the state that the end of a transaction of line `l` leaves, where the session of pad `p` has handled its
result by `u`. -/
structure Handled (s u t : State) (l : LineId) (p : PadId) : Prop where
  elsewhere : SameElsewhere s t l (some p)
  pads : t.pads = u.pads
  groups : t.groups = u.groups
  notices : t.notices = u.notices
  alloc : t.alloc = u.alloc
  urgent : ∀ k : LineId, (t.lines[k]).urgent = (u.lines[k]).urgent

section
variable {s : State} {l : LineId} {tx : Transaction} {p : PadId} {rx : List RxChar}

theorem endTransaction_handled (o : LineOutcome) (rx : List RxChar) (h : s.awaits l tx p) :
    Handled s (handUp p tx.request o rx (s.arrived l p o rx)) (driveOutputs (endTransaction l tx o rx s)) l p := by
  obtain ⟨v, heq, hurgent, helsewhere⟩ := endTransaction_awaits o rx h
  rw [heq] at helsewhere ⊢
  exact ⟨helsewhere, rfl, rfl, rfl, rfl, hurgent⟩

/-- A good reply of a kind that reaches pad `p`: the line is ended, and the session handles the reply. -/
theorem exec_reaches {kind : Byte} {c : Instr} (h : s.replyReaches l tx rx p kind)
    (hc : c = .report l rx ∨ c = .faultReport l rx ∨ c = .caps l rx) : ∃ t : State, exec c s = .next t
      ∧ LineEnded s t l tx rx
      ∧ Handled s (handUp p tx.request (classify tx rx) rx (s.arrived l p (classify tx rx) rx)) t l p := by
  obtain ⟨hawaits, hgood, -⟩ := h
  have hends : endsTransaction c l rx := .inr ⟨replyChars_of_good hgood, by tauto⟩
  exact ⟨_, exec_endsTransaction hawaits.1 hends, lineEnded l tx rx s, endTransaction_handled _ rx hawaits⟩

end

/-- A pad that has been heard: its failures in a row are none (R134). -/
def Pad.heard (q : Pad) : Pad := { q with failures := 0 }

section
variable (s : State) (l : LineId) (p : PadId) (o : LineOutcome) (rx : List RxChar)

@[simp] theorem arrived_time : (s.arrived l p o rx).time = s.time := rfl
@[simp] theorem arrived_tables : (s.arrived l p o rx).tables = s.tables := rfl
@[simp] theorem arrived_alloc : (s.arrived l p o rx).alloc = s.alloc := rfl
@[simp] theorem arrived_groups : (s.arrived l p o rx).groups = s.groups := rfl
@[simp] theorem arrived_mode : (s.arrived l p o rx).mode = s.mode := rfl
@[simp] theorem arrived_notices : (s.arrived l p o rx).notices = s.notices := rfl
@[simp] theorem arrived_site : (s.arrived l p o rx).site = s.site := rfl
@[simp] theorem arrived_padRec (q : PadId) : (s.arrived l p o rx).padRec q = s.padRec q := rfl
@[simp] theorem arrived_feederRec (g : GroupId) : (s.arrived l p o rx).feederRec g = s.feederRec g := rfl

@[simp] theorem arrived_pad : (s.arrived l p o rx).pads[p.val] = (s.pads[p.val]).countFailure o :=
  State.updPad_same _ _ _

theorem arrived_pad_good (h : o.isGood = true) : (s.arrived l p o rx).pads[p.val] = (s.pads[p.val]).heard := by
  rw [arrived_pad, Pad.countFailure, h]
  rfl

theorem arrived_other {q : PadId} (h : p ≠ q) : (s.arrived l p o rx).pads[q.val] = s.pads[q.val] :=
  State.updPad_other _ _ _ _ h

theorem arrived_urgent (k : LineId) : (s.arrived l p o rx).lines[k.val].urgent = s.lines[k.val].urgent := by
  obtain ⟨hurgent, -, -⟩ := LineCtl.closing_keeps o (endsLong rx) s.lines[k.val]
  simp only [State.arrived, State.updPad_lines, State.updLine_get]
  split
  · exact hurgent
  · rfl

end

/-! ## Faults (R52) -/

/-- A pad whose session becomes FAULTED. -/
def Pad.faulted (code : Byte) (q : Pad) : Pad := ({ q.clearFigures with fault := some code }).setState .faulted

theorem Pad.faulted_lower (code : Byte) (q : Pad) :
    ({ q.lower 0 with fault := some code, decPending := false, prior := 0 } : Pad).setState .faulted =
      q.faulted code := by
  rw [Pad.lower_eq]
  simp [Pad.faulted, Pad.clearFigures, Pad.setState]

/-- Between `s` and `t` a fault has been captured: the entry is stored, or the overflow counted, and PAD_FAULT is
raised (R52, R182). -/
structure Captured (s t : State) (p : PadId) (x : CaptureSource) (code : Byte) (power : Nat) : Prop where
  raised : noticeIn .padFault t.notices.pendingSet = true
  seq : t.notices.nextSeq = s.notices.nextSeq + 1
  stored : s.notices.captures.length < 8 → t.notices.captures = s.notices.captures ++
    [{ seq := s.notices.nextSeq, pad := p, source := x, code := code, power := power, time := s.time.running }]
  full : 8 ≤ s.notices.captures.length → t.notices.captures = s.notices.captures ∧ t.notices.overflow = true
    ∧ t.notices.overflowCount = min 255 (s.notices.overflowCount + 1)
    ∧ noticeIn .captureOverflow t.notices.pendingSet = true

theorem Captured.of_eq {s s' t t' : State} {p : PadId} {x : CaptureSource} {code : Byte} {power : Nat}
    (h : Captured s t p x code power) (hnotices : s.notices = s'.notices) (htime : s.time = s'.time)
    (hafter : t'.notices = t.notices) : Captured s' t' p x code power := by
  obtain ⟨hraised, hseq, hstored, hfull⟩ := h
  rw [hnotices, htime] at hstored
  rw [hnotices] at hseq hfull
  constructor
  · rwa [hafter]
  · rwa [hafter]
  · rwa [hafter]
  · rwa [hafter]

section
variable (p : PadId) (x : CaptureSource) (code : Byte) (power : Nat) (s : State)

theorem enterFaulted_pad : (enterFaulted p x code power s).pads[p.val] = (s.pads[p.val]).faulted code := by
  simp only [enterFaulted, increaseRelease_get, raise_pads, captureEvent_pads, State.updPad_same, decrease_get, if_true,
    Pad.faulted_lower]
  rw [if_neg]
  rintro ⟨-, -, h⟩
  exact absurd h (Nat.lt_irrefl 0)

theorem captured_raise : Captured s (raise .padFault (captureEvent p x code power s)) p x code power := by
  have hraised := raise_notices (captureEvent p x code power s) .padFault
  refine ⟨raise_joins _ _, ?_, fun h => ?_, fun h => ?_⟩
  · rw [hraised]
    exact captureEvent_nextSeq s p x code power
  · rw [hraised]
    exact captureEvent_stored s p x code power h
  · obtain ⟨hcaptures, hoverflow, hcount⟩ := captureEvent_full s p x code power (by exact not_lt.mpr h)
    have hfull : noticeIn .captureOverflow (captureEvent p x code power s).notices.pendingSet = true := by
      unfold captureEvent
      rw [if_neg (by exact not_lt.mpr h)]
      exact raise_joins _ _
    refine ⟨?_, ?_, ?_, (noticed_raise .padFault _).grows _ hfull⟩
    · rw [raise_captures, hcaptures]
    · rw [hraised]
      exact hoverflow
    · rw [hraised]
      exact hcount.trans (satInc_eq_min _ _)

theorem enterFaulted_captured : Captured s (enterFaulted p x code power s) p x code power := by
  refine (captured_raise p x code power _).of_eq ?_ ?_ (increaseRelease_notices _)
  · simp
  · simp

theorem enterFaulted_urgent (k : LineId) : ((enterFaulted p x code power s).lines[k]).urgent = urgentAfter s p 0 k := by
  rw [← urgentAfter_eq]
  simp [enterFaulted]

end

/-! ## FAULT_REPORT (R51) -/

/-- The decrease path's list depends on the list, the pad's sent setpoint and its line. -/
theorem urgentAfter_of_eq {s u : State} {p : PadId} {k : LineId} {v : Nat}
    (hurgent : (u.lines[k]).urgent = (s.lines[k]).urgent) (hsent : (u.pads[p]).sent = (s.pads[p]).sent)
    (htables : u.tables = s.tables) :
    urgentAfter u p v k = urgentAfter s p v k := by
  unfold urgentAfter State.padRec
  rw [hurgent, hsent, htables]

theorem State.updPad_updPad (p : PadId) (f g : Pad → Pad) (s : State) :
    (s.updPad p f).updPad p g = s.updPad p fun q => g (f q) := by
  simp [State.updPad, State.withPads]

theorem State.updPad_congr {p : PadId} {f g : Pad → Pad} {s : State} (h : f s.pads[p.val] = g s.pads[p.val]) :
    s.updPad p f = s.updPad p g :=
  congrArg (fun q => s.withPads (s.pads.set p q)) h

section
variable (p : PadId) (code docking : Byte) (power : Nat) {s : State}

theorem handleFault_again (h : s.pads[p.val].state = .faulted) : handleFault p code docking power s =
    raise .padFault (captureEvent p .charger code power
      ((s.updPad p (Pad.storeFaultDocking docking)).updPad p fun q => { q with fault := some code })) := by
  rw [handleFault, Fin.getElem_fin, h]

/-- The pad as its session takes the FAULT_REPORT: a SILENT pad gives up its reservation. -/
def Pad.takesFault (docking : Byte) (q : Pad) : Pad :=
  if q.state = .silent then (q.storeFaultDocking docking).clearReservation else q.storeFaultDocking docking

theorem Pad.takesFault_eq (docking : Byte) (q : Pad) : q.takesFault docking =
    { q with
      report := q.report.map fun r => { r with docking := docking }
      reservation := if q.state = .silent then 0 else q.reservation
      roundsLeft := if q.state = .silent then 0 else q.roundsLeft } := by
  unfold Pad.takesFault
  split
  · rfl
  · rfl

theorem handleFault_enters (hf : s.pads[p.val].state ≠ .faulted) (hd : s.pads[p.val].state ≠ .disabled) :
    handleFault p code docking power s =
      enterFaulted p .charger code power (s.updPad p (Pad.takesFault docking)) := by
  by_cases hs : s.pads[p.val].state = .silent
  · have htakes : s.updPad p (Pad.takesFault docking) =
        (s.updPad p (Pad.storeFaultDocking docking)).updPad p Pad.clearReservation := by
      rw [State.updPad_updPad]
      exact State.updPad_congr (if_pos hs)
    rw [handleFault, Fin.getElem_fin, hs, htakes]
  · have htakes : s.updPad p (Pad.takesFault docking) = s.updPad p (Pad.storeFaultDocking docking) :=
      State.updPad_congr (if_neg hs)
    rw [htakes, handleFault]
    dsimp only [Fin.getElem_fin]
    split
    · exact absurd ‹_› hd
    · exact absurd ‹_› hf
    · exact absurd ‹_› hs
    all_goals rfl

theorem handleFault_captured (h : s.pads[p.val].state ≠ .disabled) :
    Captured s (handleFault p code docking power s) p .charger code power := by
  by_cases hf : s.pads[p.val].state = .faulted
  · rw [handleFault_again p code docking power hf]
    have hcaptured := captured_raise p .charger code power
      ((s.updPad p (Pad.storeFaultDocking docking)).updPad p fun q => { q with fault := some code })
    exact hcaptured.of_eq rfl rfl rfl
  · rw [handleFault_enters p code docking power hf h]
    have hcaptured := enterFaulted_captured p .charger code power (s.updPad p (Pad.takesFault docking))
    exact hcaptured.of_eq rfl rfl rfl

theorem handleFault_pad (h : s.pads[p.val].state ≠ .disabled) : (handleFault p code docking power s).pads[p.val] =
    if s.pads[p.val].state = .faulted then { (s.pads[p.val]).storeFaultDocking docking with fault := some code }
    else ((s.pads[p.val]).takesFault docking).faulted code := by
  split
  next hf => simp [handleFault_again p code docking power hf]
  next hf => rw [handleFault_enters p code docking power hf h, enterFaulted_pad, State.updPad_same]

end

/-- Settles O50. -/
theorem faultReportFaultsThePad : Obligations.FaultReportFaultsThePad := by
  intro l tx rx p s h
  obtain ⟨t, hexec, hline, hhandled⟩ := exec_reaches h (.inr (.inl rfl))
  obtain ⟨⟨-, -, -, -, -, hdisabled, -⟩, hgood, hkind⟩ := h
  have hup : handUp p tx.request (classify tx rx) rx (s.arrived l p (classify tx rx) rx) =
      handleFault p (byteAt (replyBody rx) 0) (byteAt (replyBody rx) 3) (wordAt (replyBody rx) 1)
        (s.arrived l p (classify tx rx) rx) := by
    unfold handUp
    rw [if_pos hgood, hkind]
    rfl
  rw [hup] at hhandled
  have hpad := arrived_pad_good s l p (classify tx rx) rx hgood
  have harrived : (s.arrived l p (classify tx rx) rx).pads[p.val].state ≠ .disabled := by
    rw [hpad]
    exact hdisabled
  have hcaptured := (handleFault_captured p (byteAt (replyBody rx) 0) (byteAt (replyBody rx) 3) (wordAt (replyBody rx) 1)
    harrived).of_eq (arrived_notices s _ _ _ _) (arrived_time s _ _ _ _) hhandled.notices
  have hown := handleFault_pad p (byteAt (replyBody rx) 0) (byteAt (replyBody rx) 3) (wordAt (replyBody rx) 1) harrived
  have hself := congrArg (fun v => v[p.val]) hhandled.pads
  rw [hown, hpad] at hself
  have hsent : ((s.arrived l p (classify tx rx) rx).updPad p (Pad.takesFault (byteAt (replyBody rx) 3))).pads[p].sent =
      s.pads[p].sent := by
    rw [Fin.getElem_fin, State.updPad_same, hpad, Pad.takesFault_eq]
    rfl
  have hlist (hf : s.pads[p].state ≠ .faulted) (k : LineId) : (t.lines[k]).urgent = urgentAfter s p 0 k := by
    rw [hhandled.urgent, handleFault_enters _ _ _ _ (by rw [hpad]; exact hf) harrived, enterFaulted_urgent]
    exact urgentAfter_of_eq (arrived_urgent s l p (classify tx rx) rx k) hsent rfl
  refine ⟨t, hexec, hhandled.elsewhere, hline, ?_⟩
  by_cases hf : s.pads[p].state = .faulted
  · replace hself := hself.trans (if_pos hf)
    refine ⟨(congrArg Pad.state hself).trans hf, congrArg Pad.fault hself, congrArg Pad.failures hself,
      congrArg Pad.report hself, (congrArg Pad.dispatch hself).trans rfl, (congrArg Pad.caps hself).trans rfl,
      fun h => absurd hf h, fun h => ?_, hcaptured.raised, hcaptured.seq, hcaptured.stored, hcaptured.full⟩
    rw [hf] at h
    exact nomatch h
  · replace hself := hself.trans (if_neg hf)
    rw [Pad.takesFault_eq] at hself
    refine ⟨congrArg Pad.state hself, congrArg Pad.fault hself, congrArg Pad.failures hself,
      congrArg Pad.report hself, (congrArg Pad.dispatch hself).trans rfl, (congrArg Pad.caps hself).trans rfl,
      fun h => ⟨congrArg Pad.grant hself, congrArg Pad.sent hself, congrArg Pad.prior hself,
        congrArg Pad.decPending hself, hlist h⟩, fun h => (congrArg Pad.reservation hself).trans (if_pos h),
      hcaptured.raised, hcaptured.seq, hcaptured.stored, hcaptured.full⟩

end Sys2Proof.Machine

/-! PROOFS. Completion, the end of probing, and CAPS (R35 to R37, R41). -/

namespace Sys2Proof.Machine

/-! ## The completion check (R41) -/

/-- A pad after the completion check. -/
def Pad.checked (q : Pad) : Pad :=
  if q.state.served = true ∧ q.dispatch.isSome = true ∧ q.remaining = 0 then (q.lower 0).setState .complete else q

theorem Pad.checked_eq (q : Pad) : q.checked =
    { q with
      state := q.checked.state, grant := q.checked.grant, sent := q.checked.sent, prior := q.checked.prior
      decPending := q.checked.decPending, stayed := q.checked.stayed } := by
  unfold Pad.checked
  split
  · rw [Pad.lower_eq]
    rfl
  · rfl

section
variable (q : Pad)

@[simp] theorem Pad.checked_inScope : q.checked.inScope = q.inScope := by rw [Pad.checked_eq]
@[simp] theorem Pad.checked_docking : q.checked.docking = q.docking := by rw [Pad.checked_eq]
@[simp] theorem Pad.checked_inDocking : q.checked.inDocking = q.inDocking := by rw [Pad.checked_eq]
@[simp] theorem Pad.checked_report : q.checked.report = q.report := by rw [Pad.checked_eq]
@[simp] theorem Pad.checked_caps : q.checked.caps = q.caps := by rw [Pad.checked_eq]
@[simp] theorem Pad.checked_attempts : q.checked.attempts = q.attempts := by rw [Pad.checked_eq]
@[simp] theorem Pad.checked_dispatch : q.checked.dispatch = q.dispatch := by rw [Pad.checked_eq]
@[simp] theorem Pad.checked_limit : q.checked.limit = q.limit := by rw [Pad.checked_eq]
@[simp] theorem Pad.checked_fault : q.checked.fault = q.fault := by rw [Pad.checked_eq]
@[simp] theorem Pad.checked_need : q.checked.need = q.need := by rw [Pad.checked_eq]
@[simp] theorem Pad.checked_urgency : q.checked.urgency = q.urgency := by rw [Pad.checked_eq]
@[simp] theorem Pad.checked_reservation : q.checked.reservation = q.reservation := by rw [Pad.checked_eq]
@[simp] theorem Pad.checked_roundsLeft : q.checked.roundsLeft = q.roundsLeft := by rw [Pad.checked_eq]
@[simp] theorem Pad.checked_delivered : q.checked.delivered = q.delivered := by rw [Pad.checked_eq]
@[simp] theorem Pad.checked_remaining : q.checked.remaining = q.remaining := by rw [Pad.checked_eq]
@[simp] theorem Pad.checked_overdraw : q.checked.overdraw = q.overdraw := by rw [Pad.checked_eq]
@[simp] theorem Pad.checked_failures : q.checked.failures = q.failures := by rw [Pad.checked_eq]
@[simp] theorem Pad.checked_sample : q.checked.sample = q.sample := by rw [Pad.checked_eq]

end

theorem Pad.checked_state (q : Pad) : q.checked.state =
    if q.state.served = true ∧ q.dispatch.isSome = true ∧ q.remaining = 0 then .complete else q.state := by
  unfold Pad.checked
  split <;> rfl

section
variable (p : PadId) (s : State)

theorem completionCheck_pad : (completionCheck p s).pads[p.val] = (s.pads[p.val]).checked := by
  unfold completionCheck Pad.checked
  simp only [Fin.getElem_fin]
  split
  · rw [complete_get, if_pos rfl]
  · rfl

theorem completionCheck_raised (h : (s.pads[p.val]).checked.state = .complete) (hstate : s.pads[p.val].state ≠ .complete) :
    noticeIn .padComplete (completionCheck p s).notices.pendingSet = true := by
  rw [Pad.checked_state] at h
  split at h
  next hdone =>
    have hcheck : completionCheck p s = complete p s := if_pos hdone
    rw [hcheck]
    exact complete_raised
  next => exact absurd h hstate

/-! ## The end of probing (R37) -/

/-- A pad whose last probe attempt has failed, by its record's `assume`. -/
def Pad.probed (site : SiteRec) (assume : Bool) (q : Pad) : Pad :=
  if assume then (({ q with caps := some (defaultCapability site) } : Pad).setState .waiting).checked
  else q.faulted codeNoCaps

end

section
variable (site : SiteRec) (assume : Bool) (q : Pad)

@[simp] theorem Pad.probed_inScope : (q.probed site assume).inScope = q.inScope := by
  unfold Pad.probed
  split <;> simp [Pad.setState, Pad.faulted, Pad.clearFigures]
@[simp] theorem Pad.probed_docking : (q.probed site assume).docking = q.docking := by
  unfold Pad.probed
  split <;> simp [Pad.setState, Pad.faulted, Pad.clearFigures]
@[simp] theorem Pad.probed_inDocking : (q.probed site assume).inDocking = q.inDocking := by
  unfold Pad.probed
  split <;> simp [Pad.setState, Pad.faulted, Pad.clearFigures]
@[simp] theorem Pad.probed_report : (q.probed site assume).report = q.report := by
  unfold Pad.probed
  split <;> simp [Pad.setState, Pad.faulted, Pad.clearFigures]
@[simp] theorem Pad.probed_attempts : (q.probed site assume).attempts = q.attempts := by
  unfold Pad.probed
  split <;> simp [Pad.setState, Pad.faulted, Pad.clearFigures]
@[simp] theorem Pad.probed_dispatch : (q.probed site assume).dispatch = q.dispatch := by
  unfold Pad.probed
  split <;> simp [Pad.setState, Pad.faulted, Pad.clearFigures]
@[simp] theorem Pad.probed_limit : (q.probed site assume).limit = q.limit := by
  unfold Pad.probed
  split <;> simp [Pad.setState, Pad.faulted, Pad.clearFigures]
@[simp] theorem Pad.probed_need : (q.probed site assume).need = q.need := by
  unfold Pad.probed
  split <;> simp [Pad.setState, Pad.faulted, Pad.clearFigures]
@[simp] theorem Pad.probed_urgency : (q.probed site assume).urgency = q.urgency := by
  unfold Pad.probed
  split <;> simp [Pad.setState, Pad.faulted, Pad.clearFigures]
@[simp] theorem Pad.probed_reservation : (q.probed site assume).reservation = q.reservation := by
  unfold Pad.probed
  split <;> simp [Pad.setState, Pad.faulted, Pad.clearFigures]
@[simp] theorem Pad.probed_roundsLeft : (q.probed site assume).roundsLeft = q.roundsLeft := by
  unfold Pad.probed
  split <;> simp [Pad.setState, Pad.faulted, Pad.clearFigures]
@[simp] theorem Pad.probed_delivered : (q.probed site assume).delivered = q.delivered := by
  unfold Pad.probed
  split <;> simp [Pad.setState, Pad.faulted, Pad.clearFigures]
@[simp] theorem Pad.probed_remaining : (q.probed site assume).remaining = q.remaining := by
  unfold Pad.probed
  split <;> simp [Pad.setState, Pad.faulted, Pad.clearFigures]
@[simp] theorem Pad.probed_overdraw : (q.probed site assume).overdraw = q.overdraw := by
  unfold Pad.probed
  split <;> simp [Pad.setState, Pad.faulted, Pad.clearFigures]
@[simp] theorem Pad.probed_failures : (q.probed site assume).failures = q.failures := by
  unfold Pad.probed
  split <;> simp [Pad.setState, Pad.faulted, Pad.clearFigures]
@[simp] theorem Pad.probed_sample : (q.probed site assume).sample = q.sample := by
  unfold Pad.probed
  split <;> simp [Pad.setState, Pad.faulted, Pad.clearFigures]

/-- The default record that the last attempt takes, and the completion check that follows (R37, R41). -/
theorem Pad.probed_default : (q.probed site true).caps = some (defaultCapability site) ∧ (q.probed site true).state =
    if q.dispatch.isSome = true ∧ q.remaining = 0 then .complete else .waiting := by
  have hserved : SessionState.waiting.served = true := rfl
  simp [Pad.probed, Pad.checked_state, Pad.setState, hserved]

theorem Pad.probed_noCaps : (q.probed site false).state = .faulted ∧ (q.probed site false).fault = some 129 :=
  ⟨rfl, rfl⟩

end

section
variable (p : PadId) (s : State)

theorem endProbing_pad : (endProbing p s).pads[p.val] =
    (s.pads[p.val]).probed s.site (s.padRec p).assumeDefault := by
  unfold endProbing Pad.probed
  split
  · rw [completionCheck_pad, State.updPad_same]
  · exact enterFaulted_pad p _ _ _ s

theorem endProbing_faulted (h : (s.padRec p).assumeDefault = false) :
    noticeIn .padFault (endProbing p s).notices.pendingSet = true := by
  unfold endProbing
  rw [h]
  exact (enterFaulted_captured p _ _ _ s).raised

/-- A pad with one more failed probe attempt. -/
def Pad.attempted (q : Pad) : Pad := { q with attempts := q.attempts + 1 }

theorem probeFailed_again (h : s.pads[p.val].attempts + 1 < s.site.probeAttempts) :
    probeFailed p s = s.updPad p Pad.attempted := by
  have hcount : (s.updPad p Pad.attempted).pads[p.val].attempts = s.pads[p.val].attempts + 1 := by
    rw [State.updPad_same]
    rfl
  exact if_neg (by exact hcount ▸ not_le.mpr h)

theorem probeFailed_last (h : s.site.probeAttempts ≤ s.pads[p.val].attempts + 1) :
    probeFailed p s = endProbing p (s.updPad p Pad.attempted) := by
  have hcount : (s.updPad p Pad.attempted).pads[p.val].attempts = s.pads[p.val].attempts + 1 := by
    rw [State.updPad_same]
    rfl
  exact if_pos (by exact hcount ▸ h)

end

/-! ## CAPS (R35, R36) -/

theorem ascending_iff (l : List Nat) : ascending l = true ↔ l.Pairwise (· < ·) := by
  rw [← List.isChain_iff_pairwise]
  induction l with
  | nil => simp [ascending]
  | cons a l ih =>
    cases l with
    | nil => simp [ascending]
    | cons b l => simp [ascending, ih]

theorem tiersUsed_iff (c : CapsFields) : c.tiersUsed = true ↔ c.tiers.length ≤ 6 ∧ c.tiers.Pairwise (· < ·)
    ∧ ∀ v : Nat, v ∈ c.tiers → c.vmin ≤ v ∧ v ≤ c.vmax := by
  simp [CapsFields.tiersUsed, ascending_iff, and_assoc]

theorem passes_eq (c : CapsFields) :
    c.passes = decide (1 ≤ c.vmax ∧ c.vmax ≤ 400 ∧ 1 ≤ c.vmin ∧ c.vmin ≤ c.vmax) := by
  simp [CapsFields.passes, Bool.and_assoc]

/-- A pad whose CAPS has passed, before the completion check. -/
def Pad.learnt (c : CapsFields) (q : Pad) : Pad :=
  (Pad.clampTarget c.battery { q with caps := some c.capability }).setState .waiting

theorem Pad.learnt_eq (c : CapsFields) (q : Pad) : q.learnt c =
    { q with
      state := .waiting, stayed := (q.learnt c).stayed, caps := some c.capability
      dispatch := (q.learnt c).dispatch, remaining := (q.learnt c).remaining } := by
  unfold Pad.learnt
  rw [Pad.clampTarget_eq]
  rfl

section
variable (c : CapsFields) (q : Pad)

@[simp] theorem Pad.learnt_report : (q.learnt c).report = q.report := by rw [Pad.learnt_eq]
@[simp] theorem Pad.learnt_delivered : (q.learnt c).delivered = q.delivered := by rw [Pad.learnt_eq]
@[simp] theorem Pad.learnt_failures : (q.learnt c).failures = q.failures := by rw [Pad.learnt_eq]
@[simp] theorem Pad.learnt_caps : (q.learnt c).caps = some c.capability := by rw [Pad.learnt_eq]
@[simp] theorem Pad.learnt_state : (q.learnt c).state = .waiting := rfl

end

/-- A target above a battery capacity so learned is lowered to it (R35, R115). -/
theorem Pad.learnt_dispatch (c : CapsFields) {q : Pad} {d : Dispatch} (h : q.dispatch = some d) :
    (q.learnt c).dispatch = some { d with target := min d.target (c.battery.getD d.target) }
    ∧ (q.learnt c).remaining =
      (match c.battery with
       | some b => if b < d.target then b - q.delivered else q.remaining
       | none => q.remaining) := by
  unfold Pad.learnt Pad.clampTarget
  cases hb : c.battery with
  | none => simp [h, Pad.setState]
  | some b =>
    simp only [h]
    split
    next hlt => simp [Pad.setState, hlt.le]
    next hle => simp [Pad.setState, not_lt.mp hle]

theorem Pad.learnt_none (c : CapsFields) {q : Pad} (h : q.dispatch = none) : (q.learnt c).dispatch = none := by
  unfold Pad.learnt Pad.clampTarget
  cases hb : c.battery <;> simp [h, Pad.setState]

section
variable {p : PadId} {c : CapsFields} {s : State}

theorem handleCaps_discarded (h : s.pads[p.val].state ≠ .probing) : handleCaps p c s = s := if_pos h

theorem handleCaps_passes (h : s.pads[p.val].state = .probing) (hc : c.passes = true) :
    handleCaps p c s = completionCheck p (s.updPad p (Pad.learnt c)) := by
  rw [handleCaps, if_neg (by exact not_not.mpr h), if_pos hc]
  rfl

theorem handleCaps_fails (h : s.pads[p.val].state = .probing) (hc : c.passes = false) :
    handleCaps p c s = probeFailed p s := by
  rw [handleCaps, if_neg (by exact not_not.mpr h), hc]
  rfl

end

/-- Settles O51. -/
theorem capsEndsProbing : Obligations.CapsEndsProbing := by
  intro l tx rx p c ok s h hcaps hok
  obtain ⟨t, hexec, hline, hhandled⟩ := exec_reaches h (.inr (.inr rfl))
  obtain ⟨-, hgood, hkind⟩ := h
  have hpad := arrived_pad_good s l p (classify tx rx) rx hgood
  have hsite := arrived_site s l p (classify tx rx) rx
  have hrec := arrived_padRec s l p (classify tx rx) rx p
  have hup : handUp p tx.request (classify tx rx) rx (s.arrived l p (classify tx rx) rx) =
      handleCaps p c (s.arrived l p (classify tx rx) rx) := by
    unfold handUp
    rw [if_pos hgood, hkind, hcaps]
    rfl
  rw [hup] at hhandled
  rw [← passes_eq] at hok
  generalize s.arrived l p (classify tx rx) rx = a at *
  have hself := congrArg (fun v => v[p.val]) hhandled.pads
  have ignored_iff : c.capability.tiersIgnored = false ↔ c.tiers.length ≤ 6 ∧ c.tiers.Pairwise (· < ·)
      ∧ ∀ v : Nat, v ∈ c.tiers → c.vmin ≤ v ∧ v ≤ c.vmax := by
    rw [← tiersUsed_iff]
    simp [CapsFields.capability]
  have hstate : a.pads[p.val].state = s.pads[p.val].state := (congrArg Pad.state hpad).trans rfl
  by_cases hprobing : s.pads[p].state = .probing
  · cases hpass : c.passes with
    | true =>
      have hok' : ok = true := hok.trans hpass
      have hcheck := handleCaps_passes (hstate.trans hprobing) hpass
      have hdone := completionCheck_raised p (a.updPad p (Pad.learnt c))
      rw [hcheck, completionCheck_pad, State.updPad_same, hpad] at hself
      rw [State.updPad_same, hpad, ← hcheck, ← hhandled.notices] at hdone
      refine ⟨t, hexec, hhandled.elsewhere, hline, ?_, ?_, fun h => absurd hprobing h, fun _ _ => ⟨?_, fun hnone => ?_,
        fun d hd => ?_⟩, fun _ h => (nomatch h.symm.trans hok'), fun _ h => (nomatch h.symm.trans hok')⟩
      · simp [hself, Pad.heard]
      · simp [hself, Pad.heard]
      · refine ⟨c.capability, by simp [hself], rfl, rfl, rfl, rfl, rfl, fun h => ?_, fun h => ?_, ?_⟩
        · have hused := ignored_iff.mp h
          exact ⟨if_pos ((tiersUsed_iff c).mpr hused), hused.1⟩
        · exact if_neg (by simpa [CapsFields.capability] using h)
        · exact ignored_iff
      · have hstays : ((s.pads[p.val]).heard.learnt c).dispatch = none := Pad.learnt_none c hnone
        simp [hself, Pad.checked_state, hstays]
      · obtain ⟨hdispatch, hremaining⟩ := Pad.learnt_dispatch c (q := (s.pads[p.val]).heard) hd
        have hserved : SessionState.waiting.served = true := rfl
        refine ⟨?_, ?_, ?_, fun h => ?_, fun h => ?_⟩
        · simp [hself, hdispatch]
        · simp [hself, Pad.heard]
        · simp only [hself, Fin.getElem_fin, Pad.checked_remaining, hremaining]
          rfl
        · simp only [hself, Fin.getElem_fin, Pad.checked_remaining] at h
          have hcomplete : ((s.pads[p.val]).heard.learnt c).checked.state = .complete := by
            simp [Pad.checked_state, hdispatch, h, hserved]
          exact ⟨(congrArg Pad.state hself).trans hcomplete, hdone hcomplete (by simp)⟩
        · simp only [hself, Fin.getElem_fin, Pad.checked_remaining] at h
          have hleft : ((s.pads[p.val]).heard.learnt c).checked.state = .waiting := by
            simp [Pad.checked_state, h.ne']
          exact (congrArg Pad.state hself).trans hleft
    | false =>
      have hok' : ok = false := hok.trans hpass
      have hfails := handleCaps_fails (hstate.trans hprobing) hpass
      have hattempts : a.pads[p.val].attempts = s.pads[p.val].attempts := (congrArg Pad.attempts hpad).trans rfl
      by_cases hlast : s.site.probeAttempts ≤ s.pads[p].attempts + 1
      · have hends := hfails.trans (probeFailed_last p a (by rw [hattempts, hsite]; exact hlast))
        have hfaulted := endProbing_faulted p (a.updPad p Pad.attempted)
        rw [← hends, ← hhandled.notices] at hfaulted
        rw [hends, endProbing_pad, State.updPad_same, hpad] at hself
        replace hself : t.pads[p.val] = ((s.pads[p.val]).heard.attempted).probed s.site (s.padRec p).assumeDefault := by
          rw [← hsite, ← hrec]
          exact hself
        refine ⟨t, hexec, hhandled.elsewhere, hline, ?_, ?_, fun h => absurd hprobing h,
          fun _ h => (nomatch h.symm.trans hok'), fun _ _ h => absurd hlast (not_le.mpr h),
          fun _ _ _ => ⟨fun hassume hnone => ?_, fun hassume => ?_⟩⟩
        · simp [hself, Pad.heard, Pad.attempted]
        · simp [hself, Pad.heard, Pad.attempted]
        · obtain ⟨hcaps, hwaiting⟩ := Pad.probed_default s.site ((s.pads[p.val]).heard.attempted)
          rw [hassume] at hself
          rw [if_neg (by rw [show (s.pads[p.val]).heard.attempted.dispatch = none from hnone]; nofun)] at hwaiting
          exact ⟨(congrArg Pad.state hself).trans hwaiting, (congrArg Pad.caps hself).trans hcaps⟩
        · rw [hassume] at hself
          exact ⟨congrArg Pad.state hself, congrArg Pad.fault hself, hfaulted (by rw [← hassume, ← hrec]; rfl)⟩
      · have hagain := hfails.trans (probeFailed_again p a (by rw [hattempts, hsite]; exact not_le.mp hlast))
        rw [hagain, State.updPad_same, hpad] at hself
        exact ⟨t, hexec, hhandled.elsewhere, hline, congrArg Pad.failures hself, (congrArg Pad.report hself).trans rfl,
          fun h => absurd hprobing h, fun _ h => (nomatch h.symm.trans hok'), fun _ _ _ => hself,
          fun _ _ h => absurd h hlast⟩
  · rw [handleCaps_discarded (hstate.symm ▸ hprobing)] at hself
    replace hself := hself.trans hpad
    exact ⟨t, hexec, hhandled.elsewhere, hline, congrArg Pad.failures hself, (congrArg Pad.report hself).trans rfl,
      fun _ => hself, fun h => absurd h hprobing, fun h => absurd h hprobing, fun h => absurd h hprobing⟩

end Sys2Proof.Machine

/-! PROOFS. The voltage monitor's evaluation (R98 to R104), and failed transactions (R37, R48, R134). -/

namespace Sys2Proof.Machine

/-! ## The group minimum (R100) -/

section
variable {s : State} {g : GroupId}

theorem mem_samples {v : Nat} : v ∈ s.samples g ↔ ∃ q : PadId, s.inGroup g q = true ∧ (s.pads[q]).sample = some v := by
  simp [State.samples, allPads]

theorem minVoltage_eq_none : s.minVoltage g = none ↔
    ∀ q : PadId, s.inGroup g q = true → (s.pads[q]).sample = none := by
  rw [State.minVoltage, List.min?_eq_none_iff, List.eq_nil_iff_forall_not_mem]
  simp only [mem_samples, not_exists, not_and, Option.eq_none_iff_forall_ne_some]
  exact ⟨fun h q hq v => h v q hq, fun h v q hq => h q hq v⟩

theorem minVoltage_eq_some {m : Nat} : s.minVoltage g = some m ↔
    (∃ q : PadId, s.inGroup g q = true ∧ (s.pads[q]).sample = some m)
    ∧ ∀ (q : PadId) (v : Nat), s.inGroup g q = true → (s.pads[q]).sample = some v → m ≤ v := by
  rw [State.minVoltage, List.min?_eq_some_iff, mem_samples]
  simp only [mem_samples]
  exact ⟨fun ⟨hm, hle⟩ => ⟨hm, fun q v hq hv => hle v ⟨q, hq, hv⟩⟩,
    fun ⟨hm, hle⟩ => ⟨hm, fun v ⟨q, hq, hv⟩ => hle q v hq hv⟩⟩

/-! ## The evaluation (R100, R102, R104) -/

theorem raiseAll_joins {k : Notice} {ks : List Notice} (h : k ∈ ks) (s : State) :
    noticeIn k (raiseAll ks s).notices.pendingSet = true := by
  induction ks generalizing s with
  | nil => exact nomatch h
  | cons j ks ih =>
    rcases List.mem_cons.mp h with rfl | h
    · exact (noticed_raiseAll ks (raise k s)).grows k (raise_joins _ _)
    · exact ih h (raise j s)

theorem moveVoltage_none (h : s.minVoltage g = none) : moveVoltage g s = s := by
  rw [moveVoltage, h]

theorem moveVoltage_some {m : Nat} (h : s.minVoltage g = some m) : moveVoltage g s =
    raiseAll (voltageMove (s.feederRec g) (s.groups[g.val]).vstate m).2
      (s.updGroup g fun x => { x with vstate := (voltageMove (s.feederRec g) (s.groups[g.val]).vstate m).1 }) := by
  rw [moveVoltage, h]
  rfl

theorem evaluateVoltage_none (h : s.minVoltage g = none) : evaluateVoltage g s = s := by
  simp [evaluateVoltage, moveVoltage_none h]

theorem evaluateVoltage_other (h : GroupId) (hne : g ≠ h) :
    (evaluateVoltage g s).groups[h.val] = s.groups[h.val] := by
  unfold evaluateVoltage
  dsimp only
  split
  · exact moveVoltage_other g h s hne
  · simp only [recompute_groups, storeCapacity_get, if_neg hne, moveVoltage_other g h s hne]

/-- The evaluation neither enters nor leaves SHED. -/
def State.shedStays (s : State) (g : GroupId) : Prop :=
  (((moveVoltage g s).groups[g.val]).vstate == .shed) = (s.groups[g.val].vstate == .shed)

theorem evaluateVoltage_same (h : s.shedStays g) : evaluateVoltage g s = moveVoltage g s := if_pos (beq_iff_eq.mpr h)

theorem evaluateVoltage_moved (h : ¬ s.shedStays g) : evaluateVoltage g s = recompute g (moveVoltage g s) :=
  if_neg (mt beq_iff_eq.mp h)

theorem evaluateVoltage_vstate : ((evaluateVoltage g s).groups[g.val]).vstate = ((moveVoltage g s).groups[g.val]).vstate
    ∧ ((evaluateVoltage g s).groups[g.val]).shedInput = s.groups[g.val].shedInput := by
  have hmoved := moveVoltage_get g g s
  by_cases h : s.shedStays g
  · rw [evaluateVoltage_same h]
    exact ⟨rfl, (congrArg Group.shedInput hmoved).trans rfl⟩
  · simp only [evaluateVoltage_moved h, recompute_groups, storeCapacity_get, if_true, true_and]
    exact (congrArg Group.shedInput hmoved).trans rfl

theorem evaluateVoltage_capacity_same (h : s.shedStays g) :
    ((evaluateVoltage g s).groups[g.val]).capacity = s.groups[g.val].capacity := by
  rw [evaluateVoltage_same h]
  exact (congrArg Group.capacity (moveVoltage_get g g s)).trans rfl

theorem evaluateVoltage_capacity_moved (h : ¬ s.shedStays g) : ((evaluateVoltage g s).groups[g.val]).capacity =
    capacityOf (s.feederRec g) (evaluateVoltage g s).groups[g.val] := by
  have hrec : (moveVoltage g s).feederRec g = s.feederRec g := by simp [State.feederRec]
  simp only [evaluateVoltage_moved h, recompute_groups, storeCapacity_get, if_true, hrec]
  rfl

theorem evaluateVoltage_raised {k : Notice} (h : noticeIn k (moveVoltage g s).notices.pendingSet = true) :
    noticeIn k (evaluateVoltage g s).notices.pendingSet = true := by
  unfold evaluateVoltage
  dsimp only
  split
  · exact h
  · rwa [recompute_notices]

theorem sample_of_quiet {s t : State} (h : Quiet none s t) (q : PadId) : (t.pads[q]).sample = (s.pads[q]).sample :=
  (congrArg Pad.sample (h.others q nofun).rest).trans rfl

/-- A group that holds a sample is evaluated. -/
theorem groupEvaluated (h : ∃ m, s.minVoltage g = some m) : GroupEvaluated s (evaluateVoltage g s) g := by
  obtain ⟨m, hm⟩ := h
  obtain ⟨⟨p, hp, hsample⟩, hleast⟩ := minVoltage_eq_some.mp hm
  have hquiet := quiet_evaluateVoltage g s
  have hvstate : ((moveVoltage g s).groups[g.val]).vstate = (voltageMove (s.feederRec g) s.groups[g.val].vstate m).1 := by
    rw [moveVoltage_some hm, raiseAll_groups, State.updGroup_same]
  obtain ⟨hshed, hinput⟩ := evaluateVoltage_vstate (s := s) (g := g)
  have hstays : s.shedStays g ↔ ((s.groups[g]).vstate = .shed ↔ ((evaluateVoltage g s).groups[g]).vstate = .shed) := by
    rw [State.shedStays, ← hshed, Bool.eq_iff_iff, beq_iff_eq, beq_iff_eq]
    exact Iff.comm
  refine ⟨m, ⟨p, hp, (sample_of_quiet hquiet p).trans hsample⟩,
    fun q v hq hv => hleast q v hq ((sample_of_quiet hquiet q).symm.trans hv), hshed.trans hvstate, ?_, fun hsame => ?_,
    fun hmoved => ?_, fun k hk => evaluateVoltage_raised ?_⟩
  · rw [Fin.getElem_fin, Group.shedActive, Bool.or_eq_true, beq_iff_eq, hinput]
    rfl
  · exact evaluateVoltage_capacity_same (hstays.mpr hsame)
  · exact evaluateVoltage_capacity_moved (mt hstays.mp hmoved)
  · rw [moveVoltage_some hm]
    exact raiseAll_joins hk _

/-- The evaluation seen from a state with the same groups and tables, and to one with the groups and samples that it
leaves. -/
theorem GroupEvaluated.of_eq {s s' t t' : State} {g : GroupId} (h : GroupEvaluated s t g) (hgroups : s.groups = s'.groups)
    (htables : s.tables = s'.tables) (hafter : t'.groups = t.groups)
    (hsample : ∀ q : PadId, (t'.pads[q]).sample = (t.pads[q]).sample)
    (hnoticed : ∀ k : Notice, noticeIn k t.notices.pendingSet = true → noticeIn k t'.notices.pendingSet = true) :
    GroupEvaluated s' t' g := by
  have hin (q : PadId) : s.inGroup g q = s'.inGroup g q := by rw [State.inGroup, State.padRec, htables]; rfl
  have hrec : s.feederRec g = s'.feederRec g := by rw [State.feederRec, htables]; rfl
  obtain ⟨m, ⟨p, hp, hm⟩, hleast, hvstate, hshed, hsame, hmoved, hraised⟩ := h
  rw [hrec, hgroups] at hvstate hraised
  rw [hgroups] at hshed hsame hmoved
  rw [hrec] at hmoved
  rw [← hafter] at hvstate hshed hsame hmoved
  exact ⟨m, ⟨p, hin p ▸ hp, (hsample p).trans hm⟩,
    fun q v hq hv => hleast q v ((hin q).trans hq) ((hsample q).symm.trans hv), hvstate, hshed, hsame, hmoved,
    fun k hk => hnoticed k (hraised k hk)⟩

end

/-! ## Entry to SILENT (R48, R80, R99) -/

section
variable {p : PadId} {s : State}

/-- The state in which the group of a pad that falls silent is evaluated. -/
def silenced (p : PadId) (s : State) : State :=
  raise .padSilent (increaseRelease (s.updPad p (Pad.enterSilent s.site.holdRounds)))

theorem enterSilent_eq : enterSilent p s = fastShedCheck
    (if s.pads[p].sample.isSome then evaluateVoltage (s.padRec p).group (silenced p s) else silenced p s) := rfl

theorem silenced_pad : (silenced p s).pads[p.val] = (s.pads[p.val]).enterSilent s.site.holdRounds := by
  rw [silenced, raise_pads, increaseRelease_get, State.updPad_same]
  exact if_neg fun h => absurd h.2.2 (Nat.lt_irrefl 0)

/-- An evaluation spares a pad without a grant. -/
theorem evaluateVoltage_spares {g : GroupId} (h : (s.pads[p.val]).grant = 0) :
    (evaluateVoltage g s).pads[p.val] = s.pads[p.val] := by
  have hpads : (moveVoltage g s).pads = s.pads := by rw [moveVoltage_eq]
  have hmoved : (storeCapacity g (moveVoltage g s)).pads[p.val] = s.pads[p.val] := congrArg (fun v => v[p.val]) hpads
  by_cases hstays : s.shedStays g
  · rw [evaluateVoltage_same hstays]
    exact congrArg (fun v => v[p.val]) hpads
  · rw [evaluateVoltage_moved hstays]
    unfold recompute
    split
    · rw [fastShedCheck_spares p (by rw [hmoved, h]), hmoved]
    · exact hmoved

theorem enterSilent_pad : (enterSilent p s).pads[p.val] = (s.pads[p.val]).enterSilent s.site.holdRounds := by
  have hgrant : ((silenced p s).pads[p.val]).grant = 0 := congrArg Pad.grant silenced_pad
  have heval : (if s.pads[p].sample.isSome then evaluateVoltage (s.padRec p).group (silenced p s)
      else silenced p s).pads[p.val] = (silenced p s).pads[p.val] := by
    split
    · exact evaluateVoltage_spares hgrant
    · rfl
  rw [enterSilent_eq, fastShedCheck_spares p (by rw [heval, hgrant]), heval, silenced_pad]

theorem silenced_sample (q : PadId) : ((silenced p s).pads[q.val]).sample =
    if p = q then none else (s.pads[q.val]).sample := by
  by_cases hq : p = q
  · rw [if_pos hq, ← hq, silenced_pad]
    rfl
  · have hpad : ((silenced p s).pads[q.val]).sample =
        ((s.updPad p (Pad.enterSilent s.site.holdRounds)).pads[q.val]).sample := by
      rw [silenced, raise_pads]
      exact sample_of_quiet (quiet_increaseRelease _) q
    rw [hpad, if_neg hq, State.updPad_other _ _ _ _ hq]

theorem silenced_inGroup (g : GroupId) (q : PadId) : (silenced p s).inGroup g q = s.inGroup g q := by
  simp [silenced, State.inGroup, State.padRec]

@[simp] theorem silenced_groups : (silenced p s).groups = s.groups := by simp [silenced]

@[simp] theorem silenced_tables : (silenced p s).tables = s.tables := by simp [silenced]

/-- With no sample left in its group, or none of its own to lose, no group is evaluated. -/
theorem enterSilent_groups (h : (s.pads[p]).sample = none
    ∨ ∀ q : PadId, q ≠ p → s.inGroup (s.padRec p).group q = true → (s.pads[q]).sample = none) :
    (enterSilent p s).groups = s.groups := by
  rw [enterSilent_eq, fastShedCheck_groups]
  rcases h with h | h
  · rw [h]
    exact silenced_groups
  · have hnone : (silenced p s).minVoltage (s.padRec p).group = none := by
      rw [minVoltage_eq_none]
      intro q hq
      rw [Fin.getElem_fin, silenced_sample]
      split
      · rfl
      next hne => exact h q (Ne.symm hne) (silenced_inGroup _ q ▸ hq)
    rw [evaluateVoltage_none hnone, ite_self]
    exact silenced_groups

theorem enterSilent_evaluated (hown : (s.pads[p]).sample.isSome = true)
    (hother : ∃ q : PadId, q ≠ p ∧ s.inGroup (s.padRec p).group q = true ∧ (s.pads[q]).sample.isSome = true) :
    GroupEvaluated s (enterSilent p s) (s.padRec p).group := by
  have hsome : ∃ m, (silenced p s).minVoltage (s.padRec p).group = some m := by
    obtain ⟨q, hne, hq, hv⟩ := hother
    refine Option.ne_none_iff_exists'.mp fun hnone => ?_
    have hnil := minVoltage_eq_none.mp hnone q (by rwa [silenced_inGroup])
    rw [Fin.getElem_fin, silenced_sample, if_neg (Ne.symm hne)] at hnil
    rw [Fin.getElem_fin, hnil] at hv
    exact nomatch hv
  have hcheck := quiet_fastShedCheck (evaluateVoltage (s.padRec p).group (silenced p s))
  rw [enterSilent_eq, if_pos hown]
  exact (groupEvaluated hsome).of_eq silenced_groups silenced_tables (fastShedCheck_groups _) (sample_of_quiet hcheck)
    hcheck.noticed.grows

theorem enterSilent_other {g : GroupId} (h : (s.padRec p).group ≠ g) :
    (enterSilent p s).groups[g.val] = s.groups[g.val] := by
  simp only [enterSilent_eq, fastShedCheck_groups]
  split
  · rw [evaluateVoltage_other g h]
    simp only [silenced_groups]
  · simp only [silenced_groups]

theorem enterSilent_raised : noticeIn .padSilent (enterSilent p s).notices.pendingSet = true := by
  have hraised : noticeIn .padSilent (silenced p s).notices.pendingSet = true := raise_joins _ _
  rw [enterSilent_eq]
  refine (quiet_fastShedCheck _).noticed.grows _ ?_
  split
  · exact (quiet_evaluateVoltage _ _).noticed.grows _ hraised
  · exact hraised

end

end Sys2Proof.Machine

/-! PROOFS. Failed transactions, and the line at the end of any (R37, R48, R134, R142, R143). -/

namespace Sys2Proof.Machine

/-! ## A failed transaction at its pad (R37, R48) -/

section
variable {p : PadId} {x : LineRequest} {s : State}

theorem probes_iff {y : SessionState} : (y == .probing && x == .probe) = true ↔ y = .probing ∧ x = .probe := by
  rw [Bool.and_eq_true, beq_iff_eq, beq_iff_eq]

theorem countAttempt_probe (h : s.pads[p.val].state = .probing ∧ x = .probe) :
    countAttempt p x s = s.updPad p Pad.attempted := if_pos (probes_iff.mpr h)

theorem countAttempt_spares (h : ¬ (s.pads[p.val].state = .probing ∧ x = .probe)) : countAttempt p x s = s :=
  if_neg (mt probes_iff.mp h)

/-- The pad as its failed attempt is counted. -/
def Pad.tried (x : LineRequest) (q : Pad) : Pad := if q.state = .probing ∧ x = .probe then q.attempted else q

theorem Pad.tried_eq (x : LineRequest) (q : Pad) : q.tried x = { q with attempts := (q.tried x).attempts } := by
  unfold Pad.tried
  split <;> rfl

theorem countAttempt_eq : countAttempt p x s = s.updPad p (Pad.tried x) := by
  by_cases h : s.pads[p.val].state = .probing ∧ x = .probe
  · rw [countAttempt_probe h]
    exact State.updPad_congr (if_pos h).symm
  · have hsame : s.updPad p (Pad.tried x) = s.updPad p id := State.updPad_congr (if_neg h)
    rw [countAttempt_spares h, hsame]
    simp [State.updPad, State.withPads]

theorem handleFailed_silent (h : s.pads[p.val].state.maySilence = true) (hmiss : s.site.missLimit ≤ s.pads[p.val].failures) :
    handleFailed p x s = enterSilent p (s.updPad p (Pad.tried x)) := by
  rw [handleFailed_eq, countAttempt_eq]
  refine if_pos ?_
  rw [Fin.getElem_fin, State.updPad_same, Pad.tried_eq]
  exact ⟨h, hmiss⟩

theorem handleFailed_quiet (h : s.pads[p.val].state.maySilence = true → s.pads[p.val].failures < s.site.missLimit) :
    handleFailed p x s =
      if (s.pads[p.val].state = .probing ∧ x = .probe) ∧ s.site.probeAttempts ≤ s.pads[p.val].attempts + 1 then
        endProbing p (s.updPad p Pad.attempted)
      else s.updPad p (Pad.tried x) := by
  have hloud : ¬ ((countAttempt p x s).pads[p].state.maySilence = true
      ∧ s.site.missLimit ≤ (countAttempt p x s).pads[p].failures) := by
    rw [countAttempt_eq, Fin.getElem_fin, State.updPad_same, Pad.tried_eq]
    exact fun hmiss => absurd (h hmiss.1) (not_lt.mpr hmiss.2)
  have hlast : ((s.pads[p].state == .probing && x == .probe) = true
      ∧ s.site.probeAttempts ≤ (countAttempt p x s).pads[p].attempts) ↔
      (s.pads[p.val].state = .probing ∧ x = .probe) ∧ s.site.probeAttempts ≤ s.pads[p.val].attempts + 1 := by
    rw [probes_iff]
    refine and_congr_right fun hprobe => ?_
    rw [countAttempt_probe hprobe, Fin.getElem_fin, State.updPad_same]
    rfl
  rw [handleFailed_eq, if_neg hloud]
  by_cases h : (s.pads[p.val].state = .probing ∧ x = .probe) ∧ s.site.probeAttempts ≤ s.pads[p.val].attempts + 1
  · rw [if_pos h, if_pos (hlast.mpr h), countAttempt_probe h.1]
  · rw [if_neg h, if_neg (mt hlast.mp h), countAttempt_eq]

end

/-- A pad whose transaction has failed (R134). -/
def Pad.unheard (q : Pad) : Pad := { q with failures := min 255 (q.failures + 1) }

theorem Pad.countFailure_failed {o : LineOutcome} (h : o.isGood = false) (q : Pad) : q.countFailure o = q.unheard := by
  rw [Pad.countFailure, h, Pad.unheard, ← satInc_eq_min]
  rfl

/-! ## The end of any transaction -/

section
variable {s : State} {l : LineId} {tx : Transaction} (o : LineOutcome) (rx : List RxChar)

theorem onLine_iff {p : PadId} : s.onLine l p = true ↔ (s.padRec p).enabled = true ∧ (s.padRec p).line = l := by
  rw [State.onLine, Bool.and_eq_true, beq_iff_eq]

/-- A result that reaches no pad is counted at its line at most (R134, R141, R143). -/
theorem handedUp_discards (h : s.discards l tx) : handedUp l tx o rx s = s.updLine l (LineCtl.closing o (endsLong rx)) := by
  have hclosing : s.updLine l (LineCtl.closing o (endsLong rx)) =
      s.updLine l fun c => { (if s.lines[l].abandon then c else c.count o) with
        inFlight := none, abandon := false, busy := endsLong rx } := rfl
  unfold handedUp
  rw [hclosing]
  dsimp only
  cases habandon : s.lines[l].abandon with
  | true => rfl
  | false =>
    have hreach : reaches (s.updLine l fun c => { c with inFlight := none, abandon := false, busy := endsLong rx }) l tx
        = none := by
      refine Option.eq_none_iff_forall_ne_some.mpr fun p hp => ?_
      obtain ⟨hpad, hline, hdrop, hstate⟩ := reaches_eq_some.mp hp
      obtain ⟨hon, hnamed⟩ := onLine_iff.mp hline
      rcases h with h | h | ⟨q, hq, h⟩
      · exact nomatch h.symm.trans habandon
      · exact nomatch h.symm.trans hpad
      · obtain rfl := Option.some.inj (hq.symm.trans hpad)
        rcases h with h | h | h | h
        · exact nomatch h.symm.trans hon
        · exact h hnamed
        · exact h hdrop
        · exact hstate h
    simp only [deliver, hreach, State.updLine_updLine]
    cases o <;> rfl

theorem endTransaction_discards (h : s.discards l tx) (hm : s.marksRemain l tx) :
    endTransaction l tx (classify tx rx) rx s = s.withLines (s.lines.set l (s.ended l tx rx)) := by
  have hremaining := endTransaction_remaining (classify tx rx) rx hm
  have hended := endTransaction_ended l tx rx s
  have hurgent := endTransaction_urgent l tx (classify tx rx) rx s
  have hother := endTransaction_other l tx (classify tx rx) rx s
  rw [handedUp_discards _ _ h] at hremaining hurgent
  have hclosed (k : LineId) : (endTransaction l tx (classify tx rx) rx s).lines[k.val].urgent = s.lines[k.val].urgent := by
    obtain ⟨hkeeps, -, -⟩ := LineCtl.closing_keeps (classify tx rx) (endsLong rx) s.lines[k.val]
    rw [hurgent, State.updLine_get]
    split
    · exact hkeeps
    · rfl
  have hlines : (endTransaction l tx (classify tx rx) rx s).lines = s.lines.set l (s.ended l tx rx) := by
    refine Vector.ext fun k hk => ?_
    by_cases heq : l.val = k
    · subst heq
      rw [hended, hclosed, Vector.getElem_set_self]
      rfl
    · rw [hother ⟨k, hk⟩ fun e => heq (congrArg Fin.val e), hclosed ⟨k, hk⟩, Vector.getElem_set_ne _ _ heq]
  rw [hremaining, hlines]
  rfl

end

/-! ## The obligation -/

theorem classify_of_long {tx : Transaction} {rx : List RxChar} (h : 300 ≤ (replyChars rx).length) :
    classify tx rx = .corrupt := by
  refine classify_corrupt (fun hnil => ?_) ?_
  · rw [hnil] at h
    exact absurd h (by decide)
  · simp [replyCorrupt, Config.replyLimit, h]

/-- A failed transaction of `tx`: the command ends it with an outcome that is not good. -/
theorem exec_fails {c : Instr} {l : LineId} {tx : Transaction} {rx : List RxChar} {o : LineOutcome} {s : State}
    (hflight : s.lines[l].inFlight = some tx)
    (h : (c = .replyTimeout l ∧ o = .noReply)
      ∨ (c = .replyFailed l rx ∧ o = classify tx rx ∧ (o = .corrupt ∨ o = .wrongReply))) :
    o.isGood = false ∧ ∃ rx', exec c s = .next (driveOutputs (endTransaction l tx o rx' s)) := by
  rcases h with ⟨rfl, rfl⟩ | ⟨rfl, rfl, hbad⟩
  · refine ⟨rfl, [], ?_⟩
    rw [← replyTimeout_ends hflight]
    rfl
  · have hrx : replyChars rx ≠ [] := by
      intro hnil
      rw [classify_of_none hnil] at hbad
      exact absurd hbad (by decide)
    refine ⟨?_, rx, exec_endsTransaction hflight (.inr ⟨hrx, .inr (.inr (.inr rfl))⟩)⟩
    rcases hbad with hbad | hbad <;> rw [hbad] <;> rfl

theorem endReply_of_none {l : LineId} {rx : List RxChar} (h : replyChars rx = []) (s : State) : endReply l rx s = s := by
  unfold endReply
  split
  · rfl
  · exact if_pos h

/-- Settles O47. -/
theorem failedTransactionsAreCounted : Obligations.FailedTransactionsAreCounted := by
  refine ⟨fun tx rx => classify_of_long, SessionState.maySilence_iff, fun l tx rx s c hflight hends => ⟨⟨_,
    exec_endsTransaction hflight hends, lineEnded l tx rx s⟩, fun hdiscards hmarks => ?_⟩, fun l rx s c hc hnil => ?_,
    fun l tx rx s c o hflight hfails p hawaits => ?_⟩
  · rw [exec_endsTransaction hflight hends, endTransaction_discards rx hdiscards hmarks]
  · have hnothing := congrArg (fun t => (.next (driveOutputs t) : Host.Outcome State Fault Refusal))
      (endReply_of_none (l := l) hnil s)
    rcases hc with rfl | rfl | rfl | rfl <;> exact hnothing
  · obtain ⟨hbad, rx', hexec⟩ := exec_fails hflight hfails
    have hhandled := endTransaction_handled o rx' hawaits
    have hup : handUp p tx.request o rx' (s.arrived l p o rx') = handleFailed p tx.request (s.arrived l p o rx') := by
      unfold handUp
      rw [hbad]
      rfl
    have hpad := arrived_pad s l p o rx'
    have hother (q : PadId) (hq : p ≠ q) := arrived_other s l p o rx' hq
    have hgroups := arrived_groups s l p o rx'
    have htables := arrived_tables s l p o rx'
    rw [Pad.countFailure_failed hbad] at hpad
    rw [hup] at hhandled
    generalize s.arrived l p o rx' = a at hhandled hpad hother hgroups htables
    have hsite : a.site = s.site := by rw [State.site, htables]; rfl
    have hrec : a.padRec p = s.padRec p := by rw [State.padRec, htables]; rfl
    have hstate : a.pads[p.val].state = s.pads[p.val].state := (congrArg Pad.state hpad).trans rfl
    have hfailures : a.pads[p.val].failures = min 255 (s.pads[p.val].failures + 1) :=
      (congrArg Pad.failures hpad).trans rfl
    have hself := congrArg (fun v => v[p.val]) hhandled.pads
    refine ⟨_, hexec, hhandled.elsewhere, ?_⟩
    generalize driveOutputs (endTransaction l tx o rx' s) = t at hhandled hself
    by_cases hmiss : s.pads[p].state.maySilence = true ∧ s.site.missLimit ≤ min 255 (s.pads[p].failures + 1)
    · have hloud := handleFailed_silent (p := p) (x := tx.request) (s := a) (hstate ▸ hmiss.1)
        (by rw [hsite, hfailures]; exact hmiss.2)
      have hbpad : (a.updPad p (Pad.tried tx.request)).pads[p.val] = (s.pads[p.val]).unheard.tried tx.request := by
        rw [State.updPad_same, hpad]
      have hbother (q : PadId) (hq : q ≠ p) : (a.updPad p (Pad.tried tx.request)).pads[q] = s.pads[q] :=
        (State.updPad_other _ _ _ _ (Ne.symm hq)).trans (hother q (Ne.symm hq))
      have hbgroups : (a.updPad p (Pad.tried tx.request)).groups = s.groups := hgroups
      have hbtables : (a.updPad p (Pad.tried tx.request)).tables = s.tables := htables
      rw [hloud] at hhandled hself
      generalize a.updPad p (Pad.tried tx.request) = b at *
      have hbrec : b.padRec p = s.padRec p := by rw [State.padRec, hbtables]; rfl
      have hbsite : b.site = s.site := by rw [State.site, hbtables]; rfl
      have hbin (g : GroupId) (q : PadId) : b.inGroup g q = s.inGroup g q := by rw [State.inGroup, State.padRec, hbtables]; rfl
      have hsample : (b.pads[p]).sample = (s.pads[p]).sample := by
        rw [Fin.getElem_fin, hbpad, Pad.tried_eq]
        rfl
      rw [enterSilent_pad, hbpad, hbsite, Pad.tried_eq] at hself
      have hfail : (t.pads[p]).failures = min 255 (s.pads[p].failures + 1) := (congrArg Pad.failures hself).trans rfl
      rw [hfail]
      refine ⟨rfl, fun hlow => absurd (hlow hmiss.1) (not_lt.mpr hmiss.2), fun hprobing _ hlow => ?_, fun g hg => ?_,
        fun _ _ => ⟨fun hnone => ?_, fun hown hothers => ?_⟩, fun _ _ => ?_⟩
      · exact absurd hlow (not_lt.mpr hmiss.2)
      · simp only [Fin.getElem_fin, hhandled.groups, enterSilent_other (hbrec ▸ Ne.symm hg), hbgroups]
      · rw [hhandled.groups, enterSilent_groups, hbgroups]
        rw [hsample, hbrec]
        exact hnone.imp id fun h q hq hin => by rw [hbother q hq]; exact h q hq (hbin _ q ▸ hin)
      · have heval := enterSilent_evaluated (p := p) (s := b) (by rwa [hsample]) (by
          obtain ⟨q, hq, hin, hv⟩ := hothers
          exact ⟨q, hq, by rwa [hbrec, hbin], by rwa [hbother q hq]⟩)
        rw [hbrec] at heval
        exact heval.of_eq hbgroups hbtables hhandled.groups (fun q => by rw [hhandled.pads])
          fun k hk => by rwa [hhandled.notices]
      · exact ⟨congrArg Pad.state hself, (congrArg Pad.reservation hself).trans rfl, congrArg Pad.roundsLeft hself,
          congrArg Pad.grant hself, congrArg Pad.sent hself, congrArg Pad.prior hself, congrArg Pad.decPending hself,
          congrArg Pad.overdraw hself, congrArg Pad.sample hself, (congrArg Pad.dispatch hself).trans rfl,
          (congrArg Pad.caps hself).trans rfl, by rw [hhandled.notices]; exact enterSilent_raised⟩
    · have hlow : a.pads[p.val].state.maySilence = true → a.pads[p.val].failures < a.site.missLimit := by
        rw [hstate, hfailures, hsite]
        exact fun hmay => not_le.mp fun hle => hmiss ⟨hmay, hle⟩
      have hquiet := handleFailed_quiet (x := tx.request) hlow
      have hattempts : a.pads[p.val].attempts = s.pads[p.val].attempts := (congrArg Pad.attempts hpad).trans rfl
      rw [hstate, hattempts, hsite] at hquiet
      have hstays : t.groups = s.groups := by
        rw [hhandled.groups, hquiet, ← hgroups]
        split
        · rw [endProbing_groups]
          rfl
        · rfl
      have hgroup (g : GroupId) : t.groups[g] = s.groups[g] := by rw [hstays]
      have hloud {P : Prop} (hfail : (t.pads[p]).failures = min 255 (s.pads[p].failures + 1))
          (hmay : s.pads[p].state.maySilence = true) (hmissed : s.site.missLimit ≤ (t.pads[p]).failures) : P :=
        absurd ⟨hmay, hfail ▸ hmissed⟩ hmiss
      by_cases hlast : (s.pads[p.val].state = .probing ∧ tx.request = .probe)
          ∧ s.site.probeAttempts ≤ s.pads[p.val].attempts + 1
      · rw [if_pos hlast] at hquiet
        have hfaulted := endProbing_faulted p (a.updPad p Pad.attempted)
        rw [← hquiet, ← hhandled.notices] at hfaulted
        rw [hquiet, endProbing_pad, State.updPad_same, hpad] at hself
        replace hself : t.pads[p.val] = ((s.pads[p.val]).unheard.attempted).probed s.site (s.padRec p).assumeDefault := by
          rw [← hsite, ← hrec]
          exact hself
        have hfail : (t.pads[p]).failures = min 255 (s.pads[p].failures + 1) := by
          rw [Fin.getElem_fin, hself, Pad.probed_failures]
          rfl
        refine ⟨hfail, fun _ h => ?_, fun _ _ _ => ⟨hstays, fun h => absurd hlast.2 (not_le.mpr h), fun _ =>
          ⟨fun hassume => ?_, fun hassume => ?_⟩⟩, fun g _ => hgroup g, hloud hfail, hloud hfail⟩
        · rcases h with h | h
          · exact absurd hlast.1.1 h
          · exact nomatch h.symm.trans hlast.1.2
        · obtain ⟨hcaps, hwaiting⟩ := Pad.probed_default s.site ((s.pads[p.val]).unheard.attempted)
          rw [hassume] at hself
          exact ⟨(congrArg Pad.caps hself).trans hcaps, (congrArg Pad.state hself).trans hwaiting⟩
        · rw [hassume] at hself
          exact ⟨congrArg Pad.state hself, congrArg Pad.fault hself, hfaulted (by rw [← hassume, ← hrec]; rfl)⟩
      · rw [if_neg hlast] at hquiet
        rw [hquiet, State.updPad_same, hpad] at hself
        have hfail : (t.pads[p]).failures = min 255 (s.pads[p].failures + 1) := by
          rw [Fin.getElem_fin, hself, Pad.tried_eq]
          rfl
        refine ⟨hfail, fun _ h => ⟨?_, hstays⟩, fun hprobing hprobe _ => ⟨hstays, fun _ => ?_, fun h => ?_⟩,
          fun g _ => hgroup g, hloud hfail, hloud hfail⟩
        · have hsame : (s.pads[p.val]).unheard.tried tx.request = (s.pads[p.val]).unheard := by
            refine if_neg fun hboth => ?_
            rcases h with h | h
            · exact h hboth.1
            · exact nomatch h.symm.trans hboth.2
          rw [hfail]
          exact hself.trans hsame
        · have htried : (s.pads[p.val]).unheard.tried tx.request = (s.pads[p.val]).unheard.attempted :=
            if_pos ⟨hprobing, hprobe⟩
          rw [hfail]
          exact hself.trans htried
        · exact absurd ⟨⟨hprobing, hprobe⟩, h⟩ hlast

end Sys2Proof.Machine

/-! PROOFS. What a good REPORT does to its own pad, step by step (R26, R34, R38, R44 to R46, R50, R78, R98, R114,
R117, R118). -/

namespace Sys2Proof.Machine

/-! ## The transition (R26) -/

/-- A SILENT pad whose silence a report ends (R50). -/
def Pad.wakes (r : Report) (q : Pad) : Pad :=
  if r.present = false then q.clearReservation.enterEmpty
  else if r.docking = q.docking ∧ q.caps.isSome = true then (q.clearReservation.setState .waiting).checked
  else { q.clearReservation.dropDispatch.enterProbing with docking := r.docking }

/-- A pad whose vehicle has been swapped (R46). -/
def Pad.swapped (docking : Byte) (q : Pad) : Pad :=
  { q.dropDispatch.clearFigures.enterProbing with docking := docking, overdraw := 0 }

/-- A pad whose probe attempt has failed otherwise than by a failed transaction (R37). -/
def Pad.probeFailed (site : SiteRec) (assume : Bool) (q : Pad) : Pad :=
  if site.probeAttempts ≤ q.attempts + 1 then q.attempted.probed site assume else q.attempted

/-- A PROBING pad that reports (R34, R37, R38, R46). -/
def Pad.probeReports (site : SiteRec) (assume : Bool) (x : LineRequest) (r : Report) (q : Pad) : Pad :=
  if r.present = false then q.enterEmpty
  else if r.docking ≠ q.docking then { q.dropDispatch with docking := r.docking, attempts := 0 }
  else if x = .probe then q.probeFailed site assume
  else q

section
variable {p : PadId} {x : LineRequest} {r : Report} {s : State}

theorem depart_pad : (depart p s).pads[p.val] = (s.pads[p.val]).clearFigures.enterEmpty := by
  rw [depart, increaseRelease_get, State.updPad_same]
  exact if_neg fun h => absurd h.2.2 (Nat.lt_irrefl 0)

theorem swap_pad (b : Byte) : (swap p b s).pads[p.val] = (s.pads[p.val]).swapped b := by
  rw [swap, increaseRelease_get, State.updPad_same]
  exact if_neg fun h => absurd h.2.2 (Nat.lt_irrefl 0)

theorem probeFailed_pad : (probeFailed p s).pads[p.val] =
    (s.pads[p.val]).probeFailed s.site (s.padRec p).assumeDefault := by
  unfold Pad.probeFailed
  split
  next h =>
    rw [probeFailed_last p s h, endProbing_pad, State.updPad_same]
    rfl
  next h => rw [probeFailed_again p s (not_le.mp h), State.updPad_same]

theorem endSilence_pad : (endSilence p r s).pads[p.val] = (s.pads[p.val]).wakes r := by
  unfold endSilence Pad.wakes
  dsimp only [Fin.getElem_fin]
  split
  · rw [State.updPad_same, State.updPad_same]
  · split
    · rw [completionCheck_pad, State.updPad_same, State.updPad_same]
    · rw [State.updPad_same, State.updPad_same]

theorem reportTransition_faulted (h : s.pads[p.val].state = .faulted) : reportTransition p x r s = s := by
  rw [reportTransition, Fin.getElem_fin, h]

theorem reportTransition_empty (h : s.pads[p.val].state = .empty) : (reportTransition p x r s).pads[p.val] =
    if r.present then { (s.pads[p.val]).enterProbing with docking := r.docking } else s.pads[p.val] := by
  rw [reportTransition, Fin.getElem_fin, h]
  dsimp only
  split
  · rw [State.updPad_same]
  · rfl

theorem reportTransition_probing (h : s.pads[p.val].state = .probing) : (reportTransition p x r s).pads[p.val] =
    (s.pads[p.val]).probeReports s.site (s.padRec p).assumeDefault x r := by
  rw [reportTransition, Fin.getElem_fin, h]
  unfold Pad.probeReports
  dsimp only
  split
  · rw [State.updPad_same]
  · split
    · rw [State.updPad_same]
    · split
      · exact probeFailed_pad
      · rfl

theorem reportTransition_stands (h : s.pads[p.val].state = .waiting ∨ s.pads[p.val].state = .charging
      ∨ s.pads[p.val].state = .complete) : (reportTransition p x r s).pads[p.val] =
    if r.present = false then (s.pads[p.val]).clearFigures.enterEmpty
    else if r.docking ≠ (s.pads[p.val]).docking then (s.pads[p.val]).swapped r.docking else s.pads[p.val] := by
  have hstands : reportTransition p x r s = if r.present = false then depart p s
      else if r.docking ≠ (s.pads[p.val]).docking then swap p r.docking s else s := by
    rcases h with h | h | h <;> rw [reportTransition, Fin.getElem_fin, h]
  rw [hstands]
  split
  · exact depart_pad
  · split
    · exact swap_pad _
    · rfl

theorem reportTransition_releasing (h : s.pads[p.val].state = .releasing) : (reportTransition p x r s).pads[p.val] =
    if r.present = false then (s.pads[p.val]).enterEmpty
    else if r.docking ≠ (s.pads[p.val]).docking then (s.pads[p.val]).swapped r.docking else s.pads[p.val] := by
  rw [reportTransition, Fin.getElem_fin, h]
  dsimp only
  split
  · rw [State.updPad_same]
  · split
    · exact swap_pad _
    · rfl

theorem reportTransition_silent (h : s.pads[p.val].state = .silent) : (reportTransition p x r s).pads[p.val] =
    (s.pads[p.val]).wakes r := by
  rw [reportTransition, Fin.getElem_fin, h]
  exact endSilence_pad

/-! ## The overdraw check (R117, R118) -/

/-- A pad after the overdraw check. -/
def Pad.overdrawn (f : FeederRec) (r : Report) (q : Pad) : Pad :=
  if q.state.overdrawChecked = false then q
  else if q.reference + f.tolerance < r.metered then
    if f.overdrawLimit ≤ q.overdraw + 1 then ({ q with overdraw := q.overdraw + 1 } : Pad).faulted codeOverdraw
    else { q with overdraw := q.overdraw + 1 }
  else { q with overdraw := 0 }

theorem overdrawCheck_pad : (overdrawCheck p r s).pads[p.val] =
    (s.pads[p.val]).overdrawn (s.feederRec (s.padRec p).group) r := by
  unfold overdrawCheck Pad.overdrawn
  dsimp only [Fin.getElem_fin]
  split
  · rfl
  · split
    · split
      · rw [enterFaulted_pad, State.updPad_same]
      · rw [State.updPad_same]
    · rw [State.updPad_same]

end

/-! ## The confirmation, the completion check and the voltage (R41, R78, R98) -/

/-- A report confirms the decrease of a pad (R78). -/
def Pad.confirms (r : Report) (q : Pad) : Prop := q.decPending = true ∧ r.applied ≤ q.sent

/-- The completion check finds nothing left to deliver (R41). -/
def Pad.isMet (q : Pad) : Prop := q.state.served = true ∧ q.dispatch.isSome = true ∧ q.remaining = 0

/-- From `q`, its pad after the overdraw check, the last steps of a report have led to `t`; `still` says that the
fast-shed state has stood. -/
structure Pad.Concludes (r : Report) (still : Prop) (q t : Pad) : Prop where
  rest : t = { q with
    state := t.state, grant := t.grant, sent := t.sent, prior := t.prior, decPending := t.decPending
    sample := t.sample, stayed := t.stayed }
  sample : t.sample = some r.voltage
  unserved : q.state.served = false → t.state = q.state
  met : q.isMet → t.state = .complete ∧ t.grant = 0 ∧ t.sent = 0
  unmet : ¬ q.isMet → t.state = q.state ∨ (q.state.served = true ∧ t.state = .waiting)
  off : q.grant = 0 → q.sent = 0 → q.prior = 0 → q.decPending = false →
    t.grant = 0 ∧ t.sent = 0 ∧ t.prior = 0 ∧ t.decPending = false
  calm : ¬ q.isMet → still ∨ q.grant = 0 → t.state = q.state ∧ t.grant = q.grant
    ∧ (q.confirms r → t.decPending = false ∧ t.prior = 0)
    ∧ (¬ q.confirms r → t.decPending = q.decPending ∧ t.sent = q.sent ∧ t.prior = q.prior)

section
variable {r : Report} {still : Prop} {q q' t : Pad}

theorem Pad.checked_of_unmet (h : ¬ q.isMet) : q.checked = q := if_neg h

theorem Pad.checked_of_met (h : q.isMet) : q.checked = (q.lower 0).setState .complete := if_pos h

/-- With `q'` the pad after the confirmation, and `t` after the evaluation of its group. -/
theorem Pad.concludes (hrest : q' = { q with decPending := q'.decPending, prior := q'.prior, sent := q'.sent })
    (hconfirms : q.confirms r → q'.decPending = false ∧ q'.prior = 0) (hstands : ¬ q.confirms r → q' = q)
    (hfall : ({ q'.checked with sample := some r.voltage } : Pad).Fall t)
    (hstill : still ∨ q'.checked.grant = 0 → t = { q'.checked with sample := some r.voltage }) :
    Pad.Concludes r still q t := by
  have hmet : q'.isMet ↔ q.isMet := by
    unfold Pad.isMet
    rw [hrest]
  have hstate : q'.state = q.state := by rw [hrest]
  have hgrant : q'.grant = q.grant := by rw [hrest]
  refine ⟨?_, (congrArg Pad.sample hfall.rest).trans rfl, fun h => ?_, fun h => ?_, fun h => ?_,
    fun hg hs hp hd => ?_, fun h hcalm => ?_⟩
  · rw [hfall.rest]
    dsimp only
    simp only [Pad.checked_inScope, Pad.checked_docking, Pad.checked_inDocking, Pad.checked_report, Pad.checked_caps,
      Pad.checked_attempts, Pad.checked_dispatch, Pad.checked_limit, Pad.checked_fault, Pad.checked_need,
      Pad.checked_urgency, Pad.checked_reservation, Pad.checked_roundsLeft, Pad.checked_delivered,
      Pad.checked_remaining, Pad.checked_overdraw, Pad.checked_failures]
    rw [hrest]
  · have hchecked := Pad.checked_of_unmet (mt hmet.mp fun hm => absurd (h.symm.trans hm.1) nofun)
    rw [hchecked] at hfall
    rcases hfall.state with hs | ⟨hserved, -⟩
    · exact hs.trans hstate
    · exact absurd ((hstate ▸ h).symm.trans hserved) nofun
  · have hchecked := Pad.checked_of_met (hmet.mpr h)
    have hpower : q'.checked.grant = 0 := by rw [hchecked, Pad.setState, Pad.lower_grant]
    rw [hstill (.inr hpower), hchecked]
    exact ⟨rfl, Pad.lower_grant _ _, (Pad.lower_sent _ _).trans (Nat.zero_min _)⟩
  · rw [Pad.checked_of_unmet (mt hmet.mp h)] at hfall
    rcases hfall.state with hs | ⟨hserved, hwaiting, -⟩
    · exact .inl (hs.trans hstate)
    · exact .inr ⟨hstate ▸ hserved, hwaiting⟩
  · have hsame : q' = q := hstands fun hc => absurd (hd.symm.trans hc.1) nofun
    have hoff : q.checked.grant = 0 ∧ q.checked.sent = 0 ∧ q.checked.prior = 0 ∧ q.checked.decPending = false := by
      by_cases h : q.isMet
      · rw [Pad.checked_of_met h, Pad.lower_eq]
        simp [Pad.setState, hs, hp, hd]
      · rw [Pad.checked_of_unmet h]
        exact ⟨hg, hs, hp, hd⟩
    rw [hsame] at hstill
    rw [hstill (.inr hoff.1)]
    exact hoff
  · rw [Pad.checked_of_unmet (mt hmet.mp h)] at hstill
    rw [hstill (hcalm.imp_right hgrant.trans)]
    refine ⟨hstate, hgrant, hconfirms, fun hc => ?_⟩
    rw [hstands hc]
    exact ⟨rfl, rfl, rfl⟩

end

section
variable {p : PadId} {r : Report} {s : State}

theorem confirmDecrease_stands (h : ¬ (s.pads[p.val]).confirms r) : confirmDecrease p r s = s := if_neg h

theorem confirmDecrease_pad (h : (s.pads[p.val]).confirms r) : (confirmDecrease p r s).pads[p.val] =
    { s.pads[p.val] with
      decPending := false, prior := 0, sent := ((confirmDecrease p r s).pads[p.val]).sent } := by
  have hconfirms : confirmDecrease p r s =
      increaseRelease (s.updPad p fun q => { q with decPending := false, prior := 0 }) := if_pos h
  rw [hconfirms, increaseRelease_get, State.updPad_same]
  split <;> rfl

/-- The check of a pass that leaves the fast-shed state as it was has left the pads. -/
theorem fastShedCheck_still (h : (fastShedCheck s).alloc.fastShed = s.alloc.fastShed) :
    (fastShedCheck s).pads = s.pads := by
  by_cases hr : s.alloc.fastShed = .running
  · rw [fastShedCheck_running s hr]
  · cases hn : s.needsShed with
    | true =>
      cases hs : s.alloc.sweep.isSome with
      | true => rw [fastShedCheck_sweeping s hn hr hs, State.setFastShed, State.withAlloc_pads]
      | false =>
        rw [fastShedCheck_starts s hn hr hs, startPass_running] at h
        exact absurd h.symm hr
    | false =>
      by_cases hp : s.alloc.fastShed = .pending
      · rw [fastShedCheck_clear s hn hr, hp] at h
        exact nomatch h
      · rw [fastShedCheck_none hr hn, if_neg hp]

theorem evaluateVoltage_still {g : GroupId} (h : (evaluateVoltage g s).alloc.fastShed = s.alloc.fastShed) :
    (evaluateVoltage g s).pads = s.pads := by
  have hmoved := moveVoltage_eq g s
  have hpads : (moveVoltage g s).pads = s.pads := (congrArg State.pads hmoved).trans rfl
  have halloc : (moveVoltage g s).alloc = s.alloc := (congrArg State.alloc hmoved).trans rfl
  by_cases hstays : s.shedStays g
  · rw [evaluateVoltage_same hstays, hpads]
  · rw [evaluateVoltage_moved hstays] at h ⊢
    have hstored : (storeCapacity g (moveVoltage g s)).alloc = s.alloc := halloc
    unfold recompute at h ⊢
    split at h
    next hfalls =>
      rw [if_pos hfalls, fastShedCheck_still (h.trans (congrArg Alloc.fastShed hstored.symm))]
      exact hpads
    next hstands =>
      rw [if_neg hstands]
      exact hpads

/-- The steps of a report that follow the overdraw check. -/
def concluded (p : PadId) (r : Report) (s : State) : State := takeVoltage p r (completionCheck p (confirmDecrease p r s))

theorem handleReport_eq (x : LineRequest) : handleReport p x r s = concluded p r (overdrawCheck p r
    ((reportTransition p x r (s.updPad p (Pad.storeReport r))).updPad p (Pad.account r))) := rfl

theorem takeVoltage_eq (h : s.pads[p.val].state.contributes = true) : takeVoltage p r s =
    evaluateVoltage (s.padRec p).group (s.updPad p fun q => { q with sample := some r.voltage }) := if_pos h

theorem contributes_of_checked {q : Pad} (h : q.state.contributes = true) : q.checked.state.contributes = true := by
  rw [Pad.checked_state]
  split
  · rfl
  · exact h

/-- The state whose group is evaluated at the end of a report. -/
def sampled (p : PadId) (r : Report) (s : State) : State :=
  (completionCheck p (confirmDecrease p r s)).updPad p fun q => { q with sample := some r.voltage }

theorem confirmDecrease_rest : (confirmDecrease p r s).pads[p.val] =
    { s.pads[p.val] with
      decPending := ((confirmDecrease p r s).pads[p.val]).decPending
      prior := ((confirmDecrease p r s).pads[p.val]).prior, sent := ((confirmDecrease p r s).pads[p.val]).sent } := by
  by_cases h : (s.pads[p.val]).confirms r
  · have hpad := confirmDecrease_pad h
    generalize (confirmDecrease p r s).pads[p.val] = t at hpad
    rw [hpad]
  · rw [confirmDecrease_stands h]

theorem concluded_eq (h : s.pads[p.val].state.contributes = true) :
    concluded p r s = evaluateVoltage (s.padRec p).group (sampled p r s) := by
  have hstate : ((confirmDecrease p r s).pads[p.val]).state = s.pads[p.val].state :=
    (congrArg Pad.state confirmDecrease_rest).trans rfl
  have hrec : (completionCheck p (confirmDecrease p r s)).padRec p = s.padRec p := by simp [State.padRec]
  rw [concluded, takeVoltage_eq, hrec]
  · rfl
  · rw [completionCheck_pad]
    exact contributes_of_checked (hstate ▸ h)

theorem sampled_pad : (sampled p r s).pads[p.val] =
    { ((confirmDecrease p r s).pads[p.val]).checked with sample := some r.voltage } := by
  rw [sampled, State.updPad_same, completionCheck_pad]

/-- The last steps of a report, at its pad. -/
theorem concluded_pad (h : s.pads[p.val].state.contributes = true) :
    Pad.Concludes r ((concluded p r s).alloc.fastShed = s.alloc.fastShed) s.pads[p.val] (concluded p r s).pads[p.val] := by
  have halloc : (sampled p r s).alloc = s.alloc := by simp [sampled]
  have hquiet := quiet_evaluateVoltage (s.padRec p).group (sampled p r s)
  have hfall := hquiet.others p nofun
  rw [concluded_eq h]
  simp only [Fin.getElem_fin] at hfall
  rw [sampled_pad] at hfall
  refine Pad.concludes confirmDecrease_rest (fun hc => ?_) (fun hc => ?_) hfall fun hstill => ?_
  · have hpad := confirmDecrease_pad hc
    exact ⟨congrArg Pad.decPending hpad, congrArg Pad.prior hpad⟩
  · rw [confirmDecrease_stands hc]
  · rw [← sampled_pad]
    rcases hstill with hstill | hgrant
    · exact congrArg (fun v => v[p.val]) (evaluateVoltage_still (hstill.trans (congrArg Alloc.fastShed halloc.symm)))
    · exact evaluateVoltage_spares (by rw [sampled_pad]; exact hgrant)

@[simp] theorem sampled_groups : (sampled p r s).groups = s.groups := by simp [sampled]

@[simp] theorem sampled_tables : (sampled p r s).tables = s.tables := by simp [sampled]

theorem evaluateVoltage_captures (g : GroupId) (s : State) :
    (evaluateVoltage g s).notices.captures = s.notices.captures := by
  have hmoved : (moveVoltage g s).notices.captures = s.notices.captures := by
    unfold moveVoltage
    split
    · rfl
    · simp
  by_cases h : s.shedStays g
  · rw [evaluateVoltage_same h, hmoved]
  · rw [evaluateVoltage_moved h, recompute_notices, hmoved]

theorem sampled_captures : (sampled p r s).notices.captures = s.notices.captures := by
  simp only [sampled, State.updPad_notices]
  unfold completionCheck
  split
  · simp [complete]
  · rw [confirmDecrease_notices]

theorem concluded_captures (h : s.pads[p.val].state.contributes = true) :
    (concluded p r s).notices.captures = s.notices.captures := by
  rw [concluded_eq h, evaluateVoltage_captures, sampled_captures]

theorem sampled_met (h : (s.pads[p.val]).isMet) : noticeIn .padComplete (sampled p r s).notices.pendingSet = true := by
  have hrest := confirmDecrease_rest (p := p) (r := r) (s := s)
  have hmet : ((confirmDecrease p r s).pads[p.val]).isMet := by
    unfold Pad.isMet at h ⊢
    rw [hrest]
    exact h
  refine completionCheck_raised p _ ?_ fun hcomplete => ?_
  · rw [Pad.checked_of_met hmet]
    rfl
  · exact nomatch (congrArg SessionState.served hcomplete).symm.trans hmet.1

theorem noticed_sampled : Noticed s (sampled p r s) := by
  have hconfirmed : Noticed s (confirmDecrease p r s) := .of_eq (confirmDecrease_fleet _ _ _) (confirmDecrease_notices _ _ _)
  exact (hconfirmed.trans (quiet_completionCheck p _).noticed).after_eq rfl rfl

theorem noticed_concluded (h : s.pads[p.val].state.contributes = true) : Noticed s (concluded p r s) := by
  rw [concluded_eq h]
  exact noticed_sampled.trans (quiet_evaluateVoltage _ _).noticed

theorem concluded_met (hc : s.pads[p.val].state.contributes = true) (h : (s.pads[p.val]).isMet) :
    noticeIn .padComplete (concluded p r s).notices.pendingSet = true := by
  rw [concluded_eq hc]
  exact (quiet_evaluateVoltage _ _).noticed.grows _ (sampled_met h)

theorem concluded_evaluated (h : s.pads[p.val].state.contributes = true) (hon : (s.padRec p).enabled = true) :
    GroupEvaluated s (concluded p r s) (s.padRec p).group := by
  have hsome : ∃ m, (sampled p r s).minVoltage (s.padRec p).group = some m := by
    refine Option.ne_none_iff_exists'.mp fun hnone => ?_
    have hin : (sampled p r s).inGroup (s.padRec p).group p = true := by
      rw [State.inGroup, State.padRec, sampled_tables, Bool.and_eq_true, beq_iff_eq]
      exact ⟨hon, rfl⟩
    have hnil := minVoltage_eq_none.mp hnone p hin
    rw [Fin.getElem_fin, sampled_pad] at hnil
    exact nomatch hnil
  rw [concluded_eq h]
  exact (groupEvaluated hsome).of_eq sampled_groups sampled_tables rfl (fun _ => rfl) fun _ hk => hk

theorem concluded_other (h : s.pads[p.val].state.contributes = true) {g : GroupId} (hne : (s.padRec p).group ≠ g) :
    (concluded p r s).groups[g.val] = s.groups[g.val] := by
  simp only [concluded_eq h, evaluateVoltage_other g hne, sampled_groups]

/-- The overdraw check that finds the limit reached is captured (R118). -/
theorem overdrawCheck_captured (hstate : s.pads[p.val].state.overdrawChecked = true)
    (hexcess : (s.pads[p.val]).reference + (s.feederRec (s.padRec p).group).tolerance < r.metered)
    (hlimit : (s.feederRec (s.padRec p).group).overdrawLimit ≤ (s.pads[p.val]).overdraw + 1) :
    Captured s (overdrawCheck p r s) p .coordinator codeOverdraw r.metered := by
  have hfaults : overdrawCheck p r s = enterFaulted p .coordinator codeOverdraw r.metered
      (s.updPad p fun q => { q with overdraw := q.overdraw + 1 }) := by
    unfold overdrawCheck
    dsimp only [Fin.getElem_fin]
    rw [if_neg (by rw [hstate]; nofun), if_pos hexcess, if_pos hlimit]
  have hcaptured := enterFaulted_captured p .coordinator codeOverdraw r.metered
    (s.updPad p fun q => { q with overdraw := q.overdraw + 1 })
  rw [hfaults]
  exact hcaptured.of_eq rfl rfl rfl

end

end Sys2Proof.Machine

/-! PROOFS. A good REPORT that reaches its pad: the session's movement (R26, R34, R38, R44 to R46, R50). -/

namespace Sys2Proof.Machine

/-! ## The steps before the overdraw check -/

section
variable {p : PadId} {x : LineRequest} {r : Report} {s : State}

/-- No session is DISABLED or SILENT after the transition that a report causes. -/
theorem reportTransition_contributes (h : s.pads[p.val].state ≠ .disabled) :
    ((reportTransition p x r s).pads[p.val]).state.contributes = true := by
  have hchecked {q : Pad} (hq : q.state.contributes = true) := contributes_of_checked hq
  cases hstate : s.pads[p.val].state with
  | disabled => exact absurd hstate h
  | faulted =>
    rw [reportTransition_faulted hstate, hstate]
    rfl
  | empty =>
    rw [reportTransition_empty hstate]
    split
    · rfl
    · rw [hstate]
      rfl
  | probing =>
    rw [reportTransition_probing hstate]
    unfold Pad.probeReports Pad.probeFailed Pad.probed
    split
    · rfl
    · split
      · exact (congrArg SessionState.contributes hstate).trans rfl
      · split
        · split
          · split
            · exact hchecked rfl
            · rfl
          · exact (congrArg SessionState.contributes hstate).trans rfl
        · rw [hstate]
          rfl
  | waiting | charging | complete =>
    rw [reportTransition_stands (by simp [hstate])]
    split
    · rfl
    · split
      · rfl
      · rw [hstate]
        rfl
  | releasing =>
    rw [reportTransition_releasing hstate]
    split
    · rfl
    · split
      · rfl
      · rw [hstate]
        rfl
  | silent =>
    rw [reportTransition_silent hstate]
    unfold Pad.wakes
    split
    · rfl
    · split
      · exact hchecked rfl
      · rfl

/-- What no transition touches at its pad. -/
theorem reportTransition_keeps (h : s.pads[p.val].state ≠ .disabled) :
    ((reportTransition p x r s).pads[p.val]).report = (s.pads[p.val]).report
    ∧ ((reportTransition p x r s).pads[p.val]).failures = (s.pads[p.val]).failures
    ∧ ((reportTransition p x r s).pads[p.val]).limit = (s.pads[p.val]).limit
    ∧ ((reportTransition p x r s).pads[p.val]).inScope = (s.pads[p.val]).inScope := by
  cases hstate : s.pads[p.val].state with
  | disabled => exact absurd hstate h
  | faulted =>
    rw [reportTransition_faulted hstate]
    exact ⟨rfl, rfl, rfl, rfl⟩
  | empty =>
    rw [reportTransition_empty hstate]
    split <;> exact ⟨rfl, rfl, rfl, rfl⟩
  | probing =>
    rw [reportTransition_probing hstate]
    unfold Pad.probeReports Pad.probeFailed
    split
    · exact ⟨rfl, rfl, rfl, rfl⟩
    · split
      · exact ⟨rfl, rfl, rfl, rfl⟩
      · split
        · split
          · simp [Pad.attempted]
          · exact ⟨rfl, rfl, rfl, rfl⟩
        · exact ⟨rfl, rfl, rfl, rfl⟩
  | waiting | charging | complete =>
    rw [reportTransition_stands (by simp [hstate])]
    split
    · exact ⟨rfl, rfl, rfl, rfl⟩
    · split <;> exact ⟨rfl, rfl, rfl, rfl⟩
  | releasing =>
    rw [reportTransition_releasing hstate]
    split
    · exact ⟨rfl, rfl, rfl, rfl⟩
    · split <;> exact ⟨rfl, rfl, rfl, rfl⟩
  | silent =>
    rw [reportTransition_silent hstate]
    unfold Pad.wakes
    split
    · exact ⟨rfl, rfl, rfl, rfl⟩
    · split
      · simp [Pad.setState, Pad.clearReservation]
      · exact ⟨rfl, rfl, rfl, rfl⟩

end

/-! ## The report that reaches its pad -/

/-- A pad after the energy accounting and the overdraw check, by its group's record (R114, R117, R118). -/
def Pad.accounted (f : FeederRec) (r : Report) (q : Pad) : Pad := (q.account r).overdrawn f r

/-- The pad as a good report is stored (R26, R134). -/
def Pad.reported (r : Report) (q : Pad) : Pad := q.heard.storeReport r

/-- The overdraw check faults the pad (R118). -/
def Pad.Overdraws (f : FeederRec) (r : Report) (q : Pad) : Prop :=
  q.state.overdrawChecked = true ∧ q.reference + f.tolerance < r.metered ∧ f.overdrawLimit ≤ q.overdraw + 1

/-- `t` is the state that a good report of pad `p` leaves; `b` is the one in which its transition is made. -/
structure Reported (s b t : State) (l : LineId) (tx : Transaction) (rx : List RxChar) (p : PadId) (r : Report) :
    Prop where
  before : b.pads[p.val] = (s.pads[p.val]).reported r
  site : b.site = s.site
  padRec : b.padRec p = s.padRec p
  elsewhere : SameElsewhere s t l (some p)
  line : LineEnded s t l tx rx
  pad : Pad.Concludes r (t.alloc.fastShed = s.alloc.fastShed)
    (((reportTransition p tx.request r b).pads[p.val]).accounted (s.feederRec (s.padRec p).group) r) t.pads[p.val]
  evaluated : GroupEvaluated s t (s.padRec p).group
  others : ∀ g : GroupId, g ≠ (s.padRec p).group → t.groups[g] = s.groups[g]
  grows : ∀ k : Notice, noticeIn k (reportTransition p tx.request r b).notices.pendingSet = true →
    noticeIn k t.notices.pendingSet = true
  met : (((reportTransition p tx.request r b).pads[p.val]).accounted (s.feederRec (s.padRec p).group) r).isMet →
    noticeIn .padComplete t.notices.pendingSet = true
  captured : reportTransition p tx.request r b = b →
    (((s.pads[p.val]).reported r).account r).Overdraws (s.feederRec (s.padRec p).group) r →
    noticeIn .padFault t.notices.pendingSet = true
    ∧ (s.notices.captures.length < 8 → t.notices.captures = s.notices.captures ++
        [{ seq := s.notices.nextSeq, pad := p, source := .coordinator, code := codeOverdraw, power := r.metered
           time := s.time.running }])

section
variable {s : State} {l : LineId} {tx : Transaction} {rx : List RxChar} {p : PadId} {r : Report}

theorem Pad.account_state (r : Report) (q : Pad) : (q.account r).state = q.state := by rw [Pad.account_eq]

theorem Pad.accounted_contributes (f : FeederRec) {q : Pad} (h : q.state.contributes = true) :
    (q.accounted f r).state.contributes = true := by
  unfold Pad.accounted Pad.overdrawn
  split
  · rwa [Pad.account_state]
  · split
    · split
      · rfl
      · exact (congrArg SessionState.contributes (Pad.account_state r q)).trans h
    · exact (congrArg SessionState.contributes (Pad.account_state r q)).trans h

/-- `b` is `s` but for the lines, with the report stored at pad `p`: the state in which its transition is made. -/
structure ReportStored (s b : State) (p : PadId) (r : Report) : Prop where
  pad : b.pads[p.val] = (s.pads[p.val]).reported r
  tables : b.tables = s.tables
  groups : b.groups = s.groups
  alloc : b.alloc = s.alloc
  notices : b.notices = s.notices
  time : b.time = s.time

theorem reportStored_of_good (h : (classify tx rx).isGood = true) :
    ReportStored s ((s.arrived l p (classify tx rx) rx).updPad p (Pad.storeReport r)) p r where
  pad := by
    rw [State.updPad_same, arrived_pad_good s l p (classify tx rx) rx h]
    rfl
  tables := rfl
  groups := rfl
  alloc := rfl
  notices := rfl
  time := rfl

/-- The transition, the energy accounting and the overdraw check of a report. -/
def reportChecked (p : PadId) (x : LineRequest) (r : Report) (b : State) : State :=
  overdrawCheck p r ((reportTransition p x r b).updPad p (Pad.account r))

section
variable {b : State} {x : LineRequest}

theorem reportChecked_alloc : (reportChecked p x r b).alloc = b.alloc := by simp [reportChecked]

theorem reportChecked_groups : (reportChecked p x r b).groups = b.groups := by simp [reportChecked]

theorem reportChecked_tables : (reportChecked p x r b).tables = b.tables := by simp [reportChecked]

theorem reportChecked_noticed : Noticed (reportTransition p x r b) (reportChecked p x r b) :=
  ((quiet_overdrawCheck p r _).noticed).before rfl rfl

namespace ReportStored

theorem feederRec (h : ReportStored s b p r) : b.feederRec (b.padRec p).group = s.feederRec (s.padRec p).group := by
  simp only [State.feederRec, State.padRec, h.tables]

theorem checked_pad (h : ReportStored s b p r) : (reportChecked p x r b).pads[p.val] =
    ((reportTransition p x r b).pads[p.val]).accounted (s.feederRec (s.padRec p).group) r := by
  have hfeeder : ((reportTransition p x r b).updPad p (Pad.account r)).feederRec
      (((reportTransition p x r b).updPad p (Pad.account r)).padRec p).group =
      s.feederRec (s.padRec p).group := by
    simp only [State.feederRec, State.padRec, State.updPad_tables, reportTransition_tables, h.tables]
  rw [reportChecked, overdrawCheck_pad, State.updPad_same, hfeeder]
  rfl

theorem checked_captured (h : ReportStored s b p r) (hsame : reportTransition p x r b = b)
    (hover : (((s.pads[p.val]).reported r).account r).Overdraws (s.feederRec (s.padRec p).group) r) :
    Captured s (reportChecked p x r b) p .coordinator codeOverdraw r.metered := by
  have hself : (b.updPad p (Pad.account r)).pads[p.val] = ((s.pads[p.val]).reported r).account r := by
    rw [State.updPad_same, h.pad]
  have hfeeder : (b.updPad p (Pad.account r)).feederRec ((b.updPad p (Pad.account r)).padRec p).group =
      s.feederRec (s.padRec p).group := h.feederRec
  obtain ⟨hchecked, hexcess, hlimit⟩ := hover
  rw [reportChecked, hsame]
  have hfaults := overdrawCheck_captured (p := p) (r := r) (s := b.updPad p (Pad.account r))
    (by rw [hself]; exact hchecked) (by rw [hself, hfeeder]; exact hexcess) (by rw [hself, hfeeder]; exact hlimit)
  exact hfaults.of_eq h.notices h.time rfl

end ReportStored

end

theorem handleReport_checked (x : LineRequest) : handleReport p x r s =
    concluded p r (reportChecked p x r (s.updPad p (Pad.storeReport r))) := rfl

/-- What the concluding steps make of a report that was stored and checked. -/
theorem ReportStored.reported {b t : State} (hstored : ReportStored s b p r)
    (hhandled : Handled s (concluded p r (reportChecked p tx.request r b)) t l p) (hline : LineEnded s t l tx rx)
    (hdisabled : (s.pads[p.val]).state ≠ .disabled) (hon : (s.padRec p).enabled = true) :
    Reported s b t l tx rx p r := by
  have hmoved := reportTransition_contributes (p := p) (x := tx.request) (r := r) (s := b)
    (by rw [hstored.pad]; exact hdisabled)
  have hchecked := hstored.checked_pad (x := tx.request)
  have hgroups := (reportChecked_groups (p := p) (x := tx.request) (r := r)).trans hstored.groups
  have htables := (reportChecked_tables (p := p) (x := tx.request) (r := r)).trans hstored.tables
  have halloc := (reportChecked_alloc (p := p) (x := tx.request) (r := r)).trans hstored.alloc
  have hnoticed := reportChecked_noticed (p := p) (x := tx.request) (r := r) (b := b)
  have hcaptured := hstored.checked_captured (x := tx.request)
  generalize reportChecked p tx.request r b = c at *
  have hcrec : c.padRec p = s.padRec p := by rw [State.padRec, htables]; rfl
  have hcontributes : c.pads[p.val].state.contributes = true := by
    rw [hchecked]
    exact Pad.accounted_contributes _ hmoved
  have hconcludes := concluded_pad (r := r) hcontributes
  have hevaluated := concluded_evaluated (r := r) hcontributes (by rw [hcrec]; exact hon)
  rw [hchecked, halloc] at hconcludes
  rw [hcrec] at hevaluated
  refine
    { before := hstored.pad
      site := by rw [State.site, hstored.tables]; rfl
      padRec := by rw [State.padRec, hstored.tables]; rfl
      elsewhere := hhandled.elsewhere
      line := hline
      pad := ?_
      evaluated := hevaluated.of_eq hgroups htables hhandled.groups (fun q => by rw [hhandled.pads])
        fun k hk => by rwa [hhandled.notices]
      others := fun g hg => ?_
      grows := fun k hk => ?_
      met := fun hmet => ?_
      captured := fun hsame h => ?_ }
  · rw [hhandled.alloc]
    simp only [hhandled.pads]
    exact hconcludes
  · have hother := concluded_other (r := r) hcontributes (by rw [hcrec]; exact Ne.symm hg)
    simp only [Fin.getElem_fin, hhandled.groups, hother, hgroups]
  · rw [hhandled.notices]
    exact (noticed_concluded hcontributes).grows k (hnoticed.grows k hk)
  · rw [hhandled.notices]
    exact concluded_met hcontributes (by rw [hchecked]; exact hmet)
  · have hfault := hcaptured hsame h
    rw [hhandled.notices, concluded_captures hcontributes]
    exact ⟨(noticed_concluded hcontributes).grows _ hfault.raised, hfault.stored⟩

theorem report_reaches (h : s.replyReaches l tx rx p lineReport) (hr : r = reportOf (replyBody rx)) :
    ∃ b t : State, exec (.report l rx) s = .next t ∧ Reported s b t l tx rx p r := by
  obtain ⟨t, hexec, hline, hhandled⟩ := exec_reaches h (.inl rfl)
  obtain ⟨⟨-, -, -, honline, -, hdisabled, -⟩, hgood, hkind⟩ := h
  have hup : handUp p tx.request (classify tx rx) rx (s.arrived l p (classify tx rx) rx) =
      handleReport p tx.request r (s.arrived l p (classify tx rx) rx) := by
    unfold handUp
    rw [if_pos hgood, hkind, hr]
    rfl
  rw [hup, handleReport_checked] at hhandled
  exact ⟨_, t, hexec, (reportStored_of_good hgood).reported hhandled hline hdisabled (onLine_iff.mp honline).1⟩

end

end Sys2Proof.Machine

/-! PROOFS. The figures and the state that a good REPORT leaves its pad (O48: R26, R34, R38, R44 to R46, R50). -/

namespace Sys2Proof.Machine

/-! ## Energy accounting and the overdraw check (R114, R117, R118) -/

section
variable {f : FeederRec} {r : Report} {q : Pad}

theorem Pad.account_none (h : q.dispatch = none) : q.account r = q := by
  rw [Pad.account, h]

theorem Pad.account_some {d : Dispatch} (h : q.dispatch = some d) (hpresent : r.present = true)
    (hdocking : r.docking = q.docking) : q.account r =
      { q with
        delivered := (r.energy + 65536 - d.base) % 65536
        remaining := d.target - (r.energy + 65536 - d.base) % 65536 } := by
  rw [Pad.account, h]
  exact if_pos ⟨hpresent, hdocking⟩

theorem Pad.account_absent (h : r.present = false ∨ r.docking ≠ q.docking) : q.account r = q := by
  unfold Pad.account
  split
  · rfl
  · refine if_neg fun hsame => ?_
    rcases h with h | h
    · exact nomatch h.symm.trans hsame.1
    · exact h hsame.2

theorem Pad.overdrawn_unchecked (h : q.state.overdrawChecked = false) : q.overdrawn f r = q := if_pos h

theorem Pad.overdrawn_faults (h : q.Overdraws f r) :
    q.overdrawn f r = ({ q with overdraw := q.overdraw + 1 } : Pad).faulted codeOverdraw := by
  obtain ⟨hchecked, hexcess, hlimit⟩ := h
  rw [Pad.overdrawn, if_neg (by rw [hchecked]; nofun), if_pos hexcess, if_pos hlimit]

theorem Pad.overdrawn_overdraw (h : q.state.overdrawChecked = true) : (q.overdrawn f r).overdraw =
    if q.reference + f.tolerance < r.metered then q.overdraw + 1 else 0 := by
  rw [Pad.overdrawn, if_neg (by rw [h]; nofun)]
  split
  · split <;> rfl
  · rfl

theorem Pad.overdrawn_spares (h : ¬ q.Overdraws f r) :
    q.overdrawn f r = { q with overdraw := (q.overdrawn f r).overdraw } := by
  unfold Pad.overdrawn
  split
  · rfl
  next hchecked =>
    split
    next hexcess =>
      split
      next hlimit => exact absurd ⟨Bool.not_eq_false _ ▸ hchecked, hexcess, hlimit⟩ h
      · rfl
    · rfl

theorem Pad.accounted_rest (f : FeederRec) (r : Report) (q : Pad) : q.accounted f r =
    { q with
      state := (q.accounted f r).state, fault := (q.accounted f r).fault, grant := (q.accounted f r).grant
      sent := (q.accounted f r).sent, prior := (q.accounted f r).prior, decPending := (q.accounted f r).decPending
      overdraw := (q.accounted f r).overdraw, stayed := (q.accounted f r).stayed
      delivered := (q.account r).delivered, remaining := (q.account r).remaining } := by
  unfold Pad.accounted
  by_cases h : (q.account r).Overdraws f r
  · rw [Pad.overdrawn_faults h, Pad.account_eq]
    rfl
  · rw [Pad.overdrawn_spares h, Pad.account_eq]

end

theorem SessionState.served_of_unchecked {x : SessionState} (h : x.overdrawChecked = false) : x.served = false := by
  revert h
  cases x <;> decide

/-! ## The pad at the end -/

section
variable {f : FeederRec} {r : Report} {still : Prop} {u t : Pad} (h : Pad.Concludes r still (u.accounted f r) t)
include h

/-- What the steps after the transition leave of the pad. -/
theorem Pad.Concludes.keeps : t = { u with
    state := t.state, fault := (u.accounted f r).fault, grant := t.grant, sent := t.sent, prior := t.prior
    decPending := t.decPending, overdraw := (u.accounted f r).overdraw, stayed := t.stayed
    delivered := (u.account r).delivered, remaining := (u.account r).remaining, sample := t.sample } := by
  have hrest := Pad.accounted_rest f r u
  have ht := h.rest
  generalize u.accounted f r = v at hrest ht
  refine ht.trans ?_
  rw [hrest]

/-- A session that is not checked for overdraw stays where the transition has brought it. -/
theorem Pad.Concludes.rests (hu : u.state.overdrawChecked = false) :
    t.state = u.state ∧ t.fault = u.fault ∧ t.overdraw = u.overdraw := by
  have hsame : u.accounted f r = u.account r := Pad.overdrawn_unchecked (by rwa [Pad.account_state])
  have hkeeps := h.keeps
  rw [hsame] at h hkeeps
  have hserved : (u.account r).state.served = false := by
    rw [Pad.account_state]
    exact SessionState.served_of_unchecked hu
  refine ⟨(h.unserved hserved).trans (Pad.account_state r u), ?_, ?_⟩
  · exact (congrArg Pad.fault hkeeps).trans (by rw [Pad.account_eq])
  · exact (congrArg Pad.overdraw hkeeps).trans (by rw [Pad.account_eq])

/-- A pad without power that is not checked for overdraw stays without. -/
theorem Pad.Concludes.rests_off (hu : u.state.overdrawChecked = false) (hgrant : u.grant = 0) (hsent : u.sent = 0)
    (hprior : u.prior = 0) (hpending : u.decPending = false) :
    t.grant = 0 ∧ t.sent = 0 ∧ t.prior = 0 ∧ t.decPending = false := by
  have hsame : u.accounted f r = u.account r := Pad.overdrawn_unchecked (by rwa [Pad.account_state])
  rw [hsame, Pad.account_eq] at h
  exact h.off hgrant hsent hprior hpending

/-- The overdraw that reaches the limit faults the pad (R118). -/
theorem Pad.Concludes.faults (ho : (u.account r).Overdraws f r) : t.state = .faulted ∧ t.fault = some 128
    ∧ t.grant = 0 ∧ t.sent = 0 ∧ t.prior = 0 ∧ t.decPending = false := by
  have hfaults : u.accounted f r = _ := Pad.overdrawn_faults ho
  have hkeeps := h.keeps
  rw [hfaults] at h hkeeps
  exact ⟨h.unserved rfl, congrArg Pad.fault hkeeps, h.off rfl rfl rfl rfl⟩

/-- The overdraw count of a session that is checked (R117, R118). -/
theorem Pad.Concludes.counts (hu : u.state.overdrawChecked = true) :
    t.overdraw = if u.reference + f.tolerance < r.metered then u.overdraw + 1 else 0 := by
  have hcount := Pad.overdrawn_overdraw (f := f) (r := r) (q := u.account r) (by rwa [Pad.account_state])
  have hreference : (u.account r).reference = u.reference := by
    unfold Pad.reference
    rw [Pad.account_eq]
  have hoverdraw : (u.account r).overdraw = u.overdraw := by rw [Pad.account_eq]
  rw [hreference, hoverdraw] at hcount
  exact (congrArg Pad.overdraw h.keeps).trans hcount

/-- Otherwise the session goes on to the confirmation and the completion check as it was. -/
theorem Pad.Concludes.spared (ho : ¬ (u.account r).Overdraws f r) :
    Pad.Concludes r still { u.account r with overdraw := t.overdraw } t := by
  have hspared := Pad.overdrawn_spares ho
  have hcount : t.overdraw = (u.accounted f r).overdraw := (congrArg Pad.overdraw h.keeps).trans rfl
  rw [hcount]
  unfold Pad.accounted at h ⊢
  rw [← hspared]
  exact h

end

/-! ## The obligation, state by state -/

section
variable {s b t : State} {l : LineId} {tx : Transaction} {rx : List RxChar} {p : PadId} {r : Report}
  (h : Reported s b t l tx rx p r)
include h

theorem Reported.state : b.pads[p.val].state = s.pads[p.val].state := (congrArg Pad.state h.before).trans rfl

/-- What every report leaves at its pad. -/
theorem Reported.always (hd : s.pads[p].state ≠ .disabled) : (t.pads[p]).report = some r ∧ (t.pads[p]).failures = 0
    ∧ (t.pads[p]).limit = s.pads[p].limit ∧ (t.pads[p]).inScope = s.pads[p].inScope := by
  have hkeeps := h.pad.keeps
  obtain ⟨hreport, hfailures, hlimit, hscope⟩ := reportTransition_keeps (x := tx.request) (r := r) (h.state ▸ hd)
  rw [h.before] at hreport hfailures hlimit hscope
  exact ⟨(congrArg Pad.report hkeeps).trans hreport, (congrArg Pad.failures hkeeps).trans hfailures,
    (congrArg Pad.limit hkeeps).trans hlimit, (congrArg Pad.inScope hkeeps).trans hscope⟩

theorem Reported.empty (hs : s.pads[p].state = .empty) :
    (r.present = true → (t.pads[p]).state = .probing ∧ (t.pads[p]).docking = r.docking ∧ (t.pads[p]).caps = none
      ∧ (t.pads[p]).attempts = 0 ∧ (t.pads[p]).inDocking = true)
    ∧ (r.present = false → (t.pads[p]).state = .empty ∧ (t.pads[p]).docking = s.pads[p].docking) := by
  have hmoved := reportTransition_empty (x := tx.request) (r := r) (h.state.trans hs)
  rw [h.before] at hmoved
  have hpad := h.pad
  rw [hmoved] at hpad
  refine ⟨fun hpresent => ?_, fun habsent => ?_⟩
  · rw [if_pos hpresent] at hpad
    have hkeeps := hpad.keeps
    refine ⟨(hpad.rests rfl).1, congrArg Pad.docking hkeeps, congrArg Pad.caps hkeeps, congrArg Pad.attempts hkeeps, ?_⟩
    refine (congrArg Pad.inDocking hkeeps).trans ?_
    change (_ || r.present) = true
    rw [hpresent, Bool.or_true]
  · rw [if_neg (by rw [habsent]; nofun)] at hpad
    have hstate : ((s.pads[p.val]).reported r).state = .empty := hs
    exact ⟨(hpad.rests (by rw [hstate]; rfl)).1.trans hstate, (congrArg Pad.docking hpad.keeps).trans rfl⟩

/-- A vehicle that is gone without release (R45). -/
theorem Reported.departs (hs : s.pads[p].state = .waiting ∨ s.pads[p].state = .charging ∨ s.pads[p].state = .complete)
    (habsent : r.present = false) : (t.pads[p]).state = .empty ∧ (t.pads[p]).dispatch = none ∧ (t.pads[p]).caps = none
      ∧ (t.pads[p]).grant = 0 ∧ (t.pads[p]).sent = 0 ∧ (t.pads[p]).prior = 0 ∧ (t.pads[p]).decPending = false
      ∧ (t.pads[p]).overdraw = 0 ∧ (t.pads[p]).inDocking = false := by
  have hmoved := reportTransition_stands (x := tx.request) (r := r) (h.state ▸ hs)
  rw [if_pos habsent] at hmoved
  have hpad := h.pad
  rw [hmoved] at hpad
  have hkeeps := hpad.keeps
  obtain ⟨hstate, -, hoverdraw⟩ := hpad.rests rfl
  obtain ⟨hgrant, hsent, hprior, hpending⟩ := hpad.rests_off rfl rfl rfl rfl rfl
  exact ⟨hstate, congrArg Pad.dispatch hkeeps, congrArg Pad.caps hkeeps, hgrant, hsent, hprior, hpending, hoverdraw,
    congrArg Pad.inDocking hkeeps⟩

/-- Another vehicle (R46). -/
theorem Reported.swaps (hs : s.pads[p].state = .waiting ∨ s.pads[p].state = .charging ∨ s.pads[p].state = .complete
      ∨ s.pads[p].state = .releasing) (hpresent : r.present = true) (hdocking : r.docking ≠ s.pads[p].docking) :
    (t.pads[p]).state = .probing ∧ (t.pads[p]).docking = r.docking ∧ (t.pads[p]).dispatch = none
      ∧ (t.pads[p]).caps = none ∧ (t.pads[p]).grant = 0 ∧ (t.pads[p]).sent = 0 ∧ (t.pads[p]).attempts = 0 := by
  have hother : r.docking ≠ ((s.pads[p.val]).reported r).docking := hdocking
  have hmoved : (reportTransition p tx.request r b).pads[p.val] = ((s.pads[p.val]).reported r).swapped r.docking := by
    have hstate := h.state
    rw [← h.before]
    have hdiff : r.docking ≠ (b.pads[p.val]).docking := by rw [h.before]; exact hother
    rcases hs with hs | hs | hs | hs
    · rw [reportTransition_stands (.inl (hstate.trans hs)), if_neg (by rw [hpresent]; nofun), if_pos hdiff]
    · rw [reportTransition_stands (.inr (.inl (hstate.trans hs))), if_neg (by rw [hpresent]; nofun), if_pos hdiff]
    · rw [reportTransition_stands (.inr (.inr (hstate.trans hs))), if_neg (by rw [hpresent]; nofun), if_pos hdiff]
    · rw [reportTransition_releasing (hstate.trans hs), if_neg (by rw [hpresent]; nofun), if_pos hdiff]
  have hpad := h.pad
  rw [hmoved] at hpad
  have hkeeps := hpad.keeps
  obtain ⟨hstate, -, -⟩ := hpad.rests rfl
  obtain ⟨hgrant, hsent, -⟩ := hpad.rests_off rfl rfl rfl rfl rfl
  exact ⟨hstate, congrArg Pad.docking hkeeps, congrArg Pad.dispatch hkeeps, congrArg Pad.caps hkeeps, hgrant, hsent,
    congrArg Pad.attempts hkeeps⟩

/-- A vehicle that is gone from RELEASING or PROBING (R34, R44). -/
theorem Reported.empties (hs : s.pads[p].state = .releasing ∨ s.pads[p].state = .probing) (habsent : r.present = false) :
    (t.pads[p]).state = .empty ∧ (t.pads[p]).dispatch = none ∧ (t.pads[p]).caps = none := by
  have hmoved : (reportTransition p tx.request r b).pads[p.val] = ((s.pads[p.val]).reported r).enterEmpty := by
    rw [← h.before]
    rcases hs with hs | hs
    · rw [reportTransition_releasing (h.state.trans hs), if_pos habsent]
    · rw [reportTransition_probing (h.state.trans hs), Pad.probeReports, if_pos habsent]
  have hpad := h.pad
  rw [hmoved] at hpad
  exact ⟨(hpad.rests rfl).1, congrArg Pad.dispatch hpad.keeps, congrArg Pad.caps hpad.keeps⟩

theorem Reported.reprobes (hs : s.pads[p].state = .probing) (hpresent : r.present = true)
    (hdocking : r.docking ≠ s.pads[p].docking) : (t.pads[p]).state = .probing ∧ (t.pads[p]).docking = r.docking
      ∧ (t.pads[p]).dispatch = none ∧ (t.pads[p]).delivered = 0 ∧ (t.pads[p]).remaining = 0 ∧ (t.pads[p]).attempts = 0
      ∧ (t.pads[p]).fault = s.pads[p].fault := by
  have hmoved := reportTransition_probing (x := tx.request) (r := r) (h.state.trans hs)
  rw [h.before, Pad.probeReports, if_neg (by rw [hpresent]; nofun), if_pos (by exact hdocking)] at hmoved
  have hpad := h.pad
  rw [hmoved] at hpad
  have hkeeps := hpad.keeps
  have hstate : ((s.pads[p.val]).reported r).dropDispatch.state = .probing := hs
  obtain ⟨hstays, hfault, -⟩ := hpad.rests (by exact congrArg SessionState.overdrawChecked hstate)
  rw [Pad.account_none rfl] at hkeeps
  exact ⟨hstays.trans hstate, congrArg Pad.docking hkeeps, congrArg Pad.dispatch hkeeps, congrArg Pad.delivered hkeeps,
    congrArg Pad.remaining hkeeps, congrArg Pad.attempts hkeeps, hfault.trans rfl⟩

/-- The vehicle seen, in PROBING: the pad to which the last steps come (R37, R135). -/
theorem Reported.probed (hs : s.pads[p].state = .probing) (hpresent : r.present = true)
    (hdocking : r.docking = s.pads[p].docking) :
    Pad.Concludes r (t.alloc.fastShed = s.alloc.fastShed)
      ((if tx.request = .probe then ((s.pads[p.val]).reported r).probeFailed s.site (s.padRec p).assumeDefault
        else (s.pads[p.val]).reported r).accounted (s.feederRec (s.padRec p).group) r) t.pads[p.val] := by
  have hmoved := reportTransition_probing (x := tx.request) (r := r) (h.state.trans hs)
  rw [h.before, h.site, h.padRec, Pad.probeReports, if_neg (by rw [hpresent]; nofun),
    if_neg (by exact not_not.mpr hdocking)] at hmoved
  rw [← hmoved]
  exact h.pad

/-- In FAULTED no transition is made (R53). -/
theorem Reported.faulted (hs : s.pads[p].state = .faulted) :
    Pad.Concludes r (t.alloc.fastShed = s.alloc.fastShed)
      (((s.pads[p.val]).reported r).accounted (s.feederRec (s.padRec p).group) r) t.pads[p.val] := by
  rw [← h.before, ← reportTransition_faulted (x := tx.request) (r := r) (h.state.trans hs)]
  exact h.pad

/-- A SILENT pad whose silence ends (R50). -/
theorem Reported.wakes (hs : s.pads[p].state = .silent) :
    Pad.Concludes r (t.alloc.fastShed = s.alloc.fastShed)
      ((((s.pads[p.val]).reported r).wakes r).accounted (s.feederRec (s.padRec p).group) r) t.pads[p.val] := by
  rw [← h.before, ← reportTransition_silent (x := tx.request) (r := r) (h.state.trans hs)]
  exact h.pad

/-- A vehicle that is still there, in WAITING, CHARGING, COMPLETE and RELEASING: no transition is made. -/
theorem Reported.stays (hs : s.pads[p].state = .waiting ∨ s.pads[p].state = .charging ∨ s.pads[p].state = .complete
      ∨ s.pads[p].state = .releasing) (hpresent : r.present = true) (hdocking : r.docking = s.pads[p].docking) :
    reportTransition p tx.request r b = b := by
  have hsame : ¬ r.docking ≠ (b.pads[p.val]).docking := by
    rw [h.before]
    exact not_not.mpr hdocking
  have hthere : ¬ r.present = false := by
    rw [hpresent]
    nofun
  have hstate := h.state
  rw [reportTransition, Fin.getElem_fin]
  rcases hs with hs | hs | hs | hs <;> rw [hstate.trans hs] <;> exact (if_neg hthere).trans (if_neg hsame)

/-- The pad to which the last steps come where no transition is made. -/
theorem Reported.unmoved (hsame : reportTransition p tx.request r b = b) :
    Pad.Concludes r (t.alloc.fastShed = s.alloc.fastShed)
      (((s.pads[p.val]).reported r).accounted (s.feederRec (s.padRec p).group) r) t.pads[p.val] := by
  rw [← h.before]
  have hpad := h.pad
  rwa [hsame] at hpad

end

/-! ## The end of a silence (R50) -/

section
variable {r : Report} {q : Pad}

theorem Pad.wakes_freed : (q.wakes r).reservation = 0 ∧ (q.wakes r).roundsLeft = 0 := by
  unfold Pad.wakes
  split
  · exact ⟨rfl, rfl⟩
  · split
    · simp [Pad.setState, Pad.clearReservation]
    · exact ⟨rfl, rfl⟩

theorem Pad.wakes_absent (h : r.present = false) : q.wakes r = q.clearReservation.enterEmpty := if_pos h

theorem Pad.wakes_other (hpresent : r.present = true) (h : r.docking ≠ q.docking ∨ q.caps = none) :
    q.wakes r = { q.clearReservation.dropDispatch.enterProbing with docking := r.docking } := by
  rw [Pad.wakes, if_neg (by rw [hpresent]; nofun), if_neg]
  rintro ⟨hdocking, hcaps⟩
  rcases h with h | h
  · exact h hdocking
  · rw [h] at hcaps
    exact nomatch hcaps

/-- A pad as its silence ends in the same docking, before the completion check. -/
def Pad.woken (q : Pad) : Pad := q.clearReservation.setState .waiting

theorem Pad.wakes_same (hpresent : r.present = true) (hdocking : r.docking = q.docking) (hcaps : q.caps.isSome = true) :
    q.wakes r = q.woken.checked := by
  rw [Pad.wakes, if_neg (by rw [hpresent]; nofun), if_pos ⟨hdocking, hcaps⟩]
  rfl

theorem Pad.woken_isMet : q.woken.isMet ↔ q.dispatch.isSome = true ∧ q.remaining = 0 :=
  ⟨fun hmet => hmet.2, fun hmet => ⟨rfl, hmet⟩⟩

end

theorem endSilence_resumes {p : PadId} {r : Report} {s : State} (hpresent : r.present = true)
    (hdocking : r.docking = (s.pads[p.val]).docking) (hcaps : (s.pads[p.val]).caps.isSome = true) :
    endSilence p r s = completionCheck p (s.updPad p Pad.woken) := by
  unfold endSilence
  dsimp only [Fin.getElem_fin]
  rw [if_neg (by rw [hpresent]; nofun), if_pos ⟨hdocking, hcaps⟩, State.updPad_updPad]
  rfl

theorem Pad.account_overdraws (f : FeederRec) (r : Report) (q : Pad) : (q.account r).Overdraws f r ↔
    q.state.overdrawChecked = true ∧ q.reference + f.tolerance < r.metered ∧ f.overdrawLimit ≤ q.overdraw + 1 := by
  unfold Pad.Overdraws Pad.reference
  rw [Pad.account_eq]

section
variable {s b t : State} {l : LineId} {tx : Transaction} {rx : List RxChar} {p : PadId} {r : Report}
  (h : Reported s b t l tx rx p r) (hs : s.pads[p].state = .silent)
include h hs

theorem Reported.freed : (t.pads[p]).reservation = 0 ∧ (t.pads[p]).roundsLeft = 0 := by
  obtain ⟨hreservation, hrounds⟩ := Pad.wakes_freed (r := r) (q := (s.pads[p.val]).reported r)
  have hkeeps := (h.wakes hs).keeps
  exact ⟨(congrArg Pad.reservation hkeeps).trans hreservation, (congrArg Pad.roundsLeft hkeeps).trans hrounds⟩

theorem Reported.wakes_absent (habsent : r.present = false) :
    (t.pads[p]).state = .empty ∧ (t.pads[p]).dispatch = none := by
  have hpad := h.wakes hs
  rw [Pad.wakes_absent habsent] at hpad
  exact ⟨(hpad.rests rfl).1, congrArg Pad.dispatch hpad.keeps⟩

theorem Reported.wakes_other (hpresent : r.present = true)
    (hother : r.docking ≠ s.pads[p].docking ∨ s.pads[p].caps = none) :
    (t.pads[p]).state = .probing ∧ (t.pads[p]).docking = r.docking ∧ (t.pads[p]).dispatch = none := by
  have hpad := h.wakes hs
  rw [Pad.wakes_other (q := (s.pads[p.val]).reported r) hpresent hother] at hpad
  exact ⟨(hpad.rests rfl).1, congrArg Pad.docking hpad.keeps, congrArg Pad.dispatch hpad.keeps⟩

section
variable (hpresent : r.present = true) (hdocking : r.docking = s.pads[p].docking) (hcaps : s.pads[p].caps.isSome = true)
include hpresent hdocking hcaps

theorem Reported.woken : Pad.Concludes r (t.alloc.fastShed = s.alloc.fastShed)
    (((s.pads[p.val]).reported r).woken.checked.accounted (s.feederRec (s.padRec p).group) r) t.pads[p.val] := by
  have hpad := h.wakes hs
  rwa [Pad.wakes_same (q := (s.pads[p.val]).reported r) hpresent hdocking hcaps] at hpad

/-- With something left to deliver, or no dispatch, the pad goes on in WAITING to the overdraw check. -/
theorem Reported.resumes (hleft : s.pads[p].dispatch = none ∨ 0 < s.pads[p].remaining) :
    (reportTransition p tx.request r b).pads[p.val] = ((s.pads[p.val]).reported r).woken := by
  have hunmet : ¬ ((s.pads[p.val]).reported r).woken.isMet := by
    rw [Pad.woken_isMet]
    rintro ⟨hdispatch, hremaining⟩
    rcases hleft with hleft | hleft
    · exact nomatch (congrArg Option.isSome hleft).symm.trans hdispatch
    · exact absurd hremaining hleft.ne'
  rw [reportTransition_silent (h.state.trans hs), h.before,
    Pad.wakes_same (q := (s.pads[p.val]).reported r) hpresent hdocking hcaps, Pad.checked_of_unmet hunmet]

/-- With nothing left the session is COMPLETE before the report's energy is counted. -/
theorem Reported.woken_met (hdispatch : s.pads[p].dispatch.isSome = true) (hleft : s.pads[p].remaining = 0) :
    (t.pads[p]).state = .complete ∧ noticeIn .padComplete t.notices.pendingSet = true := by
  have hmet : ((s.pads[p.val]).reported r).woken.isMet := Pad.woken_isMet.mpr ⟨hdispatch, hleft⟩
  have hpad := h.woken hs hpresent hdocking hcaps
  rw [Pad.checked_of_met hmet] at hpad
  have hbmet : (b.pads[p.val]).woken.isMet := h.before ▸ hmet
  refine ⟨(hpad.rests rfl).1, h.grows _ ?_⟩
  rw [reportTransition, Fin.getElem_fin, h.state.trans hs]
  dsimp only
  rw [endSilence_resumes hpresent (by rw [h.before]; exact hdocking) (by rw [h.before]; exact hcaps)]
  refine completionCheck_raised p _ ?_ ?_
  · rw [State.updPad_same, Pad.checked_of_met hbmet]
    rfl
  · rw [State.updPad_same]
    nofun

end

end

end Sys2Proof.Machine

/-! PROOFS. A good REPORT moves the session (O48: R26, R34, R38, R44 to R46, R50). -/

namespace Sys2Proof.Machine

/-- A session that goes on in WAITING to the last steps is WAITING, COMPLETE or FAULTED at the end. -/
theorem Pad.Concludes.waits {f : FeederRec} {r : Report} {still : Prop} {u q : Pad}
    (h : Pad.Concludes r still (u.accounted f r) q) (hu : u.state = .waiting) :
    q.state = .waiting ∨ q.state = .complete ∨ q.state = .faulted := by
  by_cases ho : (u.account r).Overdraws f r
  · exact .inr (.inr (h.faults ho).1)
  · have hspared := h.spared ho
    have hstate : (u.account r).state = .waiting := (Pad.account_state r u).trans hu
    by_cases hmet : ({ u.account r with overdraw := q.overdraw } : Pad).isMet
    · exact .inr (.inl (hspared.met hmet).1)
    · rcases hspared.unmet hmet with hstays | ⟨-, hwaiting⟩
      · exact .inl (hstays.trans hstate)
      · exact .inl hwaiting

section
variable {s b t : State} {l : LineId} {tx : Transaction} {rx : List RxChar} {p : PadId} {r : Report}
  (h : Reported s b t l tx rx p r)
include h

/-- The last attempt of a vehicle seen, in PROBING (R37). -/
theorem Reported.lastAttempt (hs : s.pads[p].state = .probing) (hpresent : r.present = true)
    (hdocking : r.docking = s.pads[p].docking) (hprobe : tx.request = .probe)
    (hlast : s.site.probeAttempts ≤ s.pads[p].attempts + 1) :
    ((s.padRec p).assumeDefault = true → (t.pads[p]).caps = some (defaultCapability s.site)
      ∧ ((t.pads[p]).state = .waiting ∨ (t.pads[p]).state = .complete ∨ (t.pads[p]).state = .faulted))
    ∧ ((s.padRec p).assumeDefault = false → (t.pads[p]).state = .faulted ∧ (t.pads[p]).fault = some 129) := by
  have hpad := h.probed hs hpresent hdocking
  have hfailed : (((s.pads[p.val]).reported r).probeFailed s.site (s.padRec p).assumeDefault) =
      ((s.pads[p.val]).reported r).attempted.probed s.site (s.padRec p).assumeDefault := if_pos hlast
  rw [if_pos hprobe, hfailed] at hpad
  refine ⟨fun hassume => ?_, fun hassume => ?_⟩
  · rw [hassume] at hpad
    obtain ⟨hcaps, hstate⟩ := Pad.probed_default s.site ((s.pads[p.val]).reported r).attempted
    refine ⟨(congrArg Pad.caps hpad.keeps).trans hcaps, ?_⟩
    split at hstate
    · refine .inr (.inl ((hpad.rests ?_).1.trans hstate))
      rw [hstate]
      rfl
    · exact hpad.waits hstate
  · rw [hassume] at hpad
    obtain ⟨hstate, hfault, -⟩ := hpad.rests rfl
    exact ⟨hstate, hfault⟩

end

/-- Settles O48. -/
theorem reportMovesTheSession : Obligations.ReportMovesTheSession := by
  intro l tx rx p r s hreaches hr
  obtain ⟨b, t, hexec, h⟩ := report_reaches hreaches hr
  obtain ⟨⟨-, -, -, -, -, hdisabled, -⟩, -⟩ := hreaches
  obtain ⟨hreport, hfailures, hlimit, hscope⟩ := h.always hdisabled
  refine ⟨t, hexec, h.elsewhere, h.line, hreport, hfailures, hlimit, hscope, fun hs => (h.empty hs).1,
    fun hs => (h.empty hs).2, h.departs, h.empties, h.swaps, h.reprobes, fun hs hpresent hdocking => ⟨fun hpoll => ?_,
    fun hprobe hfew => ?_, h.lastAttempt hs hpresent hdocking⟩, h.pad.sample, h.evaluated,
    fun g => ⟨minVoltage_eq_none, fun m => minVoltage_eq_some⟩, h.others, fun hs => ⟨(h.freed hs).1, (h.freed hs).2,
    h.wakes_absent hs, h.wakes_other hs, fun hpresent hdocking hcaps => ?_⟩, fun hs => ?_⟩
  · have hpad := h.probed hs hpresent hdocking
    rw [if_neg (by rw [hpoll]; nofun)] at hpad
    have hkeeps := hpad.keeps
    have hstate : ((s.pads[p.val]).reported r).state = .probing := hs
    exact ⟨(hpad.rests (by rw [hstate]; rfl)).1.trans hstate, (congrArg Pad.attempts hkeeps).trans rfl,
      (congrArg Pad.docking hkeeps).trans rfl, (congrArg Pad.dispatch hkeeps).trans rfl⟩
  · have hpad := h.probed hs hpresent hdocking
    have hagain : (((s.pads[p.val]).reported r).probeFailed s.site (s.padRec p).assumeDefault) =
        ((s.pads[p.val]).reported r).attempted := if_neg (not_le.mpr hfew)
    rw [if_pos hprobe, hagain] at hpad
    have hkeeps := hpad.keeps
    have hstate : ((s.pads[p.val]).reported r).attempted.state = .probing := hs
    exact ⟨(hpad.rests (by rw [hstate]; rfl)).1.trans hstate, (congrArg Pad.attempts hkeeps).trans rfl,
      (congrArg Pad.docking hkeeps).trans rfl, (congrArg Pad.dispatch hkeeps).trans rfl⟩
  · intro f excess reached
    have hpad := h.woken hs hpresent hdocking hcaps
    have hkeeps := hpad.keeps
    have hkept_caps : (t.pads[p]).caps = s.pads[p].caps := (congrArg Pad.caps hkeeps).trans (Pad.checked_caps _)
    have hreaches : (((s.pads[p.val]).reported r).woken.account r).Overdraws f r ↔ reached = true := by
      rw [Pad.account_overdraws, Bool.and_eq_true, decide_eq_true_eq, decide_eq_true_eq]
      exact ⟨fun ho => ho.2, fun ho => ⟨rfl, ho⟩⟩
    have hmoved (hleft : s.pads[p].dispatch = none ∨ 0 < s.pads[p].remaining) :=
      h.resumes hs hpresent hdocking hcaps hleft
    have hopens (hleft : s.pads[p].dispatch = none ∨ 0 < s.pads[p].remaining) := hmoved hleft ▸ h.pad
    have hmet (hleft : s.pads[p].dispatch = none ∨ 0 < s.pads[p].remaining) := hmoved hleft ▸ h.met
    have hspared (hreached : reached = false) :=
      mt hreaches.mp (ne_of_eq_of_ne hreached Bool.false_ne_true)
    have hcounted {d : Dispatch} (hd : s.pads[p].dispatch = some d) :
        ((s.pads[p.val]).reported r).woken.account r = _ :=
      Pad.account_some (q := ((s.pads[p.val]).reported r).woken) hd hpresent hdocking
    refine ⟨hkept_caps, (congrArg Pad.docking hkeeps).trans (Pad.checked_docking _),
      (congrArg Pad.dispatch hkeeps).trans (Pad.checked_dispatch _), fun hleft => ⟨?_, fun hreached => ?_⟩,
      fun hnone hreached => ?_, fun d hd => ⟨?_, ?_, fun hdone => ?_, fun hleft hreached hopen => ?_⟩⟩
    · refine ((hopens hleft).counts rfl).trans ?_
      simp only [excess, decide_eq_true_eq]
      rfl
    · obtain ⟨hstate, hfault, -⟩ := (hopens hleft).faults (hreaches.mpr hreached)
      exact ⟨hstate, hfault⟩
    · have hgoes := (hopens (.inl hnone)).spared (hspared hreached)
      rw [Pad.account_none (q := ((s.pads[p.val]).reported r).woken) hnone] at hgoes
      rcases hgoes.unmet fun hm => nomatch (congrArg Option.isSome hnone).symm.trans hm.2.1 with hstays | ⟨-, hwaiting⟩
      · exact hstays
      · exact hwaiting
    · refine (congrArg Pad.delivered hkeeps).trans ?_
      rw [Pad.account_some (d := d) (by rw [Pad.checked_dispatch]; exact hd) hpresent
        (by rw [Pad.checked_docking]; exact hdocking)]
    · refine (congrArg Pad.remaining hkeeps).trans ?_
      rw [Pad.account_some (d := d) (by rw [Pad.checked_dispatch]; exact hd) hpresent
        (by rw [Pad.checked_docking]; exact hdocking)]
    · have hnow (hz : s.pads[p].remaining = 0) :=
        h.woken_met hs hpresent hdocking hcaps (by rw [hd]; rfl) hz
      rcases hdone with hz | ⟨hreached, hfull⟩
      · exact hnow hz
      · by_cases hz : s.pads[p].remaining = 0
        · exact hnow hz
        · have hleft : s.pads[p].dispatch = none ∨ 0 < s.pads[p].remaining := .inr (Nat.pos_of_ne_zero hz)
          have hspares := Pad.overdrawn_spares (hspared hreached)
          have hdone : (((s.pads[p.val]).reported r).woken.accounted (s.feederRec (s.padRec p).group) r).isMet := by
            rw [Pad.accounted, hspares, hcounted hd]
            exact ⟨rfl, (congrArg Option.isSome hd).trans rfl, Nat.sub_eq_zero_of_le hfull⟩
          exact ⟨((hopens hleft).met hdone).1, hmet hleft hdone⟩
    · have hgoes := (hopens (.inr hleft)).spared (hspared hreached)
      rw [hcounted hd] at hgoes
      rcases hgoes.unmet fun hm => absurd hm.2.2 (Nat.sub_ne_zero_of_lt hopen) with hstays | ⟨-, hwaiting⟩
      · exact hstays
      · exact hwaiting
  · have hpad := h.faulted hs
    have hstate : ((s.pads[p.val]).reported r).state = .faulted := hs
    obtain ⟨hstays, hfault, -⟩ := hpad.rests (by rw [hstate]; rfl)
    exact ⟨hstays.trans hstate, hfault.trans rfl⟩

end Sys2Proof.Machine

/-! PROOFS. A good REPORT settles the figures (O49: R41, R52, R78, R98, R114, R117, R118). -/

namespace Sys2Proof.Machine

section
variable {f : FeederRec} {r : Report} {still : Prop} {u q t : Pad}

/-- The confirmation of a decrease, as the pad's figures show it (R78). -/
def Pad.Confirmed (r : Report) (q t : Pad) : Prop :=
  t.decPending = (q.decPending && decide (q.sent < r.applied))
    ∧ (t.decPending = true → t.sent = q.sent ∧ t.prior = q.prior)
    ∧ (q.decPending = true → r.applied ≤ q.sent → t.prior = 0)

theorem Pad.confirmed_of (hconfirms : q.confirms r → t.decPending = false ∧ t.prior = 0)
    (hstands : ¬ q.confirms r → t.decPending = q.decPending ∧ t.sent = q.sent ∧ t.prior = q.prior) :
    Pad.Confirmed r q t := by
  by_cases h : q.confirms r
  · obtain ⟨hpending, hprior⟩ := hconfirms h
    refine ⟨?_, fun ht => (nomatch hpending.symm.trans ht), fun _ _ => hprior⟩
    rw [hpending, h.1, Bool.true_and, decide_eq_false (not_lt.mpr h.2)]
  · obtain ⟨hpending, hsent, hprior⟩ := hstands h
    refine ⟨?_, fun _ => ⟨hsent, hprior⟩, fun hd ha => absurd ⟨hd, ha⟩ h⟩
    rw [hpending]
    cases hd : q.decPending with
    | false => rfl
    | true =>
      rw [Bool.true_and, decide_eq_true (not_le.mp fun ha => h ⟨hd, ha⟩)]

/-- The figures of a pad whose session the overdraw check does not look at, where no pass walks. -/
theorem Pad.Concludes.calmly (h : Pad.Concludes r still (u.accounted f r) t) (hu : u.state.overdrawChecked = false)
    (hstill : still ∨ u.grant = 0) : t.grant = u.grant
      ∧ (u.decPending = true → r.applied ≤ u.sent → t.decPending = false ∧ t.prior = 0)
      ∧ ((u.decPending = false ∨ u.sent < r.applied) →
        t.decPending = u.decPending ∧ t.sent = u.sent ∧ t.prior = u.prior) := by
  have hsame : u.accounted f r = u.account r := Pad.overdrawn_unchecked (by rwa [Pad.account_state])
  rw [hsame, Pad.account_eq] at h
  have hunmet : ¬ ({ u with delivered := (u.account r).delivered, remaining := (u.account r).remaining } : Pad).isMet :=
    fun hm => nomatch (SessionState.served_of_unchecked hu).symm.trans hm.1
  obtain ⟨-, hgrant, hconfirms, hstands⟩ := h.calm hunmet hstill
  refine ⟨hgrant, fun hd ha => hconfirms ⟨hd, ha⟩, fun hno => hstands fun hc => ?_⟩
  rcases hno with hno | hno
  · exact nomatch hno.symm.trans hc.1
  · exact absurd hc.2 (not_le.mpr hno)

/-- The energy of a report of the vehicle seen (R114). -/
theorem Pad.Concludes.energy (h : Pad.Concludes r still (u.accounted f r) t) (hpresent : r.present = true)
    (hdocking : r.docking = u.docking) : (u.dispatch = none → t.delivered = u.delivered ∧ t.remaining = u.remaining)
      ∧ ∀ d : Dispatch, u.dispatch = some d → t.delivered = (r.energy + 65536 - d.base) % 65536
        ∧ t.remaining = d.target - (r.energy + 65536 - d.base) % 65536 := by
  have hdelivered : t.delivered = (u.account r).delivered := (congrArg Pad.delivered h.keeps).trans rfl
  have hremaining : t.remaining = (u.account r).remaining := (congrArg Pad.remaining h.keeps).trans rfl
  refine ⟨fun hnone => ?_, fun d hd => ?_⟩
  · rw [hdelivered, hremaining, Pad.account_none hnone]
    exact ⟨rfl, rfl⟩
  · rw [hdelivered, hremaining, Pad.account_some hd hpresent hdocking]
    exact ⟨rfl, rfl⟩

end

/-- What the overdraw check of a session that it looks at finds, in the words of the obligation. -/
theorem Pad.reported_overdraws {f : FeederRec} {r : Report} {q : Pad} {lim : Nat} {excess : Bool}
    (hs : q.state.overdrawChecked = true) (hlim : lim = (if q.decPending then q.prior else q.sent) + f.tolerance)
    (hexcess : excess = decide (lim < r.metered)) : ((q.reported r).account r).Overdraws f r ↔
      excess = true ∧ f.overdrawLimit ≤ q.overdraw + 1 := by
  rw [Pad.account_overdraws, hexcess, decide_eq_true_eq, hlim]
  exact ⟨fun ho => ho.2, fun ho => ⟨hs, ho⟩⟩

theorem Pad.Concludes.counted {f : FeederRec} {r : Report} {still : Prop} {q t : Pad} {lim : Nat} {excess : Bool}
    (h : Pad.Concludes r still ((q.reported r).accounted f r) t) (hs : q.state.overdrawChecked = true)
    (hlim : lim = (if q.decPending then q.prior else q.sent) + f.tolerance)
    (hexcess : excess = decide (lim < r.metered)) : t.overdraw = if excess then q.overdraw + 1 else 0 := by
  refine (h.counts hs).trans ?_
  rw [hexcess, hlim]
  simp only [decide_eq_true_eq]
  rfl

theorem not_reached {excess : Bool} {n limit : Nat} (h : excess = false ∨ n + 1 < limit) :
    ¬ (excess = true ∧ limit ≤ n + 1) := by
  rintro ⟨he, hl⟩
  rcases h with h | h
  · exact nomatch h.symm.trans he
  · exact absurd hl (not_le.mpr h)

section
variable {s b t : State} {l : LineId} {tx : Transaction} {rx : List RxChar} {p : PadId} {r : Report}
  (h : Reported s b t l tx rx p r)
include h

/-- In COMPLETE, FAULTED, PROBING and RELEASING the pad comes to the energy accounting with its dispatch. -/
theorem Reported.seen (hs : s.pads[p].state = .complete ∨ s.pads[p].state = .faulted ∨ s.pads[p].state = .probing
      ∨ s.pads[p].state = .releasing) (hpresent : r.present = true) (hdocking : r.docking = s.pads[p].docking) :
    ∃ u : Pad, Pad.Concludes r (t.alloc.fastShed = s.alloc.fastShed)
        (u.accounted (s.feederRec (s.padRec p).group) r) t.pads[p.val]
      ∧ u.docking = s.pads[p].docking ∧ u.dispatch = s.pads[p].dispatch ∧ u.delivered = s.pads[p].delivered
      ∧ u.remaining = s.pads[p].remaining := by
  rcases hs with hs | hs | hs | hs
  · exact ⟨_, h.unmoved (h.stays (.inr (.inr (.inl hs))) hpresent hdocking), rfl, rfl, rfl, rfl⟩
  · exact ⟨_, h.faulted hs, rfl, rfl, rfl, rfl⟩
  · refine ⟨_, h.probed hs hpresent hdocking, ?_⟩
    unfold Pad.probeFailed
    split
    · split
      · exact ⟨Pad.probed_docking _ _ _, Pad.probed_dispatch _ _ _, Pad.probed_delivered _ _ _,
          Pad.probed_remaining _ _ _⟩
      · exact ⟨rfl, rfl, rfl, rfl⟩
    · exact ⟨rfl, rfl, rfl, rfl⟩
  · exact ⟨_, h.unmoved (h.stays (.inr (.inr (.inr hs))) hpresent hdocking), rfl, rfl, rfl, rfl⟩

/-- In FAULTED, and in COMPLETE and PROBING short of the last attempt, a report of the vehicle seen leaves the session as
it was but for the count of the attempts. -/
theorem Reported.leaves (hs : s.pads[p].state = .faulted ∨ (r.present = true ∧ r.docking = s.pads[p].docking
      ∧ (s.pads[p].state = .complete ∨ (s.pads[p].state = .probing
        ∧ (tx.request = .poll ∨ s.pads[p].attempts + 1 < s.site.probeAttempts))))) :
    ∃ n : Nat, Pad.Concludes r (t.alloc.fastShed = s.alloc.fastShed)
      (({ (s.pads[p.val]).reported r with attempts := n } : Pad).accounted (s.feederRec (s.padRec p).group) r)
      t.pads[p.val] := by
  rcases hs with hs | ⟨hpresent, hdocking, hs | ⟨hs, hfew⟩⟩
  · exact ⟨_, h.faulted hs⟩
  · exact ⟨_, h.unmoved (h.stays (.inr (.inr (.inl hs))) hpresent hdocking)⟩
  · have hpad := h.probed hs hpresent hdocking
    split at hpad
    next hprobe =>
      have hagain : (((s.pads[p.val]).reported r).probeFailed s.site (s.padRec p).assumeDefault) =
          ((s.pads[p.val]).reported r).attempted := by
        refine if_neg (not_le.mpr (hfew.resolve_left fun hpoll => ?_))
        exact nomatch hpoll.symm.trans hprobe
      rw [hagain] at hpad
      exact ⟨_, hpad⟩
    · exact ⟨_, hpad⟩

end

/-- Settles O49. -/
theorem reportSettlesTheFigures : Obligations.ReportSettlesTheFigures := by
  refine ⟨fun l tx rx p r s lim f excess hreaches hr hs hpresent hdocking hf hlim hexcess => ?_,
    fun l tx rx p r s lim f excess hreaches hr hs hpresent hdocking hf hlim hexcess => ?_,
    fun l tx rx p r s x hreaches hr hs hx => ?_⟩
  · obtain ⟨b, t, hexec, h⟩ := report_reaches hreaches hr
    have hsame := h.stays (by tauto) hpresent hdocking
    have hpad := h.unmoved hsame
    have hmet := h.met
    have hcaptured := h.captured hsame
    rw [hsame, h.before] at hmet
    rw [← hf] at hpad hmet hcaptured
    have hchecked : s.pads[p.val].state.overdrawChecked = true := by
      rcases hs with hs | hs <;> rw [Fin.getElem_fin] at hs <;> rw [hs] <;> rfl
    have hserved : s.pads[p.val].state.served = true := by
      rcases hs with hs | hs <;> rw [Fin.getElem_fin] at hs <;> rw [hs] <;> rfl
    have hover := Pad.reported_overdraws (r := r) hchecked hlim hexcess
    have hcount := hpad.counted hchecked hlim hexcess
    have hno (hspared : excess = false ∨ s.pads[p].overdraw + 1 < f.overdrawLimit) :=
      mt hover.mp (not_reached hspared)
    obtain ⟨hidle, henergy⟩ := hpad.energy hpresent hdocking
    refine ⟨t, hexec, h.elsewhere, h.line, hpad.sample, henergy, fun he => ?_, fun he => ?_, fun he hlimit => ?_,
      fun hspared => ⟨fun d hd hfull => ?_, fun hopen hstill => ?_⟩⟩
    · exact hcount.trans (by rw [he]; rfl)
    · exact hcount.trans (by rw [he]; rfl)
    · obtain ⟨hstate, hfault, hgrant, hsent, -, hpending⟩ := hpad.faults (hover.mpr ⟨he, hlimit⟩)
      exact ⟨hstate, hfault, hgrant, hsent, hpending, hcaptured (hover.mpr ⟨he, hlimit⟩)⟩
    · have hdone : (((s.pads[p.val]).reported r).accounted f r).isMet := by
        have haccount := Pad.account_some (q := (s.pads[p.val]).reported r) hd hpresent hdocking
        rw [Pad.accounted, Pad.overdrawn_spares (hno hspared), haccount]
        exact ⟨hserved, (congrArg Option.isSome hd).trans rfl, Nat.sub_eq_zero_of_le hfull⟩
      obtain ⟨hstate, hgrant, hsent⟩ := hpad.met hdone
      exact ⟨hstate, hgrant, hsent, hmet hdone⟩
    · have hgoes := hpad.spared (hno hspared)
      have hunmet : ¬ ({ ((s.pads[p.val]).reported r).account r with overdraw := (t.pads[p.val]).overdraw } : Pad).isMet := by
        rintro ⟨-, hsome, hleft⟩
        rw [Pad.account_eq] at hsome
        obtain ⟨d, hd⟩ := Option.isSome_iff_exists.mp hsome
        rw [Pad.account_some (q := (s.pads[p.val]).reported r) hd hpresent hdocking] at hleft
        exact absurd hleft (Nat.sub_ne_zero_of_lt (hopen d hd))
      obtain ⟨hstate, hgrant, hconfirms, hstands⟩ := hgoes.calm hunmet (.inl hstill)
      have hconfirmed := Pad.confirmed_of hconfirms hstands
      rw [Pad.account_eq] at hstate hgrant hconfirmed
      exact ⟨hstate, hgrant, hconfirmed⟩
  · obtain ⟨b, t, hexec, h⟩ := report_reaches hreaches hr
    have hsame := h.stays (by tauto) hpresent hdocking
    have hpad := h.unmoved hsame
    have hcaptured := h.captured hsame
    rw [← hf] at hpad hcaptured
    have hchecked : s.pads[p.val].state.overdrawChecked = true := by
      rw [Fin.getElem_fin] at hs
      rw [hs]
      rfl
    have hover := Pad.reported_overdraws (r := r) hchecked hlim hexcess
    refine ⟨t, hexec, h.elsewhere, h.line, hpad.counted hchecked hlim hexcess, fun he hlimit => ?_, fun hspared => ?_⟩
    · obtain ⟨hstate, hfault, hgrant, hsent, -, hpending⟩ := hpad.faults (hover.mpr ⟨he, hlimit⟩)
      exact ⟨hstate, hfault, hgrant, hsent, hpending, hcaptured (hover.mpr ⟨he, hlimit⟩)⟩
    · have hno := mt hover.mp (not_reached hspared)
      have hgoes := hpad.spared hno
      have hserved : (((s.pads[p.val]).reported r).account r).state.served = false := by
        rw [Pad.account_state]
        exact (congrArg SessionState.served hs).trans rfl
      have hstate : (t.pads[p]).state = .releasing :=
        (hgoes.unserved hserved).trans ((Pad.account_state r _).trans hs)
      have hfault : (t.pads[p]).fault = s.pads[p].fault := by
        refine (congrArg Pad.fault hgoes.rest).trans ?_
        rw [Pad.account_eq]
        rfl
      refine ⟨hstate, hfault, fun hstill => ?_⟩
      obtain ⟨-, hgrant, hconfirms, hstands⟩ :=
        hgoes.calm (fun hm => nomatch hserved.symm.trans hm.1) (.inl hstill)
      have hconfirmed := Pad.confirmed_of hconfirms hstands
      rw [Pad.account_eq] at hgrant hconfirmed
      exact ⟨hgrant, hconfirmed⟩
  · obtain ⟨b, t, hexec, h⟩ := report_reaches hreaches hr
    refine ⟨t, hexec, h.elsewhere, h.line, fun hpresent hdocking => ?_, fun hfaulted hother => ?_, fun hquiet => ?_⟩
    · obtain ⟨u, hpad, hsame, hdispatch, hdelivered, hremaining⟩ := h.seen (hs ▸ hx) hpresent hdocking
      have henergy := hpad.energy hpresent (hdocking.trans hsame.symm)
      rw [hdispatch, hdelivered, hremaining] at henergy
      exact ⟨(congrArg Pad.dispatch hpad.keeps).trans hdispatch, henergy⟩
    · have hpad := h.faulted (hs.trans hfaulted)
      have haccount := Pad.account_absent (r := r) (q := (s.pads[p.val]).reported r) hother
      have hkeeps := hpad.keeps
      rw [haccount] at hkeeps
      exact ⟨(congrArg Pad.delivered hkeeps).trans rfl, (congrArg Pad.remaining hkeeps).trans rfl⟩
    · obtain ⟨n, hpad⟩ := h.leaves (by rwa [hs])
      have hunchecked : s.pads[p].state.overdrawChecked = false := by
        rw [hs]
        rcases hquiet with hx | ⟨-, -, hx | ⟨hx, -⟩⟩ <;> rw [hx] <;> rfl
      have hkeeps := hpad.keeps
      obtain ⟨hstate, hfault, hoverdraw⟩ := hpad.rests hunchecked
      exact ⟨hstate.trans hs, hfault, (congrArg Pad.docking hkeeps).trans rfl, (congrArg Pad.dispatch hkeeps).trans rfl,
        (congrArg Pad.caps hkeeps).trans rfl, hoverdraw, (congrArg Pad.reservation hkeeps).trans rfl,
        hpad.calmly hunchecked⟩

end Sys2Proof.Machine

/-! PROOFS. The last discovery mark: the end of a line's poll (R144, R173, R174). -/

namespace Sys2Proof.Machine

/-! ## What the start of a sweep depends on -/

/-- `x` and `s` agree in everything that the start of a sweep reads or changes. -/
structure SweepAlike (s x : State) : Prop where
  pads : x.pads = s.pads
  groups : x.groups = s.groups
  tables : x.tables = s.tables
  alloc : x.alloc = s.alloc
  notices : x.notices = s.notices
  fleet : x.fleet = s.fleet
  running : x.time.running = s.time.running
  resolution : x.mode.resolution = s.mode.resolution

/-- `s` with what the start of a sweep changes taken from `t`. -/
def State.sweptAs (s t : State) : State :=
  { s with pads := t.pads, alloc := t.alloc, notices := t.notices, fleet := t.fleet }

section
variable {s x : State}

theorem raise_alike (k : Notice) (hn : x.notices = s.notices) (hf : x.fleet = s.fleet) :
    raise k x = { x with notices := (raise k s).notices, fleet := (raise k s).fleet } := by
  cases h : s.notices.pendingSet.getLsbD k.number with
  | true =>
    rw [raise_of_pending h, raise_of_pending (s := x) (by rw [hn]; exact h), ← hn, ← hf]
  | false =>
    rw [raise_new h, raise_new (s := x) (by rw [hn]; exact h)]
    simp only [hn, hf]
    rfl

theorem SweepAlike.raiseIf (h : SweepAlike s x) (b : Bool) (k : Notice) :
    SweepAlike (raiseIf b k s) (raiseIf b k x) := by
  cases b with
  | false => exact h
  | true =>
    have hraise := raise_alike k h.notices h.fleet
    have hself := raise_eq k s
    change SweepAlike (raise k s) (raise k x)
    rw [hraise]
    exact ⟨h.pads.trans (congrArg State.pads hself).symm, h.groups.trans (congrArg State.groups hself).symm,
      h.tables.trans (congrArg State.tables hself).symm, h.alloc.trans (congrArg State.alloc hself).symm, rfl, rfl,
      h.running.trans (congrArg (fun u => u.time.running) hself).symm,
      h.resolution.trans (congrArg (fun u => u.mode.resolution) hself).symm⟩

theorem SweepAlike.mapPads (h : SweepAlike s x) (f : PadId → Pad → Pad) :
    SweepAlike (s.mapPads f) (x.mapPads f) := by
  obtain ⟨hpads, hgroups, htables, halloc, hnotices, hfleet, hrunning, hresolution⟩ := h
  exact ⟨by simp [State.mapPads, hpads], hgroups, htables, halloc, hnotices, hfleet, hrunning, hresolution⟩

theorem SweepAlike.deadlineWatch (h : SweepAlike s x) : SweepAlike (deadlineWatch s) (deadlineWatch x) := by
  unfold Machine.deadlineWatch
  simp only [h.pads, h.running]
  exact (h.mapPads _).raiseIf _ _

theorem SweepAlike.takeSnapshot (h : SweepAlike s x) : takeSnapshot x = takeSnapshot s := by
  unfold Machine.takeSnapshot
  simp only [h.pads, h.groups, h.tables, h.resolution, h.running]

theorem SweepAlike.startSweep (h : SweepAlike s x) : SweepAlike (startSweep s) (startSweep x) := by
  have hbegun := (h.mapPads fun _ q => q.countdown).deadlineWatch.mapPads fun _ q => { q with stayed := q.state.served }
  have hsnap := hbegun.takeSnapshot
  obtain ⟨hpads, hgroups, htables, halloc, hnotices, hfleet, hrunning, hresolution⟩ := hbegun
  unfold Machine.startSweep
  dsimp only
  rw [hsnap, halloc]
  exact ⟨hpads, hgroups, htables, rfl, hnotices, hfleet, hrunning, hresolution⟩

/-- Two states that agree where a sweep's start reads are left agreeing where it writes. -/
theorem startSweep_alike (h : SweepAlike s x) : startSweep x = x.sweptAs (startSweep s) := by
  obtain ⟨hpads, -, -, halloc, hnotices, hfleet, -, -⟩ := h.startSweep
  have hself : startSweep x = x.sweptAs (startSweep x) := by
    unfold State.sweptAs
    conv_rhs => rw [← startSweep_time x, ← startSweep_tables x, ← startSweep_groups x, ← startSweep_lines x,
      ← startSweep_mode x, ← startSweep_signals x, ← startSweep_freeCount x, ← startSweep_pending x]
  rw [hself, State.sweptAs, hpads, halloc, hnotices, hfleet]
  rfl

end

/-! ## A poll of the entry before, and one that clears its line's mark -/

/-- The transaction with its start put before the entry to DISCOVERING (R144). -/
def Transaction.beforeEntry (tx : Transaction) : Transaction := { tx with inDiscovery := false }

/-- The line without its discovery mark. -/
def LineCtl.unmarked (c : LineCtl) : LineCtl := { c with discovery := false }

theorem LineCtl.startBreak_unmarked (c : LineCtl) : c.unmarked.startBreak = c.startBreak.unmarked := by
  unfold LineCtl.startBreak LineCtl.unmarked
  split <;> rfl

section
variable (l : LineId) (tx : Transaction) (o : LineOutcome) (rx : List RxChar) (s : State)

theorem handedUp_beforeEntry :
    handedUp l tx.beforeEntry o rx (s.updLine l fun c => { c with inFlight := some tx.beforeEntry }) =
      handedUp l tx o rx s := by
  have habandon : ((s.updLine l fun c => { c with inFlight := some tx.beforeEntry }).lines[l]).abandon =
      (s.lines[l]).abandon := by
    simp only [Fin.getElem_fin, State.updLine_same]
  unfold handedUp
  simp only [State.updLine_updLine, habandon]
  rfl

theorem endTransaction_beforeEntry :
    endTransaction l tx.beforeEntry o rx (s.updLine l fun c => { c with inFlight := some tx.beforeEntry }) =
      (handedUp l tx o rx s).updLine l LineCtl.startBreak := by
  have hstays (u : State) : clearMark l tx.beforeEntry u = u := if_neg fun h => nomatch h.2.2.1
  rw [endTransaction_eq, hstays, handedUp_beforeEntry]

theorem endTransaction_clears (hmark : s.lines[l].discovery = true) (hslot : tx.slot = .normal)
    (hin : tx.inDiscovery = true) (habove : ∀ m : Nat, m ∈ s.members l → m ≤ tx.drop) :
    endTransaction l tx o rx s =
      (endDiscoveryIfDone ((handedUp l tx o rx s).updLine l LineCtl.unmarked)).updLine l LineCtl.startBreak := by
  have hmembers : (handedUp l tx o rx s).members l = s.members l := by
    unfold State.members State.onLine State.padRec
    rw [(quiet_handedUp l tx o rx s).tables]
    rfl
  have hline := handedUp_line l tx o rx s l
  have hstands : ((handedUp l tx o rx s).lines[l]).discovery = true := by
    rw [Fin.getElem_fin] at hmark ⊢
    rw [hline, if_pos rfl, ← hmark]
    exact LineCtl.closing_discovery o (endsLong rx) _
  rw [endTransaction_eq, clearMark, if_pos ⟨hstands, hslot, hin, by rw [hmembers]; exact noneAbove_iff.mpr habove⟩]
  rfl

/-- The marks of the other lines as the result has been handed up. -/
theorem handedUp_mark {k : LineId} (hk : k ≠ l) :
    (((handedUp l tx o rx s).updLine l LineCtl.unmarked).lines[k]).discovery = (s.lines[k]).discovery := by
  rw [Fin.getElem_fin, State.updLine_other _ _ _ _ (Ne.symm hk), handedUp_line, if_neg (Ne.symm hk)]
  rfl

theorem unmarked_then_starts (u : State) : (u.updLine l LineCtl.unmarked).updLine l LineCtl.startBreak =
    (u.updLine l LineCtl.startBreak).updLine l LineCtl.unmarked := by
  simp only [State.updLine_updLine, LineCtl.startBreak_unmarked]

theorem endTransaction_marksRemain (hmark : s.lines[l].discovery = true) (hslot : tx.slot = .normal)
    (hin : tx.inDiscovery = true) (habove : ∀ m : Nat, m ∈ s.members l → m ≤ tx.drop)
    (hother : ∃ k : LineId, k ≠ l ∧ s.lines[k].discovery = true) :
    endTransaction l tx o rx s =
      ((handedUp l tx o rx s).updLine l LineCtl.startBreak).updLine l LineCtl.unmarked := by
  obtain ⟨k, hk, hmarked⟩ := hother
  have hstays : endDiscoveryIfDone ((handedUp l tx o rx s).updLine l LineCtl.unmarked) =
      (handedUp l tx o rx s).updLine l LineCtl.unmarked := by
    refine if_neg fun hdone => ?_
    have hclear := (marksClear_iff _).mp hdone.2 k
    rw [handedUp_mark l tx o rx s hk] at hclear
    exact nomatch hclear.symm.trans hmarked
  rw [endTransaction_clears l tx o rx s hmark hslot hin habove, hstays, unmarked_then_starts]

theorem endTransaction_lastMark (hengine : s.mode.engine = .discovering) (hmark : s.lines[l].discovery = true)
    (hslot : tx.slot = .normal) (hin : tx.inDiscovery = true) (habove : ∀ m : Nat, m ∈ s.members l → m ≤ tx.drop)
    (hother : ∀ k : LineId, k ≠ l → s.lines[k].discovery = false) :
    endTransaction l tx o rx s =
      (discoveryEnd ((handedUp l tx o rx s).updLine l LineCtl.unmarked)).updLine l LineCtl.startBreak := by
  have hends : endDiscoveryIfDone ((handedUp l tx o rx s).updLine l LineCtl.unmarked) =
      discoveryEnd ((handedUp l tx o rx s).updLine l LineCtl.unmarked) := by
    refine if_pos ⟨(congrArg ModeControl.engine (quiet_handedUp l tx o rx s).mode).trans hengine,
      (marksClear_iff _).mpr fun k => ?_⟩
    by_cases hk : k = l
    · subst hk
      rw [Fin.getElem_fin, State.updLine_same]
      rfl
    · rw [handedUp_mark l tx o rx s hk]
      exact hother k hk
  rw [endTransaction_clears l tx o rx s hmark hslot hin habove, hends]

/-- DISCOVERING that ends is the expiry of the round timer in RUNNING, but for the timer's own start (R59, R173). -/
theorem discoveryEnd_expires (u x : State) (hx : x =
      (((driveOutputs (u.updLine l LineCtl.startBreak)).updLine l LineCtl.unmarked).withMode
        { u.mode with engine := .running }).withTime { u.time with timer := some 0 })
    (hsweep : u.alloc.sweep = none) (hshed : u.alloc.fastShed ≠ .running) :
    driveOutputs (timerExpiry x) =
      driveOutputs ((discoveryEnd (u.updLine l LineCtl.unmarked)).updLine l LineCtl.startBreak) := by
  have hexpires : timerExpiry x = startSweep (startTimer x) := by
    subst hx
    refine (if_pos ⟨rfl, rfl, ?_⟩).trans (if_neg hshed)
    exact Option.isNone_iff_eq_none.mpr hsweep
  have halike : SweepAlike ((u.updLine l LineCtl.unmarked).withMode { u.mode with engine := .running })
      (startTimer x) := by
    subst hx
    exact ⟨rfl, rfl, rfl, rfl, rfl, rfl, rfl, rfl⟩
  have hself : SweepAlike ((u.updLine l LineCtl.unmarked).withMode { u.mode with engine := .running })
      ((u.updLine l LineCtl.unmarked).withMode { u.mode with engine := .running }) :=
    ⟨rfl, rfl, rfl, rfl, rfl, rfl, rfl, rfl⟩
  have hlines := congrArg State.lines (unmarked_then_starts l u)
  rw [hexpires, startSweep_alike halike, discoveryEnd]
  conv_rhs => rw [State.updLine_mode, startSweep_alike hself]
  generalize startSweep ((u.updLine l LineCtl.unmarked).withMode { u.mode with engine := .running }) = v
  subst hx
  exact congrArg (fun c : Vector LineCtl 4 => driveOutputs
    ((startTimer ((u.withMode { u.mode with engine := .running }).sweptAs v)).withLines c)) hlines.symm

end

/-! ## The end of the poll -/

section
variable {l : LineId} {tx : Transaction} {rx : List RxChar} {s : State} {c : Instr}

theorem exec_beforeEntry (h : endsTransaction c l rx) :
    exec c (s.withLines (s.lines.set l { s.lines[l] with inFlight := some { tx with inDiscovery := false } })) =
      .next (driveOutputs ((handedUp l tx (classify tx rx) rx s).updLine l LineCtl.startBreak)) := by
  have hflight : ((s.updLine l fun c => { c with inFlight := some tx.beforeEntry }).lines[l]).inFlight =
      some tx.beforeEntry := by
    rw [Fin.getElem_fin, State.updLine_same]
  rw [← endTransaction_beforeEntry]
  exact exec_endsTransaction hflight h

theorem endTransaction_discovery (o : LineOutcome) (hslot : tx.slot = .normal) (hin : tx.inDiscovery = true)
    (habove : ∀ m : Nat, m ∈ s.members l → m ≤ tx.drop) :
    ((endTransaction l tx o rx s).lines[l]).discovery = false := by
  have hclears : s.clears l tx = true := by
    rw [clears_eq, hslot, hin, decide_eq_true habove]
    rfl
  rw [Fin.getElem_fin, endTransaction_line, LineCtl.startBreak_eq, hclears]
  exact Bool.and_false _

theorem endTransaction_running (o : LineOutcome) : (endTransaction l tx o rx s).time.running = s.time.running := by
  have hmark (u : State) : (clearMark l tx u).time.running = u.time.running := by
    unfold clearMark
    split
    · rcases endDiscoveryIfDone_cases (u.updLine l fun c => { c with discovery := false }) with h | ⟨-, -, h⟩
      · rw [h]
        rfl
      · rw [h, discoveryEnd_time]
        rfl
    · rfl
  exact (hmark _).trans (congrArg TimeBase.running (quiet_handedUp l tx o rx s).time)

theorem endTransaction_otherMark (o : LineOutcome) {k : LineId} (hk : k ≠ l) :
    ((endTransaction l tx o rx s).lines[k]).discovery = (s.lines[k]).discovery := by
  rw [Fin.getElem_fin, endTransaction_other l tx o rx s k (Ne.symm hk)]
  rfl

/-- The end of DISCOVERING at the end of a poll (R173, R174). -/
theorem lastMark_ends (o : LineOutcome) (hengine : s.mode.engine = .discovering) (hmark : s.lines[l].discovery = true)
    (hslot : tx.slot = .normal) (hin : tx.inDiscovery = true) (habove : ∀ m : Nat, m ∈ s.members l → m ≤ tx.drop)
    (hother : ∀ k : LineId, k ≠ l → s.lines[k].discovery = false) :
    (endTransaction l tx o rx s).mode = { s.mode with engine := .running }
    ∧ (endTransaction l tx o rx s).alloc.sweep.isSome = true
    ∧ (endTransaction l tx o rx s).time.timer = some s.site.period := by
  have hquiet := quiet_handedUp l tx o rx s
  have hmode : (handedUp l tx o rx s).mode = s.mode := hquiet.mode
  have hsite : (handedUp l tx o rx s).site = s.site := by
    rw [State.site, hquiet.tables]
    rfl
  rw [endTransaction_lastMark l tx o rx s hengine hmark hslot hin habove hother]
  refine ⟨?_, discoveryEnd_sweep _, ?_⟩
  · rw [State.updLine_mode, discoveryEnd_mode, State.updLine_mode, hmode]
  · rw [State.updLine_time, discoveryEnd_time, ← hsite]
    rfl

end

end Sys2Proof.Machine

/-! PROOFS. The last discovery mark: the end of a commit check (R144, R173, R174, R178). -/

namespace Sys2Proof.Machine

/-! ## The records that an activation changes -/

section
variable (s : State)

theorem recordStays_line (i : InputId) :
    s.recordStays .line i.val = !inputChanged s.tables.active s.tables.shadow i := by
  have hi : i.val < 16 := by omega
  simp only [State.recordStays, Bank.record, dif_pos hi, inputChanged, bne, Bool.not_not]
  rw [Bool.eq_iff_iff, beq_iff_eq, beq_iff_eq, Vector.toList_inj]
  exact eq_comm

theorem recordStays_feeder (g : GroupId) :
    s.recordStays .feeder g.val = !feederChanged s.tables.active s.tables.shadow g := by
  have hg : g.val < 8 := g.isLt
  simp only [State.recordStays, Bank.record, dif_pos hg, feederChanged, bne, Bool.not_not]
  rw [Bool.eq_iff_iff, beq_iff_eq, beq_iff_eq, Vector.toList_inj]
  exact eq_comm

end

/-- A STOP input enters its active level when the shadow bank takes the active bank's place (R178, R196). -/
def State.stopEnters (s : State) : Prop :=
  ∃ i : InputId, s.recordStays .line i.val = false ∧ (s.tables.shadow.inputRec i).function = .stop
    ∧ (s.tables.shadow.inputRec i).sense.activeLevel = some s.signals.taken[i]

/-- The shadow bank has a member of line `l` at drop `d`. -/
def State.shadowMember (s : State) (l : LineId) (d : Nat) : Prop :=
  ∃ p : PadId, (s.tables.shadow.padRec p).enabled = true ∧ (s.tables.shadow.padRec p).line = l
    ∧ (s.tables.shadow.padRec p).drop = d

/-- The discovery mark of line `l` stands when the shadow bank takes the active bank's place (R144). -/
def State.markStands (s : State) (l : LineId) : Prop :=
  s.lines[l].discovery = true ∧ (∃ d : Nat, s.shadowMember l d)
    ∧ ((∃ tx : Transaction, s.lines[l].inFlight = some tx ∧ tx.slot = .normal) ∨ s.lines[l].position = none
      ∨ ∃ k d : Nat, s.lines[l].position = some k ∧ s.shadowMember l d ∧ k < d)

/-! ## The state in which an activation looks at its stop inputs and at the marks -/

/-- The state of an activation after its fast-shed check, before a stop input acts (R18 to R23, R81). -/
def State.activatedChecked (s : State) : State := fastShedCheck (activateBanks s)

theorem activate_checked (s : State) : activate false s =
    activateMarks (haltIfStopped s.tables.active s.tables.shadow s.activatedChecked) := rfl

section
variable {s : State}

theorem activatedChecked_tables : s.activatedChecked.tables =
    { s.tables with active := s.tables.shadow, loaded := Vector.replicate 4 true, commit := .idle } :=
  (calm_fastShedCheck _).tables.trans (activateBanks_tables s)

theorem activatedChecked_time : s.activatedChecked.time = s.time :=
  (calm_fastShedCheck _).time.trans (activateBanks_time s)

theorem activatedChecked_engine : s.activatedChecked.mode.engine = s.mode.engine := by
  rw [State.activatedChecked, (calm_fastShedCheck _).mode, activateBanks_mode]

theorem activatedChecked_sweep : s.activatedChecked.alloc.sweep = s.alloc.sweep := by
  rw [State.activatedChecked, (calm_fastShedCheck _).alloc, activateBanks_alloc]

theorem activatedChecked_taken : s.activatedChecked.signals.taken = s.signals.taken := by
  rw [State.activatedChecked, (calm_fastShedCheck _).signals]
  simp [activateBanks]

theorem activatedChecked_line (l : LineId) : s.activatedChecked.lines[l.val] =
    { s.lines[l.val] with
      urgent := (s.activatedChecked.lines[l.val]).urgent, final := ((activateBanks s).lines[l.val]).final } := by
  have hchecked := (calm_fastShedCheck (activateBanks s)).lines l
  have hbanks := activateBanks_line s l
  simp only [Fin.getElem_fin] at hchecked
  unfold State.activatedChecked
  generalize ((fastShedCheck (activateBanks s)).lines[l.val]).urgent = u at *
  rw [hchecked, hbanks]

theorem activatedChecked_members {l : LineId} {d : Nat} : d ∈ s.activatedChecked.members l ↔ s.shadowMember l d := by
  rw [mem_members, State.shadowMember]
  simp only [State.padRec, activatedChecked_tables]

theorem stopActivated_iff : stopActivated s.tables.active s.tables.shadow s.activatedChecked = true ↔
    s.stopEnters := by
  have hrec (i : InputId) : s.activatedChecked.inputRec i = s.tables.shadow.inputRec i := by
    rw [State.inputRec, activatedChecked_tables]
  unfold State.stopEnters
  simp only [stopActivated, List.any_eq_true, Bool.and_eq_true, beq_iff_eq, entersLevel_iff, hrec,
    activatedChecked_taken, ← activeLevel_eq_some, recordStays_line, Bool.not_eq_false']
  constructor
  · rintro ⟨i, -, ⟨hchanged, hstop⟩, -, hlevel⟩
    exact ⟨i, hchanged, hstop, hlevel⟩
  · rintro ⟨i, hchanged, hstop, hlevel⟩
    exact ⟨i, List.mem_finRange i, ⟨hchanged, hstop⟩, by simp [hstop], hlevel⟩

end

/-! ## The marks at an activation (R144) -/

theorem activateMark_eq (ms : List Nat) (c : LineCtl) : (c.activateMark ms).discovery = (c.discovery &&
    !(ms.isEmpty || (c.inFlight.all fun tx => tx.slot != .normal) && c.position.any (noneAbove ms))) := by
  have hcases : c.activateMark ms = if c.discovery ∧ (ms.isEmpty ∨ ((c.inFlight.all fun tx => tx.slot != .normal)
      ∧ c.position.any (noneAbove ms))) then { c with discovery := false } else c := by
    unfold LineCtl.activateMark
    cases c.inFlight <;> cases c.position <;> rfl
  have hclears : (ms.isEmpty || (c.inFlight.all fun tx => tx.slot != .normal) && c.position.any (noneAbove ms)) = true ↔
      ms.isEmpty = true ∨ ((c.inFlight.all fun tx => tx.slot != .normal) = true
        ∧ c.position.any (noneAbove ms) = true) := by
    rw [Bool.or_eq_true, Bool.and_eq_true]
  rw [hcases]
  split
  next h => rw [hclears.mpr h.2, Bool.not_true, Bool.and_false]
  next h =>
    cases hd : c.discovery with
    | false => rfl
    | true => rw [Bool.eq_false_iff.mpr fun hc => h ⟨hd, hclears.mp hc⟩, Bool.not_false, Bool.and_true]

/-- A line's mark stands at an activation while the line has a member, and a normal poll is in flight, no position is
held or a member lies above it. -/
theorem activateMark_discovery (ms : List Nat) (c : LineCtl) : (c.activateMark ms).discovery = true ↔
    c.discovery = true ∧ (∃ d : Nat, d ∈ ms) ∧ ((∃ tx : Transaction, c.inFlight = some tx ∧ tx.slot = .normal)
      ∨ c.position = none ∨ ∃ k d : Nat, c.position = some k ∧ d ∈ ms ∧ k < d) := by
  have hnormal : (c.inFlight.all fun tx => tx.slot != .normal) = false ↔
      ∃ tx : Transaction, c.inFlight = some tx ∧ tx.slot = .normal := by
    cases c.inFlight <;> simp
  have hpast : c.position.any (noneAbove ms) = false ↔
      c.position = none ∨ ∃ k d : Nat, c.position = some k ∧ d ∈ ms ∧ k < d := by
    cases c.position <;> simp [noneAbove]
  rw [activateMark_eq, Bool.and_eq_true, Bool.not_eq_true', Bool.or_eq_false_iff, Bool.and_eq_false_iff, hnormal,
    hpast, List.isEmpty_eq_false_iff_exists_mem]

section
variable {s : State}

theorem activateMarks_line (hengine : s.mode.engine = .discovering) (hmarks : s.marksClear = false) (l : LineId) :
    ((activateMarks s).lines[l]).discovery = ((s.lines[l]).activateMark (s.members l)).discovery := by
  rw [activateMarks, if_pos ⟨hengine, hmarks⟩, endDiscoveryIfDone_lines, Fin.getElem_fin, State.mapLines_get]
  rfl

theorem activateMarks_stands (hengine : s.mode.engine = .discovering) (hmarks : s.marksClear = false)
    (h : ∃ l : LineId, ((activateMarks s).lines[l]).discovery = true) :
    activateMarks s = s.mapLines fun l c => c.activateMark (s.members l) := by
  obtain ⟨l, hl⟩ := h
  rw [activateMarks, if_pos ⟨hengine, hmarks⟩] at hl ⊢
  refine if_neg fun hdone => ?_
  have hclear := (marksClear_iff _).mp hdone.2 l
  rw [endDiscoveryIfDone_lines] at hl
  exact nomatch hclear.symm.trans hl

theorem activateMarks_ends (hengine : s.mode.engine = .discovering) (hmarks : s.marksClear = false)
    (h : ∀ l : LineId, ((activateMarks s).lines[l]).discovery = false) :
    activateMarks s = discoveryEnd (s.mapLines fun l c => c.activateMark (s.members l)) := by
  rw [activateMarks, if_pos ⟨hengine, hmarks⟩] at h ⊢
  refine if_pos ⟨hengine, (marksClear_iff _).mpr fun l => ?_⟩
  have hl := h l
  rwa [endDiscoveryIfDone_lines] at hl

end

/-! ## The end of a commit check in DISCOVERING -/

section
variable {s : State}

theorem haltIfStopped_halts {old new : Bank} (hstop : stopActivated old new s = true) (h : s.mode.engine ≠ .halted) :
    haltIfStopped old new s = haltEffects s :=
  if_pos ⟨hstop, h⟩

theorem haltIfStopped_stays {old new : Bank} (hstop : stopActivated old new s ≠ true) : haltIfStopped old new s = s :=
  if_neg fun h => hstop h.1

theorem activate_stopped (hengine : s.mode.engine = .discovering)
    (hstop : stopActivated s.tables.active s.tables.shadow s.activatedChecked = true) :
    activate false s = haltEffects s.activatedChecked := by
  rw [activate_checked, haltIfStopped_halts hstop (by rw [activatedChecked_engine, hengine]; nofun)]
  refine activateMarks_of_not_discovering _ ?_
  rw [(haltEffects_engine _).1]
  nofun

theorem activate_unstopped (hstop : stopActivated s.tables.active s.tables.shadow s.activatedChecked ≠ true) :
    activate false s = activateMarks s.activatedChecked := by
  rw [activate_checked, haltIfStopped_stays hstop]

theorem activatedChecked_marks (h : ∃ l : LineId, s.lines[l].discovery = true) :
    s.activatedChecked.marksClear = false := by
  obtain ⟨l, hl⟩ := h
  refine Bool.eq_false_iff.mpr fun hclear => ?_
  have hmark := (marksClear_iff _).mp hclear l
  rw [Fin.getElem_fin, activatedChecked_line] at hmark
  exact nomatch hmark.symm.trans hl

theorem activate_halts (hengine : s.mode.engine = .discovering) (hstop : s.stopEnters) :
    (activate false s).mode.engine = .halted ∧ (activate false s).alloc.sweep = none
    ∧ (activate false s).time.timer = none ∧ ∀ l : LineId, (activate false s).lines[l].discovery = false := by
  obtain ⟨hmode, htime, halloc⟩ := haltEffects_engine s.activatedChecked
  rw [activate_stopped hengine (stopActivated_iff.mpr hstop), hmode, htime, halloc]
  refine ⟨rfl, rfl, rfl, fun l => ?_⟩
  rw [Fin.getElem_fin, haltEffects_line, LineCtl.startBreak_eq]

theorem activate_marks (hengine : s.mode.engine = .discovering) (hmarks : ∃ l : LineId, s.lines[l].discovery = true)
    (hstop : ¬ s.stopEnters) (l : LineId) : (activate false s).lines[l].discovery = true ↔ s.markStands l := by
  have hline := activatedChecked_line (s := s) l
  rw [activate_unstopped fun h => hstop (stopActivated_iff.mp h),
    activateMarks_line (activatedChecked_engine.trans hengine) (activatedChecked_marks hmarks), activateMark_discovery]
  simp only [Fin.getElem_fin, activatedChecked_members]
  rw [hline]
  exact Iff.rfl

theorem activate_marksRemain (hengine : s.mode.engine = .discovering) (hsweep : s.alloc.sweep = none)
    (hmarks : ∃ l : LineId, s.lines[l].discovery = true) (hstop : ¬ s.stopEnters) (h : ∃ l : LineId, s.markStands l) :
    (activate false s).mode.engine = .discovering ∧ (activate false s).alloc.sweep = none
    ∧ (activate false s).time = s.time := by
  obtain ⟨l, hl⟩ := h
  have hmark := (activate_marks hengine hmarks hstop l).mpr hl
  rw [activate_unstopped fun h => hstop (stopActivated_iff.mp h)] at hmark ⊢
  rw [activateMarks_stands (activatedChecked_engine.trans hengine) (activatedChecked_marks hmarks) ⟨l, hmark⟩]
  exact ⟨activatedChecked_engine.trans hengine, activatedChecked_sweep.trans hsweep, activatedChecked_time⟩

theorem activate_marksEnd (hengine : s.mode.engine = .discovering)
    (hmarks : ∃ l : LineId, s.lines[l].discovery = true) (hstop : ¬ s.stopEnters) (h : ∀ l : LineId, ¬ s.markStands l) :
    (activate false s).mode.engine = .running ∧ (activate false s).alloc.sweep.isSome = true
    ∧ (activate false s).time = { s.time with timer := some (siteView s.tables.shadow.site).period } := by
  have hclear (l : LineId) : (activate false s).lines[l].discovery = false :=
    Bool.eq_false_iff.mpr fun hl => h l ((activate_marks hengine hmarks hstop l).mp hl)
  rw [activate_unstopped fun h => hstop (stopActivated_iff.mp h)] at hclear ⊢
  rw [activateMarks_ends (activatedChecked_engine.trans hengine) (activatedChecked_marks hmarks) hclear,
    discoveryEnd_mode, discoveryEnd_time]
  refine ⟨rfl, discoveryEnd_sweep _, ?_⟩
  rw [State.mapLines_time, activatedChecked_time, State.site, State.mapLines_tables, activatedChecked_tables]

end

/-! ## The bank that passes its check -/

/-- `a` is `s` with the bank that has passed its check PENDING and the response queued (R12, R15). -/
structure CheckPassed (s a : State) : Prop where
  tables : a.tables = { s.tables with commit := .pending }
  pads : a.pads = s.pads
  groups : a.groups = s.groups
  lines : a.lines = s.lines
  alloc : a.alloc = s.alloc
  mode : a.mode = s.mode
  time : a.time = s.time
  signals : a.signals = s.signals

theorem exec_checkPassed {tag : Byte} {s : State} (hc : s.tables.commit = .checking (crc s.tables.shadow.bytes) tag)
    (hv : validate s.tables.shadow = none) (hsweep : s.alloc.sweep = none) (hshed : s.alloc.fastShed ≠ .running) :
    ∃ a : State, exec .commitCheckEnd s = .next (driveOutputs (activate false a)) ∧ CheckPassed s a :=
  ⟨_, congrArg (fun u => Host.Outcome.next (driveOutputs u)) (endCheck_passes s tag hc hv hsweep hshed),
    ⟨rfl, rfl, rfl, rfl, rfl, rfl, rfl, rfl⟩⟩

section
variable {s a : State}

theorem CheckPassed.recordStays (h : CheckPassed s a) (x : TableId) (i : Nat) :
    a.recordStays x i = s.recordStays x i := by
  simp only [State.recordStays, h.tables]

theorem CheckPassed.stopEnters (h : CheckPassed s a) : a.stopEnters ↔ s.stopEnters := by
  simp only [State.stopEnters, h.recordStays, h.tables, h.signals]

theorem CheckPassed.markStands (h : CheckPassed s a) (l : LineId) : a.markStands l ↔ s.markStands l := by
  simp only [State.markStands, State.shadowMember, h.tables, h.lines]

end

/-- The expiry of the round timer brings what the end of DISCOVERING at a poll's end brings (R59, R173). -/
theorem exec_expiry (l : LineId) (h : State) (hsweep : h.alloc.sweep = none) (hshed : h.alloc.fastShed ≠ .running) :
    let u := driveOutputs (h.updLine l LineCtl.startBreak)
    exec .roundTimerExpiry
      (((u.withLines (u.lines.set l { u.lines[l] with discovery := false })).withMode
        { u.mode with engine := .running }).withTime { u.time with timer := some 0 }) =
      .next (driveOutputs ((discoveryEnd (h.updLine l LineCtl.unmarked)).updLine l LineCtl.startBreak)) :=
  congrArg Host.Outcome.next (discoveryEnd_expires l h _ rfl hsweep hshed)

/-- Settles O52. -/
theorem lastMarkEndsDiscovery : Obligations.LastMarkEndsDiscovery := by
  constructor
  · intro l tx rx s c hflight hends hengine hmark hslot hin habove
    refine ⟨_, _, exec_endsTransaction hflight hends, exec_beforeEntry hends,
      endTransaction_discovery _ hslot hin habove, ?_, ?_, fun k hk => endTransaction_otherMark _ hk,
      fun hother => ?_, fun hother => ?_⟩
    · exact endTransaction_tables l tx _ rx s
    · exact endTransaction_running _
    · obtain ⟨hmode, hsweep, htimer⟩ := lastMark_ends (rx := rx) (classify tx rx) hengine hmark hslot hin habove hother
      refine ⟨hmode, hsweep, htimer, fun hnone hshed => ?_⟩
      rw [endTransaction_lastMark l tx _ rx s hengine hmark hslot hin habove hother]
      exact exec_expiry l _ hnone hshed
    · have hquiet := quiet_handedUp l tx (classify tx rx) rx s
      rw [endTransaction_marksRemain l tx _ rx s hmark hslot hin habove hother]
      exact ⟨hquiet.mode, (congrArg Alloc.sweep hquiet.alloc).trans rfl, hquiet.time, rfl⟩
  · intro tag s hc hv hsweep hshed hengine hmarks
    obtain ⟨a, hexec, ha⟩ := exec_checkPassed hc hv hsweep hshed
    have hengine' : a.mode.engine = .discovering := by rw [ha.mode, hengine]
    have hmarks' : ∃ l : LineId, a.lines[l].discovery = true := by simpa only [ha.lines] using hmarks
    have hsweep' : a.alloc.sweep = none := by rw [ha.alloc, hsweep]
    have hremain := activate_marksRemain hengine' hsweep' hmarks'
    have hends := activate_marksEnd hengine' hmarks'
    have hhalts := activate_halts hengine'
    have hline := activate_marks hengine' hmarks'
    simp only [ha.stopEnters, ha.markStands, ha.tables, ha.time] at hhalts hline hremain hends
    generalize activate false a = t at *
    exact ⟨_, hexec, hhalts, fun hstop => ⟨hline hstop, hremain hstop, hends hstop⟩⟩

end Sys2Proof.Machine

/-! PROOFS. An activation at the pads (R19, R29, R33). -/

namespace Sys2Proof.Machine

/-! ## What may follow the copy of a bank at one pad -/

/-- `t` is pad `q` after falls of its figures, an entry to HALTED or the start of a sweep. -/
structure Pad.Lapses (q t : Pad) : Prop where
  rest : t = { q with
    state := t.state, grant := t.grant, sent := t.sent, prior := t.prior, decPending := t.decPending
    reservation := t.reservation, roundsLeft := t.roundsLeft, dispatch := t.dispatch, stayed := t.stayed }
  state : q.state.served = false → t.state = q.state
  grant : t.grant ≤ q.grant
  idle : q.Idle → t.Idle
  rounds : q.roundsLeft = 0 → t.roundsLeft = 0
  dispatch : q.dispatch = none → t.dispatch = none

section
variable {q r t : Pad}

theorem Pad.Lapses.trans (h : q.Lapses r) (h' : r.Lapses t) : q.Lapses t where
  rest := by rw [h'.rest, h.rest]
  state hq := (h'.state (by rwa [h.state hq])).trans (h.state hq)
  grant := h'.grant.trans h.grant
  idle := h'.idle ∘ h.idle
  rounds := h'.rounds ∘ h.rounds
  dispatch := h'.dispatch ∘ h.dispatch

theorem Pad.Lapses.refl (q : Pad) : q.Lapses q := ⟨rfl, fun _ => rfl, le_rfl, id, id, id⟩

theorem Pad.Fall.lapses (h : q.Fall t) : q.Lapses t where
  rest := by rw [h.rest]
  state hq := by
    rcases h.state with hs | ⟨hserved, -, -⟩
    · exact hs
    · exact nomatch hq.symm.trans hserved
  grant := h.grant
  idle := h.idle
  rounds hq := (congrArg Pad.roundsLeft h.rest).trans hq
  dispatch hq := (congrArg Pad.dispatch h.rest).trans hq

theorem Pad.lapses_halt (q : Pad) : q.Lapses q.halt := by
  rw [Pad.halt_eq]
  refine ⟨rfl, fun hq => if_neg fun hc => ?_, Nat.zero_le _, fun _ => ⟨rfl, rfl, rfl, rfl, rfl⟩, fun _ => rfl, id⟩
  rw [hc] at hq
  exact nomatch hq

theorem Pad.lapses_atSweepStart (now : Ticks) (q : Pad) : q.Lapses (q.atSweepStart now) := by
  have hdispatch := (Pad.atSweepStart_dispatch now q).mpr
  have hle := Pad.countdown_reservation_le q
  have hrounds (h : q.roundsLeft = 0) : q.countdown.roundsLeft = 0 := (congrArg Pad.roundsLeft (if_pos h)).trans h
  rw [Pad.atSweepStart_eq] at hdispatch ⊢
  exact ⟨rfl, fun _ => rfl, le_rfl, fun h => ⟨h.grant, h.sent, h.prior, h.decPending,
    Nat.le_zero.mp (h.reservation ▸ hle)⟩, hrounds, hdispatch⟩

end

section
variable (s : State) (p : PadId)

theorem lapses_haltIfStopped (old new : Bank) : (s.pads[p.val]).Lapses (haltIfStopped old new s).pads[p.val] := by
  unfold haltIfStopped
  split
  · rw [show (haltEffects s).pads[p.val] = (s.pads[p.val]).halt by simp [haltEffects]]
    exact Pad.lapses_halt _
  · exact .refl _

theorem lapses_endDiscoveryIfDone : (s.pads[p.val]).Lapses (endDiscoveryIfDone s).pads[p.val] := by
  rcases endDiscoveryIfDone_cases s with h | ⟨-, -, h⟩
  · rw [h]
    exact .refl _
  · rw [h]
    have hpad := startSweep_get (s.withMode { s.mode with engine := .running }) p
    exact hpad ▸ Pad.lapses_atSweepStart _ _

theorem lapses_activateMarks : (s.pads[p.val]).Lapses (activateMarks s).pads[p.val] := by
  unfold activateMarks
  split
  · exact lapses_endDiscoveryIfDone (s.mapLines fun l c => c.activateMark (s.members l)) p
  · exact .refl _

/-- A pad at the end of an activation: its part of the copy, and what may follow (R19). -/
theorem activate_lapses : ((s.pads[p.val]).activated (classOf s.tables.active s.tables.shadow p)
    (keepsSample s.tables.active s.tables.shadow p)).Lapses (activate false s).pads[p.val] := by
  have hchecked := (calm_fastShedCheck (activateBanks s)).others p nofun
  rw [activate_checked]
  exact ((activateBanks_get s p).lapses.trans hchecked.lapses).trans
    ((lapses_haltIfStopped _ p _ _).trans (lapses_activateMarks _ p))

end

/-! ## The classes (R19) -/

section
variable {s : State} {p : PadId}

theorem leavesAddress_iff : s.leavesAddress p = true ↔ (s.padRec p).enabled = true
    ∧ ((s.tables.shadow.padRec p).enabled = true → ¬ ((s.padRec p).line = (s.tables.shadow.padRec p).line
      ∧ (s.padRec p).drop = (s.tables.shadow.padRec p).drop)) := by
  unfold State.leavesAddress
  cases (s.tables.shadow.padRec p).enabled <;> simp [imp_iff_not_or]

theorem staysAtAddress_iff : s.staysAtAddress p = true ↔ (s.padRec p).enabled = true
    ∧ (s.tables.shadow.padRec p).enabled = true
    ∧ (s.padRec p).line = (s.tables.shadow.padRec p).line ∧ (s.padRec p).drop = (s.tables.shadow.padRec p).drop := by
  unfold State.staysAtAddress
  simp only [Bool.and_eq_true, Bool.not_eq_true', ← Bool.not_eq_true, leavesAddress_iff]
  tauto

theorem classOf_disabled (h : (s.padRec p).enabled = true) (hnew : (s.tables.shadow.padRec p).enabled = false) :
    classOf s.tables.active s.tables.shadow p = .disabled := by
  have hold : (s.tables.active.padRec p).enabled = true := h
  rw [classOf, padClass, hold, hnew]

theorem classOf_moved (h : s.leavesAddress p = true) (hnew : (s.tables.shadow.padRec p).enabled = true) :
    classOf s.tables.active s.tables.shadow p = .moved := by
  obtain ⟨hold, haway⟩ := leavesAddress_iff.mp h
  have hold' : (s.tables.active.padRec p).enabled = true := hold
  rw [classOf, padClass, hold', hnew]
  exact if_neg (haway hnew)

theorem classOf_enabled (h : (s.padRec p).enabled = false) (hnew : (s.tables.shadow.padRec p).enabled = true) :
    classOf s.tables.active s.tables.shadow p = .enabled := by
  have hold : (s.tables.active.padRec p).enabled = false := h
  rw [classOf, padClass, hold, hnew]

theorem classOf_kept (h : s.staysAtAddress p = true) : classOf s.tables.active s.tables.shadow p = .kept := by
  obtain ⟨hold, hnew, haddress⟩ := staysAtAddress_iff.mp h
  have hold' : (s.tables.active.padRec p).enabled = true := hold
  rw [classOf, padClass, hold', hnew]
  exact if_pos haddress

theorem classOf_absent (h : (s.padRec p).enabled = false) (hnew : (s.tables.shadow.padRec p).enabled = false) :
    classOf s.tables.active s.tables.shadow p = .absent := by
  have hold : (s.tables.active.padRec p).enabled = false := h
  rw [classOf, padClass, hold, hnew]

theorem classOf_leaves : (classOf s.tables.active s.tables.shadow p).leaves = s.leavesAddress p := by
  cases hl : s.leavesAddress p with
  | true =>
    cases hnew : (s.tables.shadow.padRec p).enabled with
    | true => rw [classOf_moved hl hnew]; rfl
    | false => rw [classOf_disabled (leavesAddress_iff.mp hl).1 hnew]; rfl
  | false =>
    cases hold : (s.padRec p).enabled with
    | true =>
      cases hnew : (s.tables.shadow.padRec p).enabled with
      | true =>
        have hstays : s.staysAtAddress p = true := by rw [State.staysAtAddress, hold, hnew, hl]; rfl
        rw [classOf_kept hstays]
        rfl
      | false =>
        have hleaves : s.leavesAddress p = true := leavesAddress_iff.mpr ⟨hold, fun h => nomatch hnew.symm.trans h⟩
        exact nomatch hl.symm.trans hleaves
    | false =>
      cases hnew : (s.tables.shadow.padRec p).enabled with
      | true => rw [classOf_enabled hold hnew]; rfl
      | false => rw [classOf_absent hold hnew]; rfl

theorem keepsSample_iff : keepsSample s.tables.active s.tables.shadow p = true ↔
    (s.padRec p).group = (s.tables.shadow.padRec p).group
    ∧ s.recordStays .feeder (s.padRec p).group.val = true := by
  rw [recordStays_feeder, keepsSample, Bool.and_eq_true, beq_iff_eq]
  rfl

end

/-! ## The pads of each class -/

/-- What an activation leaves of a pad that is newly disabled or moved (R19, R20, R33). -/
structure Pad.Cleared (q t : Pad) : Prop where
  figures : t.Idle
  rounds : t.roundsLeft = 0
  caps : t.caps = none
  dispatch : t.dispatch = none
  energy : t.delivered = 0 ∧ t.remaining = 0
  fault : t.fault = none
  failures : t.failures = 0
  overdraw : t.overdraw = 0
  sample : t.sample = none
  stands : t.docking = q.docking ∧ t.inScope = q.inScope

section
variable {q t : Pad} {b : Bool}

theorem Pad.Lapses.cleared {x : PadClass} (h : (q.activated x b).Lapses t) (hx : x.leaves = true) : q.Cleared t := by
  have hkept := h.rest
  have hactivated : (q.activated x b).Idle ∧ (q.activated x b).roundsLeft = 0 ∧ (q.activated x b).caps = none
      ∧ (q.activated x b).dispatch = none ∧ ((q.activated x b).delivered = 0 ∧ (q.activated x b).remaining = 0)
      ∧ (q.activated x b).fault = none ∧ (q.activated x b).failures = 0 ∧ (q.activated x b).overdraw = 0
      ∧ (q.activated x b).sample = none
      ∧ ((q.activated x b).docking = q.docking ∧ (q.activated x b).inScope = q.inScope) := by
    cases x with
    | absent | enabled | kept => exact nomatch hx
    | disabled | moved => exact ⟨⟨rfl, rfl, rfl, rfl, rfl⟩, rfl, rfl, rfl, ⟨rfl, rfl⟩, rfl, rfl, rfl, rfl, rfl, rfl⟩
  obtain ⟨hidle, hrounds, hcaps, hdispatch, henergy, hfault, hfailures, hoverdraw, hsample, hstands⟩ := hactivated
  generalize q.activated x b = u at *
  rw [hkept]
  exact
    { figures := hkept ▸ h.idle hidle
      rounds := h.rounds hrounds
      caps := hcaps
      dispatch := h.dispatch hdispatch
      energy := henergy
      fault := hfault
      failures := hfailures
      overdraw := hoverdraw
      sample := hsample
      stands := hstands }

theorem Pad.Lapses.disabled (h : (q.activated .disabled b).Lapses t) : t.state = .disabled ∧ t.limit = q.limit :=
  ⟨h.state rfl, (congrArg Pad.limit h.rest).trans rfl⟩

theorem Pad.Lapses.moved (h : (q.activated .moved b).Lapses t) :
    t.state = .empty ∧ t.limit = none ∧ t.report = none ∧ t.attempts = 0 :=
  ⟨h.state rfl, (congrArg Pad.limit h.rest).trans rfl, (congrArg Pad.report h.rest).trans rfl,
    (congrArg Pad.attempts h.rest).trans rfl⟩

theorem Pad.Lapses.enabled (h : (q.activated .enabled b).Lapses t) :
    t.state = .empty ∧ t.failures = 0 ∧ t.report = none ∧ t.limit = q.limit ∧ t.sample = none :=
  ⟨h.state rfl, (congrArg Pad.failures h.rest).trans rfl, (congrArg Pad.report h.rest).trans rfl,
    (congrArg Pad.limit h.rest).trans rfl, (congrArg Pad.sample h.rest).trans rfl⟩

theorem Pad.activated_kept (q : Pad) (b : Bool) :
    q.activated .kept b = { q with sample := if b then q.sample else none } := by
  cases b <;> rfl

theorem Pad.Lapses.kept (h : (q.activated .kept b).Lapses t) : t.caps = q.caps ∧ t.report = q.report
    ∧ t.limit = q.limit ∧ t.fault = q.fault ∧ t.failures = q.failures ∧ t.overdraw = q.overdraw
    ∧ t.attempts = q.attempts ∧ t.grant ≤ q.grant ∧ t.sample = if b then q.sample else none := by
  rw [Pad.activated_kept] at h
  exact ⟨(congrArg Pad.caps h.rest).trans rfl, (congrArg Pad.report h.rest).trans rfl,
    (congrArg Pad.limit h.rest).trans rfl, (congrArg Pad.fault h.rest).trans rfl,
    (congrArg Pad.failures h.rest).trans rfl, (congrArg Pad.overdraw h.rest).trans rfl,
    (congrArg Pad.attempts h.rest).trans rfl, h.grant,
    (congrArg Pad.sample h.rest).trans rfl⟩

end

end Sys2Proof.Machine

/-! PROOFS. An activation at the groups, the lines and the inputs (R20 to R23, R99, R100, R196). -/

namespace Sys2Proof.Machine

/-! ## Groups that lose samples (R99, R100) -/

section
variable {s t : State} {g : GroupId}

/-- The minimum voltage is that of the samples and of the records. -/
theorem minVoltage_congr (htables : t.tables = s.tables)
    (h : ∀ p : PadId, (t.pads[p.val]).sample = (s.pads[p.val]).sample) (g : GroupId) :
    t.minVoltage g = s.minVoltage g := by
  have hin (p : PadId) : t.inGroup g p = s.inGroup g p := by simp only [State.inGroup, State.padRec, htables]
  rw [State.minVoltage, State.minVoltage, State.samples, State.samples, funext hin]
  simp only [Fin.getElem_fin, h]

theorem moveVoltage_minVoltage (j g : GroupId) (s : State) : (moveVoltage j s).minVoltage g = s.minVoltage g :=
  minVoltage_congr (moveVoltage_tables s j) (fun p => by rw [moveVoltage_pads]) g

theorem moveVoltage_vstate {m : Nat} (h : s.minVoltage g = some m) : ((moveVoltage g s).groups[g.val]).vstate =
    (voltageMove (s.feederRec g) (s.groups[g.val]).vstate m).1 := by
  rw [moveVoltage_some h, raiseAll_groups, State.updGroup_same]

/-- The evaluation of a group does not depend on another's. -/
theorem moveVoltage_after {j : GroupId} (h : j ≠ g) (s : State) :
    (moveVoltage g (moveVoltage j s)).groups[g.val] = (moveVoltage g s).groups[g.val] := by
  have hsame := moveVoltage_other j g s h
  cases hmin : s.minVoltage g with
  | none => rw [moveVoltage_none hmin, moveVoltage_none ((moveVoltage_minVoltage j g s).trans hmin), hsame]
  | some m =>
    have hafter : (moveVoltage j s).minVoltage g = some m := (moveVoltage_minVoltage j g s).trans hmin
    rw [moveVoltage_get, moveVoltage_get g g s, moveVoltage_vstate hmin, moveVoltage_vstate hafter, hsame]
    simp only [State.feederRec, moveVoltage_tables]

theorem foldl_moveVoltage {gs : List GroupId} (h : gs.Nodup) (s : State) :
    (gs.foldl (fun t g => moveVoltage g t) s).groups[g.val] =
      if g ∈ gs then (moveVoltage g s).groups[g.val] else s.groups[g.val] := by
  induction gs generalizing s with
  | nil => rfl
  | cons j gs ih =>
    obtain ⟨hj, hgs⟩ := List.nodup_cons.mp h
    rw [List.foldl_cons, ih hgs]
    by_cases hg : g = j
    · subst hg
      rw [if_neg hj, if_pos List.mem_cons_self]
    · rw [moveVoltage_after (Ne.symm hg), moveVoltage_other j g s (Ne.symm hg)]
      simp only [List.mem_cons, hg, false_or]

/-- A group is evaluated exactly when it loses a sample. -/
theorem evaluateLost_group (old new : Bank) (before : Vector Pad 64) (s : State) :
    (evaluateLost old new before s).groups[g.val] =
      if lostSample old new before g then (moveVoltage g s).groups[g.val] else s.groups[g.val] := by
  have hnodup : (allGroups.filter (lostSample old new before)).Nodup := (List.nodup_finRange 8).filter _
  rw [evaluateLost, foldl_moveVoltage hnodup]
  simp [allGroups]

theorem classOf_eq_kept {p : PadId} :
    classOf s.tables.active s.tables.shadow p = .kept ↔ s.staysAtAddress p = true := by
  refine ⟨fun h => ?_, classOf_kept⟩
  rw [staysAtAddress_iff]
  unfold classOf padClass at h
  have hold : s.tables.active.padRec p = s.padRec p := rfl
  rw [hold] at h
  cases hon : (s.padRec p).enabled <;> cases hnew : (s.tables.shadow.padRec p).enabled <;> simp only [hon, hnew] at h
  · exact nomatch h
  · exact nomatch h
  · exact nomatch h
  · split at h
    next haddress => exact ⟨rfl, rfl, haddress⟩
    next => exact nomatch h

/-- A sample leaves the set of a group whose record stays (R99). -/
theorem lostSample_iff (h : s.recordStays .feeder g.val = true) :
    lostSample s.tables.active s.tables.shadow s.pads g = true ↔ s.sampleLeaves g := by
  have hkept (p : PadId) (hin : (s.padRec p).group = g) : (classOf s.tables.active s.tables.shadow p == .kept
      && keepsSample s.tables.active s.tables.shadow p) = true ↔
      s.staysAtAddress p = true ∧ (s.tables.shadow.padRec p).group = g := by
    rw [Bool.and_eq_true, beq_iff_eq, classOf_eq_kept, keepsSample_iff, hin]
    exact and_congr_right fun _ => ⟨fun hk => hk.1.symm, fun hk => ⟨hk.symm, h⟩⟩
  have hfeeder : feederChanged s.tables.active s.tables.shadow g = false := by
    rw [recordStays_feeder] at h
    simpa using h
  have hin (p : PadId) : s.inGroup g p =
      ((s.tables.active.padRec p).enabled && (s.tables.active.padRec p).group == g) := rfl
  unfold lostSample State.sampleLeaves
  rw [hfeeder]
  simp only [Bool.not_false, Bool.true_and, List.any_eq_true, Bool.and_eq_true, beq_iff_eq, hin]
  constructor
  · rintro ⟨p, -, ⟨⟨⟨hon, hgroup⟩, hsample⟩, haway⟩⟩
    refine ⟨p, ⟨hon, hgroup⟩, ?_, fun h => ?_⟩
    · exact Option.isSome_iff_ne_none.mp hsample
    · rw [(hkept p hgroup).mpr h] at haway
      exact nomatch haway
  · rintro ⟨p, ⟨hon, hgroup⟩, hsample, haway⟩
    refine ⟨p, List.mem_finRange p, ⟨⟨hon, hgroup⟩, Option.isSome_iff_ne_none.mpr hsample⟩, ?_⟩
    rw [Bool.not_eq_true']
    exact Bool.eq_false_iff.mpr fun h => haway ((hkept p hgroup).mp h)

end

/-! ## The groups step by step (R21, R22, R97, R105) -/

section
variable {s : State} {g : GroupId} {old new : Bank}

theorem activateGroups_get : (activateGroups old new s).groups[g.val] =
    if feederChanged old new g then { s.groups[g.val] with headroom := 0, age := 0, hstate := .none, vstate := .normal }
    else s.groups[g.val] := by
  simp [activateGroups]

/-- A group's headroom state after a change of the hold time (R22). -/
def Group.heldFrom (old new : Bank) (x : Group) : HeadroomState :=
  if (siteView new.site).holdTime ≠ (siteView old.site).holdTime ∧ x.hstate = .fresh
      ∧ 10 * (siteView new.site).holdTime < x.age then .stale else x.hstate

theorem activateHold_get : (activateHold old new s).groups[g.val] =
    { s.groups[g.val] with hstate := (s.groups[g.val]).heldFrom old new } := by
  by_cases hsame : (siteView old.site).holdTime = (siteView new.site).holdTime
  · have hstays : activateHold old new s = s := if_pos hsame
    have hheld : (s.groups[g.val]).heldFrom old new = (s.groups[g.val]).hstate := if_neg fun h => h.1 hsame.symm
    rw [hstays, hheld]
  · unfold activateHold Group.heldFrom
    rw [if_neg hsame]
    simp only [raiseIf_groups, State.mapGroups_get, Bool.and_eq_true, beq_iff_eq, decide_eq_true_eq]
    split
    next hlate => rw [if_pos ⟨Ne.symm hsame, hlate⟩]
    next hlate => rw [if_neg fun h => hlate h.2]

theorem activateHold_raises (h : (s.groups[g.val]).heldFrom old new ≠ (s.groups[g.val]).hstate) :
    noticeIn .headroomStale (activateHold old new s).notices.pendingSet = true := by
  have hlate : (siteView new.site).holdTime ≠ (siteView old.site).holdTime ∧ (s.groups[g.val]).hstate = .fresh
      ∧ 10 * (siteView new.site).holdTime < (s.groups[g.val]).age := by
    by_contra hnot
    exact h (if_neg hnot)
  obtain ⟨hdiffers, hfresh, hage⟩ := hlate
  have hany : (allGroups.any fun g => s.groups[g].hstate == .fresh
      && decide (10 * (siteView new.site).holdTime < s.groups[g].age)) = true := by
    rw [List.any_eq_true]
    exact ⟨g, List.mem_finRange g, by simp [hfresh, hage]⟩
  unfold activateHold
  rw [if_neg (Ne.symm hdiffers)]
  dsimp only
  rw [hany]
  exact raise_joins _ _

end

section
variable (s : State) {g : GroupId}

/-- The state in which the groups that lose samples are evaluated (R99, R100). -/
def State.beforeLost : State :=
  activateRotation s.tables.active s.tables.shadow (activateGroups s.tables.active s.tables.shadow
    (activatePads s.tables.active s.tables.shadow (activateCopy s)))

/-- The groups evaluated, and the hold time changed (R22, R100). -/
def State.holdActivated : State :=
  activateHold s.tables.active s.tables.shadow (evaluateLost s.tables.active s.tables.shadow s.pads s.beforeLost)

theorem activateBanks_steps : activateBanks s =
    reformAll (activateInputs s.tables.active s.tables.shadow s.holdActivated) := rfl

theorem reformAll_get : (reformAll s).groups[g.val] =
    { s.groups[g.val] with
      shedInput := ((reformAll s).groups[g.val]).shedInput, capacity := ((reformAll s).groups[g.val]).capacity } := by
  simp [reformAll, storeAllCapacities, reformAllSheds, reformStop]

/-- The group `g` of the state in which the groups that lose samples have been evaluated. -/
def State.lostGroup (g : GroupId) : Group :=
  (evaluateLost s.tables.active s.tables.shadow s.pads s.beforeLost).groups[g.val]

theorem activateBanks_group : ((activateBanks s).groups[g.val]).headroom = (s.lostGroup g).headroom
    ∧ ((activateBanks s).groups[g.val]).age = (s.lostGroup g).age
    ∧ ((activateBanks s).groups[g.val]).hstate = (s.lostGroup g).heldFrom s.tables.active s.tables.shadow
    ∧ ((activateBanks s).groups[g.val]).vstate = (s.lostGroup g).vstate := by
  have hinputs : (activateInputs s.tables.active s.tables.shadow s.holdActivated).groups = s.holdActivated.groups := by
    simp [activateInputs]
  have hheld : s.holdActivated.groups[g.val] =
      { s.lostGroup g with hstate := (s.lostGroup g).heldFrom s.tables.active s.tables.shadow } := activateHold_get
  have h := reformAll_get (activateInputs s.tables.active s.tables.shadow s.holdActivated) (g := g)
  simp only [hinputs, hheld] at h
  rw [activateBanks_steps, h]
  exact ⟨rfl, rfl, rfl, rfl⟩

theorem beforeLost_group : s.beforeLost.groups[g.val] =
    if feederChanged s.tables.active s.tables.shadow g then
      { s.groups[g.val] with headroom := 0, age := 0, hstate := .none, vstate := .normal }
    else s.groups[g.val] := by
  simp only [State.beforeLost, activateRotation_groups, activateGroups_get, activatePads_groups, activateCopy_groups]

theorem lostGroup_changed (h : s.recordStays .feeder g.val = false) : s.lostGroup g =
    { s.groups[g.val] with headroom := 0, age := 0, hstate := .none, vstate := .normal } := by
  have hchanged : feederChanged s.tables.active s.tables.shadow g = true := by
    rw [recordStays_feeder] at h
    simpa using h
  have hlost : lostSample s.tables.active s.tables.shadow s.pads g = false := by simp [lostSample, hchanged]
  rw [State.lostGroup, evaluateLost_group, hlost, if_neg nofun, beforeLost_group, if_pos hchanged]

theorem beforeLost_stays (h : s.recordStays .feeder g.val = true) : s.beforeLost.groups[g.val] = s.groups[g.val] := by
  rw [beforeLost_group, if_neg]
  rw [recordStays_feeder] at h
  simpa using h

theorem lostGroup_stays (h : s.recordStays .feeder g.val = true) : s.lostGroup g =
    { s.groups[g.val] with vstate := (s.lostGroup g).vstate } := by
  unfold State.lostGroup
  rw [evaluateLost_group]
  split
  · rw [moveVoltage_get, beforeLost_stays s h]
  · rw [beforeLost_stays s h]

/-- A group whose record stays is evaluated where it loses a sample (R99, R100). -/
theorem lostGroup_vstate (h : s.recordStays .feeder g.val = true) :
    (¬ s.sampleLeaves g → (s.lostGroup g).vstate = (s.groups[g.val]).vstate)
    ∧ (s.sampleLeaves g → s.beforeLost.minVoltage g = none → (s.lostGroup g).vstate = (s.groups[g.val]).vstate)
    ∧ ∀ v : Nat, s.sampleLeaves g → s.beforeLost.minVoltage g = some v → (s.lostGroup g).vstate =
        (voltageMove (s.tables.shadow.feederRec g) (s.groups[g.val]).vstate v).1 := by
  have hbefore := beforeLost_stays s h
  have hlost := lostSample_iff h
  have hrec : s.beforeLost.feederRec g = s.tables.shadow.feederRec g := by
    simp only [State.feederRec, State.beforeLost, activateRotation_tables]
    simp [activateGroups]
  unfold State.lostGroup
  rw [evaluateLost_group]
  refine ⟨fun hstays => ?_, fun hleaves hmin => ?_, fun v hleaves hmin => ?_⟩
  · rw [if_neg (mt hlost.mp hstays), hbefore]
  · rw [if_pos (hlost.mpr hleaves), moveVoltage_none hmin, hbefore]
  · rw [if_pos (hlost.mpr hleaves), moveVoltage_vstate hmin, hbefore, hrec]

/-- A hold time that turns a group brings HEADROOM_STALE (R22, R95). -/
theorem activateBanks_turned (h : s.recordStays .feeder g.val = true)
    (hturned : ((activateBanks s).groups[g.val]).hstate ≠ (s.groups[g.val]).hstate) :
    noticeIn .headroomStale (activateBanks s).notices.pendingSet = true := by
  obtain ⟨-, -, hstate, -⟩ := activateBanks_group s (g := g)
  have hsame : (s.lostGroup g).hstate = (s.groups[g.val]).hstate := by rw [lostGroup_stays s h]
  rw [hstate, ← hsame] at hturned
  have hraised : noticeIn .headroomStale s.holdActivated.notices.pendingSet = true := activateHold_raises hturned
  have hinputs : Noticed s.holdActivated (activateInputs s.tables.active s.tables.shadow s.holdActivated) :=
    (noticed_raiseIf _ _ _).before rfl rfl
  rw [activateBanks_steps, reformAll_notices]
  exact hinputs.grows _ hraised

end

end Sys2Proof.Machine

/-! PROOFS. What an activation leaves of the part, from the copy of the bank to its end (R17 to R23, R178, R196). -/

namespace Sys2Proof.Machine

/-! ## From the copy of the bank to the end -/

section
variable (s : State)

theorem activate_groups : (activate false s).groups = (activateBanks s).groups := by simp [activate_eq]

theorem activate_signals : (activate false s).signals = (activateBanks s).signals := by
  rw [activate_eq, activateMarks_signals, haltIfStopped_signals]
  exact (calm_fastShedCheck _).signals

theorem activate_grows {k : Notice} (h : noticeIn k (activateBanks s).notices.pendingSet = true) :
    noticeIn k (activate false s).notices.pendingSet = true := by
  have hend : Noticed (haltIfStopped s.tables.active s.tables.shadow (endCheckOf false (activateBanks s)))
      (activate false s) := noticed_activateMarks _
  refine hend.grows k ?_
  rw [haltIfStopped_notices]
  exact (calm_fastShedCheck _).noticed.grows k h

theorem activateMarks_stopLatch : (activateMarks s).mode.stopLatch = s.mode.stopLatch := by
  unfold activateMarks
  split
  · rcases endDiscoveryIfDone_cases (s.mapLines fun l c => c.activateMark (s.members l)) with h | ⟨-, -, h⟩
    · rw [h]
      rfl
    · rw [h, discoveryEnd_mode]
      rfl
  · rfl

theorem activateMarks_rotation : (activateMarks s).alloc.rotation = s.alloc.rotation := by
  unfold activateMarks
  split
  · rcases endDiscoveryIfDone_cases (s.mapLines fun l c => c.activateMark (s.members l)) with h | ⟨-, -, h⟩
    · rw [h]
      rfl
    · rw [h]
      have hsweep := startSweep_alloc
        ((s.mapLines fun l c => c.activateMark (s.members l)).withMode { s.mode with engine := .running })
      exact (congrArg Alloc.rotation hsweep).trans rfl
  · rfl

theorem haltIfStopped_kept (old new : Bank) : (haltIfStopped old new s).mode.stopLatch = s.mode.stopLatch
    ∧ (haltIfStopped old new s).alloc.rotation = s.alloc.rotation := by
  obtain ⟨hmode, -, halloc⟩ := haltEffects_engine s
  unfold haltIfStopped
  split
  · rw [hmode, halloc]
    exact ⟨rfl, rfl⟩
  · exact ⟨rfl, rfl⟩

theorem activate_stopLatch : (activate false s).mode.stopLatch = (activateBanks s).mode.stopLatch := by
  rw [activate_checked, activateMarks_stopLatch, (haltIfStopped_kept _ _ _).1, State.activatedChecked,
    (calm_fastShedCheck _).mode]

theorem activate_rotation : (activate false s).alloc.rotation = (activateBanks s).alloc.rotation := by
  rw [activate_checked, activateMarks_rotation, (haltIfStopped_kept _ _ _).2, State.activatedChecked,
    (calm_fastShedCheck _).alloc]

/-- The inputs' followers and the capacities are formed anew (R23, R106, R168). -/
theorem activate_fresh : CapacityFresh (activate false s) ∧ InputsFollowed (activate false s) := by
  obtain ⟨hfresh, hshed, hstop⟩ := activateRest_fresh (activatePads s.tables.active s.tables.shadow (activateCopy s))
    s.tables.active s.tables.shadow s.pads
  have htables : (activate false s).tables = (activateBanks s).tables := by rw [activate_tables, activateBanks_tables]
  have hrec (i : InputId) : (activate false s).inputRec i = (activateBanks s).inputRec i := by
    rw [State.inputRec, htables]
    rfl
  have hactive (i : InputId) : (activate false s).active i = (activateBanks s).active i := by
    rw [State.active, hrec, activate_signals]
    rfl
  refine ⟨fun g => ?_, fun g => ?_, ?_⟩
  · rw [activate_groups, State.feederRec, htables]
    exact hfresh g
  · have hnow : (activate false s).shedInputNow g = (activateBanks s).shedInputNow g := by
      simp only [State.shedInputNow, hrec, hactive]
    rw [activate_groups, hnow]
    exact hshed g
  · have hnow : (activate false s).stopLatchNow = (activateBanks s).stopLatchNow := by
      simp only [State.stopLatchNow, hrec, activate_signals]
    rw [activate_stopLatch, hnow]
    exact hstop

end

/-! ## The samples and the groups -/

section
variable {s : State} {g : GroupId}

theorem activate_sample (p : PadId) :
    ((activate false s).pads[p.val]).sample = (s.beforeLost.pads[p.val]).sample := by
  have hchecked := (calm_fastShedCheck (activateBanks s)).others p nofun
  have hlapses : ((activateBanks s).pads[p.val]).Lapses (activate false s).pads[p.val] :=
    hchecked.lapses.trans ((lapses_haltIfStopped _ p _ _).trans (lapses_activateMarks _ p))
  have hbefore : s.beforeLost.pads = (activateBanks s).pads := by
    simp [State.beforeLost, activateBanks, activateGroups]
  rw [hbefore]
  exact (congrArg Pad.sample hlapses.rest).trans rfl

theorem activate_minVoltage (g : GroupId) : (activate false s).minVoltage g = s.beforeLost.minVoltage g := by
  refine minVoltage_congr ?_ activate_sample g
  rw [activate_tables]
  simp [State.beforeLost, activateGroups, activateCopy]

end

/-! ## The inputs (R196) -/

section
variable {s : State} {i : InputId}

theorem activate_latch : (activate false s).signals.latch[i] =
    (s.signals.latch[i] && s.recordStays .line i.val) := by
  rw [recordStays_line, activate_signals]
  simp [activateBanks]

theorem activate_inputEvent (hchanged : s.recordStays .line i.val = false)
    (hf : (s.tables.shadow.inputRec i).function ≠ .none)
    (hlevel : (s.tables.shadow.inputRec i).sense.activeLevel = some s.signals.taken[i]) :
    noticeIn .inputEvent (activate false s).notices.pendingSet = true := by
  have hheld : s.holdActivated.tables.active = s.tables.shadow ∧ s.holdActivated.signals.taken = s.signals.taken := by
    simp [State.holdActivated, State.beforeLost, activateGroups, activateCopy]
  have henters : (s.holdActivated.withSignals { s.holdActivated.signals with
      latch := tabulate 8 fun i => s.holdActivated.signals.latch[i] && !inputChanged s.tables.active s.tables.shadow i
      }).entersLevel i = true := by
    rw [entersLevel_iff]
    simp only [State.inputRec, State.withSignals_tables, State.withSignals_signals, hheld, ← activeLevel_eq_some]
    exact ⟨hf, hlevel⟩
  have hany : (allInputs.any fun i => inputChanged s.tables.active s.tables.shadow i
      && (s.holdActivated.withSignals { s.holdActivated.signals with
        latch := tabulate 8 fun i => s.holdActivated.signals.latch[i] && !inputChanged s.tables.active s.tables.shadow i
        }).entersLevel i) = true := by
    rw [List.any_eq_true]
    rw [recordStays_line, Bool.not_eq_false'] at hchanged
    exact ⟨i, List.mem_finRange i, by rw [hchanged, henters]; rfl⟩
  have hraised : noticeIn .inputEvent
      (activateInputs s.tables.active s.tables.shadow s.holdActivated).notices.pendingSet = true := by
    unfold activateInputs
    dsimp only
    rw [hany]
    exact raise_joins _ _
  refine activate_grows s ?_
  rw [activateBanks_steps, reformAll_notices]
  exact hraised

theorem activate_stops (h : s.stopEnters) : (activate false s).mode.engine = .halted := by
  have hstop := stopActivated_iff.mpr h
  have hhalted : (haltIfStopped s.tables.active s.tables.shadow s.activatedChecked).mode.engine = .halted := by
    by_cases hengine : s.activatedChecked.mode.engine = .halted
    · rw [haltIfStopped, if_neg fun h => h.2 hengine, hengine]
    · rw [haltIfStopped_halts hstop hengine, (haltEffects_engine _).1]
  rw [activate_checked, activateMarks_of_not_discovering _ (by rw [hhalted]; decide), hhalted]

end

/-! ## The lines (R20) -/

section
variable (s : State)

theorem activate_line (l : LineId) : (activate false s).lines[l.val] =
    { s.activatedChecked.lines[l.val] with
      discovery := ((activate false s).lines[l.val]).discovery
      breakPending := ((activate false s).lines[l.val]).breakPending
      breaking := ((activate false s).lines[l.val]).breaking } := by
  have hhalt (u : State) (old new : Bank) : (haltIfStopped old new u).lines[l.val] =
      { u.lines[l.val] with
        discovery := ((haltIfStopped old new u).lines[l.val]).discovery
        breakPending := ((haltIfStopped old new u).lines[l.val]).breakPending
        breaking := ((haltIfStopped old new u).lines[l.val]).breaking } := by
    unfold haltIfStopped
    split
    · rw [haltEffects_line, LineCtl.startBreak_eq]
    · rfl
  have hmarks (u : State) : (activateMarks u).lines[l.val] =
      { u.lines[l.val] with discovery := ((activateMarks u).lines[l.val]).discovery } := by
    unfold activateMarks
    split
    · simp only [endDiscoveryIfDone_lines, State.mapLines_get]
      exact LineCtl.activateMark_eq _ _
    · rfl
  rw [activate_checked, hmarks, hhalt]

theorem mem_leaving {l : LineId} {p : PadId} : p ∈ leaving s.tables.active s.tables.shadow l ↔
    s.leavesAddress p = true ∧ (s.padRec p).line = l := by
  simp only [leaving, List.mem_filter, allPads, List.mem_finRange, true_and, Bool.and_eq_true, beq_iff_eq,
    classOf_leaves]
  rfl

end

theorem mem_joinFinal {l : List Nat} {d e : Nat} : e ∈ joinFinal l d ↔ e ∈ l ∨ e = d := by
  unfold joinFinal
  split
  next h => exact ⟨.inl, fun he => he.elim id fun he => he ▸ h⟩
  next => simp

theorem mem_foldl_joinFinal {ds l : List Nat} {d : Nat} : d ∈ ds.foldl joinFinal l ↔ d ∈ l ∨ d ∈ ds := by
  induction ds generalizing l with
  | nil => simp
  | cons e ds ih => rw [List.foldl_cons, ih, mem_joinFinal, List.mem_cons, or_assoc]

theorem prefix_foldl_joinFinal (ds l : List Nat) : l <+: ds.foldl joinFinal l := by
  induction ds generalizing l with
  | nil => exact List.prefix_rfl
  | cons e ds ih =>
    have hjoin : l <+: joinFinal l e := by
      unfold joinFinal
      split
      · exact List.prefix_rfl
      · exact List.prefix_append _ _
    exact hjoin.trans (ih _)

section
variable {s : State} {l : LineId}

/-- The final poll list gains the old drops of the pads that leave the line's addresses (R20). -/
theorem activate_final : (∀ d : Nat, d ∈ ((activate false s).lines[l]).final ↔ d ∈ (s.lines[l]).final
      ∨ ∃ p : PadId, s.leavesAddress p = true ∧ (s.padRec p).line = l ∧ (s.padRec p).drop = d)
    ∧ (s.lines[l]).final <+: ((activate false s).lines[l]).final
    ∧ ((s.lines[l]).final.Nodup → ((activate false s).lines[l]).final.Nodup) := by
  have hfinal : ((activate false s).lines[l.val]).final =
      (freelyOrdered s.freeCount id ((leaving s.tables.active s.tables.shadow l).map fun p =>
        (s.tables.active.padRec p).drop)).foldl joinFinal (s.lines[l.val]).final := by
    rw [activate_line, activatedChecked_line, activateBanks_line]
  simp only [Fin.getElem_fin]
  rw [hfinal]
  refine ⟨fun d => ?_, prefix_foldl_joinFinal _ _, fun h => joinFinal_nodup h _⟩
  rw [mem_foldl_joinFinal, mem_freelyOrdered, List.mem_map]
  refine or_congr_right ⟨?_, ?_⟩
  · rintro ⟨p, hp, rfl⟩
    obtain ⟨hleaves, hline⟩ := (mem_leaving s).mp hp
    exact ⟨p, hleaves, hline, rfl⟩
  · rintro ⟨p, hleaves, hline, rfl⟩
    exact ⟨p, (mem_leaving s).mpr ⟨hleaves, hline⟩, rfl⟩

/-- The urgent list loses the pads that leave the line's addresses (R20). -/
theorem activate_urgent : ((s.lines[l]).urgent.filter fun p => !(s.leavesAddress p && (s.padRec p).line == l))
      <+: ((activate false s).lines[l]).urgent
    ∧ ∀ p : PadId, s.leavesAddress p = true → (s.padRec p).line = l → p ∉ ((activate false s).lines[l]).urgent := by
  have hbanks : ((activateBanks s).lines[l.val]).urgent =
      (s.lines[l.val]).urgent.filter fun p => !(s.leavesAddress p && (s.padRec p).line == l) := by
    rw [activateBanks_line]
    refine List.filter_congr fun p _ => ?_
    rw [Bool.eq_iff_iff]
    simp [mem_leaving]
  have hchecked := calm_fastShedCheck (activateBanks s)
  have hurgent : ((activate false s).lines[l.val]).urgent = (s.activatedChecked.lines[l.val]).urgent := by
    rw [activate_line]
  simp only [Fin.getElem_fin]
  rw [hurgent, ← hbanks]
  refine ⟨hchecked.grows l, fun p hleaves hline hp => ?_⟩
  rcases hchecked.joins l p hp with h | h | h
  · rw [Fin.getElem_fin, hbanks, List.mem_filter] at h
    simp [hleaves, hline] at h
  · exact nomatch h
  · have hidle : (s.activatedChecked.pads[p.val]).Idle := by
      exact (((activateBanks_get s p).lapses.trans (hchecked.others p nofun).lapses).cleared
        (classOf_leaves.trans hleaves)).figures
    exact nomatch h.symm.trans hidle.decPending

theorem activate_link : ((activate false s).lines[l]).position = (s.lines[l]).position
    ∧ ((activate false s).lines[l]).inFlight = (s.lines[l]).inFlight
    ∧ ((activate false s).lines[l]).wire = (s.lines[l]).wire := by
  simp only [Fin.getElem_fin]
  rw [activate_line, activatedChecked_line]
  exact ⟨rfl, rfl, rfl⟩

end

end Sys2Proof.Machine

/-! PROOFS. The activation of a bank that passes its check, pad by pad and block by block (R17 to R23, R79). -/

namespace Sys2Proof.Machine

/-! ## Where neither a pass, a halt nor a sweep follows -/

section
variable {s : State}

theorem fastShedCheck_atRest (hnone : s.alloc.fastShed = .none) (h : (fastShedCheck s).alloc.fastShed = .none) :
    fastShedCheck s = s := by
  have hrun : s.alloc.fastShed ≠ .running := by rw [hnone]; decide
  cases hn : s.needsShed with
  | true =>
    cases hs : s.alloc.sweep.isSome with
    | true =>
      rw [fastShedCheck_sweeping s hn hrun hs] at h
      exact nomatch h
    | false =>
      rw [fastShedCheck_starts s hn hrun hs, startPass_running] at h
      exact nomatch h
  | false => rw [fastShedCheck_none hrun hn, if_neg (by rw [hnone]; decide)]

/-- An activation that leaves the fast-shed state NONE and the engine mode as it was, outside DISCOVERING, is the copy
of the bank alone. -/
theorem activate_plain (hnone : s.alloc.fastShed = .none) (hshed : (activate false s).alloc.fastShed = .none)
    (hengine : s.mode.engine ≠ .discovering) (hstays : (activate false s).mode.engine = s.mode.engine) :
    activate false s = activateBanks s := by
  have hchecked : s.activatedChecked.mode.engine = s.mode.engine := activatedChecked_engine
  have hhalt : haltIfStopped s.tables.active s.tables.shadow s.activatedChecked = s.activatedChecked := by
    refine if_neg fun h => ?_
    obtain ⟨hstop, hrunning⟩ := h
    have hhalted := activate_stops (stopActivated_iff.mp hstop)
    exact hrunning (hchecked.trans (hstays.symm.trans hhalted))
  have hactivate : activate false s = s.activatedChecked := by
    rw [activate_checked, hhalt, activateMarks_of_not_discovering _ (by rw [hchecked]; exact hengine)]
  rw [hactivate] at hshed ⊢
  exact fastShedCheck_atRest (by rw [activateBanks_alloc]; exact hnone) hshed

/-- With no grant and no sent setpoint, in HALTED, an activation is the copy of the bank alone. -/
theorem activate_halted (hengine : s.mode.engine = .halted) (hnone : s.alloc.fastShed = .none)
    (h : ∀ p : PadId, s.pads[p].grant = 0) : activate false s = activateBanks s := by
  have hgrant (p : PadId) : ((activateBanks s).pads[p]).grant = 0 :=
    Nat.le_zero.mp ((activateBanks_get s p).grant.trans ((Pad.activated_grant_le _ _ _).trans (h p).le))
  have hrest := fastShedCheck_none (s := activateBanks s) (by rw [activateBanks_alloc, hnone]; decide)
    (needsShed_of_no_grant hgrant)
  have hchecked : s.activatedChecked = activateBanks s := by
    rw [State.activatedChecked, hrest, if_neg (by rw [activateBanks_alloc, hnone]; decide)]
  have hhalted : (activateBanks s).mode.engine = .halted := by rw [activateBanks_mode]; exact hengine
  rw [activate_checked, hchecked, haltIfStopped, if_neg fun h => h.2 hhalted,
    activateMarks_of_not_discovering _ (by rw [hhalted]; decide)]

/-! ## The pads at the copy, with its increase release (R19, R79) -/

/-- Pad `p` as its class has it, before the increase release. -/
def State.activatedPad (s : State) (p : PadId) : Pad :=
  (s.pads[p.val]).activated (classOf s.tables.active s.tables.shadow p) (keepsSample s.tables.active s.tables.shadow p)

theorem clearsPads_iff : clearsPads s.tables.active s.tables.shadow = true ↔ ∃ q : PadId, s.leavesAddress q = true := by
  simp [clearsPads, classOf_leaves, allPads]

theorem activateBanks_pad (p : PadId) : (activateBanks s).pads[p.val] =
    { s.activatedPad p with
      sent := if (∃ q : PadId, s.leavesAddress q = true) ∧ (∀ q : PadId, (s.activatedPad q).decPending = false)
          ∧ s.alloc.fastShed = .none
        then max (s.activatedPad p).sent (s.activatedPad p).grant else (s.activatedPad p).sent } := by
  obtain ⟨m, hm⟩ : ∃ m : State, m = activateLines s.tables.active s.tables.shadow ((activateCopy s).mapPads fun p q =>
      q.activated (classOf s.tables.active s.tables.shadow p) (keepsSample s.tables.active s.tables.shadow p)) :=
    ⟨_, rfl⟩
  have hpads : (activateBanks s).pads =
      (if clearsPads s.tables.active s.tables.shadow then increaseRelease m else m).pads := by
    rw [hm]
    simp only [activateBanks, activateRest_pads]
    rfl
  have hget : (activateBanks s).pads[p.val] =
      if clearsPads s.tables.active s.tables.shadow then (increaseRelease m).pads[p.val] else m.pads[p.val] := by
    simp only [hpads]
    split <;> rfl
  have hpad (q : PadId) : m.pads[q.val] = s.activatedPad q := by
    rw [hm]
    simp [activateLines, State.activatedPad]
  have hshed : m.alloc.fastShed = s.alloc.fastShed := by
    rw [hm]
    simp [activateLines]
  have hpending : m.anyPending = false ↔ ∀ q : PadId, (s.activatedPad q).decPending = false := by
    simp [State.anyPending, allPads, hpad]
  rw [hget]
  by_cases hclears : ∃ q : PadId, s.leavesAddress q = true
  · rw [if_pos (clearsPads_iff.mpr hclears), increaseRelease_pad, hpad]
    simp only [hpending, hshed, hclears, true_and]
  · rw [if_neg (mt clearsPads_iff.mp hclears), if_neg fun h => hclears h.1, hpad]

theorem activatedPad_kept {p : PadId} (h : s.staysAtAddress p = true) :
    s.activatedPad p = { s.pads[p.val] with sample := (s.activatedPad p).sample } := by
  unfold State.activatedPad
  rw [classOf_kept h, Pad.activated_kept]

/-- The copy of a bank changes no figure of a pad without a grant (R19, R79). -/
theorem activateBanks_powerless {p : PadId} (hgrant : (s.pads[p.val]).grant = 0) (hsent : (s.pads[p.val]).sent = 0) :
    (activateBanks s).pads[p.val] = s.activatedPad p := by
  have hle : (s.activatedPad p).grant = 0 := Nat.le_zero.mp ((Pad.activated_grant_le _ _ _).trans hgrant.le)
  have hzero : (s.activatedPad p).sent = 0 := by
    unfold State.activatedPad
    cases classOf s.tables.active s.tables.shadow p with
    | absent | enabled => exact hsent
    | disabled | moved => rfl
    | kept =>
      rw [Pad.activated_kept]
      exact hsent
  rw [activateBanks_pad]
  split
  · rw [hle, hzero]
    exact congrArg (fun n => { s.activatedPad p with sent := n }) hzero.symm
  · rfl

/-! ## A bank that changes no record (R15) -/

theorem leavesAddress_same (h : s.tables.shadow = s.tables.active) (p : PadId) : s.leavesAddress p = false := by
  rw [← Bool.not_eq_true, leavesAddress_iff, h]
  exact fun ⟨hold, haway⟩ => haway hold ⟨rfl, rfl⟩

theorem recordStays_same (h : s.tables.shadow = s.tables.active) (x : TableId) (i : Nat) :
    s.recordStays x i = true := by
  rw [State.recordStays, h, beq_self_eq_true]

theorem activatedPad_same (h : s.tables.shadow = s.tables.active) (p : PadId) : s.activatedPad p = s.pads[p.val] := by
  have hkeeps : keepsSample s.tables.active s.tables.shadow p = true :=
    keepsSample_iff.mpr ⟨by rw [h]; rfl, recordStays_same h _ _⟩
  unfold State.activatedPad
  rw [hkeeps]
  cases hold : (s.padRec p).enabled with
  | true =>
    have hstays : s.staysAtAddress p = true := staysAtAddress_iff.mpr ⟨hold, by rw [h]; exact hold, by rw [h]; rfl,
      by rw [h]; rfl⟩
    rw [classOf_kept hstays]
    rfl
  | false =>
    rw [classOf_absent hold (by rw [h]; exact hold)]
    rfl

theorem activateBanks_same (h : s.tables.shadow = s.tables.active) : (activateBanks s).pads = s.pads
    ∧ (activateBanks s).lines = s.lines ∧ (activateBanks s).alloc = s.alloc := by
  have hnone : ¬ ∃ q : PadId, s.leavesAddress q = true := fun ⟨q, hq⟩ => nomatch (leavesAddress_same h q).symm.trans hq
  have hleaving (l : LineId) : leaving s.tables.active s.tables.shadow l = [] :=
    List.eq_nil_iff_forall_not_mem.mpr fun p hp => hnone ⟨p, ((mem_leaving s).mp hp).1⟩
  refine ⟨Vector.ext fun i hi => ?_, Vector.ext fun i hi => ?_, ?_⟩
  · have hpad := activateBanks_pad (s := s) ⟨i, hi⟩
    rw [if_neg fun hc => hnone hc.1, activatedPad_same h] at hpad
    exact hpad
  · have hline := activateBanks_line s ⟨i, hi⟩
    have hfree : freelyOrdered s.freeCount id ([] : List Nat) = [] := (freelyOrdered_perm _ _ _).eq_nil
    rw [hleaving, List.map_nil, hfree] at hline
    exact hline.trans (by simp)
  · rw [activateBanks_alloc, activateBanks_rotation, h]
    simp

theorem sampleLeaves_same (h : s.tables.shadow = s.tables.active) (g : GroupId) : ¬ s.sampleLeaves g := by
  rintro ⟨p, hin, -, haway⟩
  rw [State.inGroup, Bool.and_eq_true, beq_iff_eq] at hin
  exact haway ⟨staysAtAddress_iff.mpr ⟨hin.1, by rw [h]; exact hin.1, by rw [h]; rfl, by rw [h]; rfl⟩,
    by rw [h]; exact hin.2⟩

end

end Sys2Proof.Machine

/-! PROOFS. A bank that passes its check is activated: the pads by class, and every other block (R17 to R23). -/

namespace Sys2Proof.Machine

section
variable {s a : State}

/-! ## What the passed check leaves as it was -/

theorem CheckPassed.padRec (h : CheckPassed s a) (p : PadId) : a.padRec p = s.padRec p := by
  simp only [State.padRec, h.tables]

theorem CheckPassed.leavesAddress (h : CheckPassed s a) (p : PadId) : a.leavesAddress p = s.leavesAddress p := by
  simp only [State.leavesAddress, h.padRec, h.tables]

theorem CheckPassed.staysAtAddress (h : CheckPassed s a) (p : PadId) : a.staysAtAddress p = s.staysAtAddress p := by
  simp only [State.staysAtAddress, h.leavesAddress, h.padRec, h.tables]

theorem CheckPassed.sampleLeaves (h : CheckPassed s a) (g : GroupId) : a.sampleLeaves g ↔ s.sampleLeaves g := by
  simp only [State.sampleLeaves, State.inGroup, h.padRec, h.staysAtAddress, h.tables, h.pads]

/-! ## The pads by class -/

theorem activate_leaving {p : PadId} (h : s.leavesAddress p = true) :
    (s.pads[p.val]).Cleared (activate false s).pads[p.val]
    ∧ if (s.tables.shadow.padRec p).enabled then
        ((activate false s).pads[p.val]).state = .empty ∧ ((activate false s).pads[p.val]).limit = none
          ∧ ((activate false s).pads[p.val]).report = none ∧ ((activate false s).pads[p.val]).attempts = 0
      else ((activate false s).pads[p.val]).state = .disabled
          ∧ ((activate false s).pads[p.val]).limit = (s.pads[p.val]).limit := by
  have hlapses := activate_lapses s p
  refine ⟨hlapses.cleared (classOf_leaves.trans h), ?_⟩
  cases hnew : (s.tables.shadow.padRec p).enabled with
  | true =>
    rw [classOf_moved h hnew] at hlapses
    exact hlapses.moved
  | false =>
    rw [classOf_disabled (leavesAddress_iff.mp h).1 hnew] at hlapses
    exact hlapses.disabled

theorem activate_enabling {p : PadId} (hold : (s.padRec p).enabled = false)
    (hnew : (s.tables.shadow.padRec p).enabled = true) :
    ((activate false s).pads[p.val]).state = .empty ∧ ((activate false s).pads[p.val]).failures = 0
    ∧ ((activate false s).pads[p.val]).report = none
    ∧ ((activate false s).pads[p.val]).limit = (s.pads[p.val]).limit
    ∧ ((activate false s).pads[p.val]).sample = none := by
  have hlapses := activate_lapses s p
  rw [classOf_enabled hold hnew] at hlapses
  exact hlapses.enabled

theorem activate_keeping {p : PadId} (h : s.staysAtAddress p = true) :
    ((activate false s).pads[p.val]).caps = (s.pads[p.val]).caps
    ∧ ((activate false s).pads[p.val]).report = (s.pads[p.val]).report
    ∧ ((activate false s).pads[p.val]).limit = (s.pads[p.val]).limit
    ∧ ((activate false s).pads[p.val]).fault = (s.pads[p.val]).fault
    ∧ ((activate false s).pads[p.val]).failures = (s.pads[p.val]).failures
    ∧ ((activate false s).pads[p.val]).overdraw = (s.pads[p.val]).overdraw
    ∧ ((activate false s).pads[p.val]).attempts = (s.pads[p.val]).attempts
    ∧ ((activate false s).pads[p.val]).grant ≤ (s.pads[p.val]).grant
    ∧ ((activate false s).pads[p.val]).sample =
      if (s.padRec p).group = (s.tables.shadow.padRec p).group
          ∧ s.recordStays .feeder (s.padRec p).group.val = true then (s.pads[p.val]).sample else none := by
  have hlapses := activate_lapses s p
  rw [classOf_kept h] at hlapses
  obtain ⟨hcaps, hreport, hlimit, hfault, hfailures, hoverdraw, hattempts, hgrant, hsample⟩ := hlapses.kept
  refine ⟨hcaps, hreport, hlimit, hfault, hfailures, hoverdraw, hattempts, hgrant, hsample.trans ?_⟩
  exact if_congr keepsSample_iff rfl rfl

/-! ## The groups -/

theorem activate_group_changed {g : GroupId} (h : s.recordStays .feeder g.val = false) :
    ((activate false s).groups[g.val]).headroom = 0 ∧ ((activate false s).groups[g.val]).age = 0
    ∧ ((activate false s).groups[g.val]).hstate = .none ∧ ((activate false s).groups[g.val]).vstate = .normal := by
  obtain ⟨hheadroom, hage, hstate, hvstate⟩ := activateBanks_group s (g := g)
  simp only [activate_groups]
  rw [hheadroom, hage, hstate, hvstate, lostGroup_changed s h]
  exact ⟨rfl, rfl, if_neg fun h => (nomatch h.2.1), rfl⟩

theorem activate_group_stays {g : GroupId} (h : s.recordStays .feeder g.val = true) :
    ((activate false s).groups[g.val]).headroom = (s.groups[g.val]).headroom
    ∧ ((activate false s).groups[g.val]).age = (s.groups[g.val]).age
    ∧ ((activate false s).groups[g.val]).hstate = (s.groups[g.val]).heldFrom s.tables.active s.tables.shadow
    ∧ (((activate false s).groups[g.val]).hstate ≠ (s.groups[g.val]).hstate →
        noticeIn .headroomStale (activate false s).notices.pendingSet = true)
    ∧ (¬ s.sampleLeaves g → ((activate false s).groups[g.val]).vstate = (s.groups[g.val]).vstate)
    ∧ (s.sampleLeaves g → (activate false s).minVoltage g = none →
        ((activate false s).groups[g.val]).vstate = (s.groups[g.val]).vstate)
    ∧ ∀ v : Nat, s.sampleLeaves g → (activate false s).minVoltage g = some v →
        ((activate false s).groups[g.val]).vstate =
          (voltageMove (s.tables.shadow.feederRec g) (s.groups[g.val]).vstate v).1 := by
  obtain ⟨hheadroom, hage, hstate, hvstate⟩ := activateBanks_group s (g := g)
  have hturned := activateBanks_turned s h
  have hmoved := lostGroup_vstate s h
  have hsame := lostGroup_stays s h
  simp only [activate_groups, activate_minVoltage]
  rw [hheadroom, hage, hvstate]
  refine ⟨by rw [hsame], by rw [hsame], hstate.trans (by rw [hsame]; rfl), fun hne => activate_grows s (hturned hne),
    hmoved⟩

/-! ## Where nothing follows the copy -/

/-- What an activation leaves of the pads and of a bank that changes no record, where neither a pass, a halt nor a sweep
follows (R15, R79). -/
theorem activate_follows (hnone : s.alloc.fastShed = .none) (hshed : (activate false s).alloc.fastShed = .none)
    (hengine : s.mode.engine ≠ .discovering) (hstays : (activate false s).mode.engine = s.mode.engine) :
    (∀ p : PadId, s.staysAtAddress p = true → (activate false s).pads[p.val] =
      { s.pads[p.val] with
        sample := ((activate false s).pads[p.val]).sample
        sent :=
          if (∃ q : PadId, s.leavesAddress q = true)
              ∧ (∀ q : PadId, ((activate false s).pads[q.val]).decPending = false)
          then max (s.pads[p.val]).sent (s.pads[p.val]).grant else (s.pads[p.val]).sent })
    ∧ (s.tables.shadow = s.tables.active → (activate false s).pads = s.pads ∧ (activate false s).lines = s.lines
      ∧ (activate false s).alloc = s.alloc ∧ (activate false s).time = s.time) := by
  have hpending (q : PadId) : ((activateBanks s).pads[q.val]).decPending = (s.activatedPad q).decPending := by
    rw [activateBanks_pad]
  rw [activate_plain hnone hshed hengine hstays]
  refine ⟨fun p hp => ?_, fun hsame => ?_⟩
  · have hkept := activatedPad_kept hp
    simp only [hpending]
    rw [activateBanks_pad]
    simp only [hnone, and_true]
    generalize s.activatedPad p = q at *
    rw [hkept]
  · obtain ⟨hpads, hlines, halloc⟩ := activateBanks_same hsame
    exact ⟨hpads, hlines, halloc, activateBanks_time s⟩

end

/-- Settles O23. -/
theorem activationTreatsPadsByClass : Obligations.ActivationTreatsPadsByClass := by
  constructor
  · intro tag s p hc hv hengine hsweep hshed hfigures
    obtain ⟨a, hexec, ha⟩ := exec_checkPassed hc hv hsweep (by rw [hshed]; decide)
    have hgrant (q : PadId) : a.pads[q].grant = 0 := by rw [ha.pads]; exact (hfigures q).1
    have hsent (q : PadId) : a.pads[q].sent = 0 := by rw [ha.pads]; exact (hfigures q).2
    have hpad : (activate false a).pads[p.val] = a.activatedPad p := by
      rw [activate_halted (by rw [ha.mode, hengine]) (by rw [ha.alloc, hshed]) hgrant]
      exact activateBanks_powerless (hgrant p) (hsent p)
    have hclass : a.activatedPad p = (s.pads[p.val]).activated
        (padClass (s.tables.active.padRec p) (s.tables.shadow.padRec p))
        (keepsSample s.tables.active s.tables.shadow p) := by
      simp only [State.activatedPad, classOf, ha.pads, ha.tables]
    rw [hclass] at hpad
    generalize activate false a = t at *
    refine ⟨_, hexec, ?_⟩
    simp only [driveOutputs_pads, Fin.getElem_fin, hpad, padClass]
    refine ⟨fun hold hnew => ?_, fun hold hnew haway => ?_, fun hold hnew => ?_, fun hold hnew hline hdrop => ?_,
      fun hold hnew => ?_⟩
    · rw [hold, hnew]
      exact ⟨rfl, rfl, rfl, rfl, rfl, rfl, rfl, rfl⟩
    · rw [hold, hnew]
      dsimp only
      rw [if_neg fun h => haway.elim (fun hne => hne h.1) fun hne => hne h.2]
      exact ⟨rfl, rfl, rfl, rfl, rfl, rfl, rfl, rfl, rfl⟩
    · rw [hold, hnew]
      exact ⟨rfl, rfl, rfl, rfl⟩
    · rw [hold, hnew]
      dsimp only
      rw [if_pos ⟨hline, hdrop⟩, Pad.activated_kept]
      refine ⟨rfl, ?_⟩
      cases keepsSample s.tables.active s.tables.shadow p with
      | true => exact .inl rfl
      | false => exact .inr rfl
    · rw [hold, hnew]
      rfl
  · intro tag s hc hv hsweep hshed
    obtain ⟨a, hexec, ha⟩ := exec_checkPassed hc hv hsweep hshed
    have hleaving (p : PadId) := activate_leaving (s := a) (p := p)
    have henabling (p : PadId) := activate_enabling (s := a) (p := p)
    have hkeeping (p : PadId) := activate_keeping (s := a) (p := p)
    have hfinal (l : LineId) := activate_final (s := a) (l := l)
    have hurgent (l : LineId) := activate_urgent (s := a) (l := l)
    have hlink (l : LineId) := activate_link (s := a) (l := l)
    have hchanged (g : GroupId) := activate_group_changed (s := a) (g := g)
    have hstays (g : GroupId) := activate_group_stays (s := a) (g := g)
    obtain ⟨hfresh, hshedInput, hstopLatch⟩ := activate_fresh a
    have hrotation := (activate_rotation a).trans (activateBanks_rotation a)
    have hlatch (i : InputId) := activate_latch (s := a) (i := i)
    have hevent (i : InputId) := activate_inputEvent (s := a) (i := i)
    have hstops := activate_stops (s := a)
    have hfollows := activate_follows (s := a)
    have hfeeder (g : GroupId) : (activate false a).feederRec g = s.tables.shadow.feederRec g := by
      rw [State.feederRec, activate_tables, ha.tables]
    simp only [ha.leavesAddress, ha.staysAtAddress, ha.recordStays, ha.padRec, ha.tables, ha.pads]
      at hleaving henabling hkeeping
    simp only [ha.leavesAddress, ha.padRec, ha.lines] at hfinal hurgent hlink
    simp only [ha.recordStays, ha.sampleLeaves, ha.tables, ha.groups] at hchanged hstays
    simp only [ha.recordStays, ha.stopEnters, ha.tables, ha.alloc, ha.signals] at hrotation hlatch hevent hstops
    simp only [ha.staysAtAddress, ha.leavesAddress, ha.tables, ha.pads, ha.lines, ha.alloc, ha.mode, ha.time]
      at hfollows
    generalize activate false a = t at *
    refine ⟨_, hexec, fun p hp => ?_, henabling, hkeeping, fun l => ?_,
      fun g => ⟨hchanged g, hstays g, hshedInput g, ?_⟩, ?_, fun i => ⟨hlatch i, fun hchanged hf hlevel => ⟨hevent i hchanged hf hlevel, fun hstop => ?_⟩⟩, hstopLatch,
      fun hnone hrest hdisc hengine => ?_⟩
    · obtain ⟨⟨⟨hgrant, hsent, hprior, hpending, hreservation⟩, hrounds, hcaps, hdispatch, ⟨hdelivered, hremaining⟩,
        hfault, hfailures, hoverdraw, hsample, hdocking, hscope⟩, hclass⟩ := hleaving p hp
      exact ⟨hgrant, hsent, hprior, hpending, hreservation, hrounds, hcaps, hdispatch, hdelivered, hremaining, hfault,
        hfailures, hoverdraw, hsample, hdocking, hscope, hclass⟩
    · obtain ⟨hmem, hprefix, hnodup⟩ := hfinal l
      obtain ⟨hkept, hgone⟩ := hurgent l
      obtain ⟨hposition, hflight, hwire⟩ := hlink l
      exact ⟨hmem, hprefix, hnodup, hkept, hgone, hposition, hflight, hwire⟩
    · exact (hfresh g).trans (by rw [hfeeder g]; rfl)
    · rw [driveOutputs_alloc, hrotation]
      exact if_congr (and_congr eq_comm eq_comm) rfl rfl
    · exact hstops ⟨i, hchanged, hstop, hlevel⟩
    · obtain ⟨hkept, hsame⟩ := hfollows hnone hrest hdisc hengine
      refine ⟨hkept, fun heq => ?_⟩
      obtain ⟨hpads, hlines, halloc, htime⟩ := hsame heq
      refine ⟨hpads, hlines, halloc, Vector.ext fun i hi => ?_, htime, fun g => ?_⟩
      · have hi := hlatch ⟨i, hi⟩
        rw [recordStays_same heq, Bool.and_true] at hi
        exact hi
      · obtain ⟨hheadroom, hage, hstate, -, hvstate, -⟩ := hstays g (recordStays_same heq _ _)
        refine ⟨hheadroom, hage, hstate.trans ?_, hvstate (sampleLeaves_same heq g)⟩
        exact if_neg fun h => h.1 (by rw [heq])

end Sys2Proof.Machine

/-! PROOFS. The issue of a sweep's grants, pad by pad (R73 to R75, R79). -/

namespace Sys2Proof.Machine

/-! ## The list a pad finds its figures in -/

theorem lookup_of_mem {l : List (PadId × Nat)} (h : (l.map Prod.fst).Nodup) {p : PadId} {n : Nat} (hm : (p, n) ∈ l) :
    l.lookup p = some n := by
  induction l with
  | nil => exact nomatch hm
  | cons e l ih =>
    obtain ⟨q, m⟩ := e
    rw [List.map_cons, List.nodup_cons] at h
    rcases List.mem_cons.mp hm with heq | hm
    · obtain ⟨rfl, rfl⟩ := Prod.mk.inj heq
      exact List.lookup_cons_self
    · have hmem : p ∈ l.map Prod.fst := List.mem_map_of_mem (f := Prod.fst) hm
      have hne : (p == q) = false := beq_eq_false_iff_ne.mpr fun heq => h.1 (heq ▸ hmem)
      rw [List.lookup_cons, hne]
      exact ih h.2 hm

theorem find?_of_mem {es : List Entry} (h : (es.map Entry.pad).Nodup) {e : Entry} (he : e ∈ es) :
    (es.find? fun f => f.pad == e.pad) = some e := by
  induction es with
  | nil => exact nomatch he
  | cons f es ih =>
    rw [List.map_cons, List.nodup_cons] at h
    rcases List.mem_cons.mp he with rfl | he
    · rw [List.find?_cons, beq_self_eq_true]
    · have hne : (f.pad == e.pad) = false :=
        beq_eq_false_iff_ne.mpr fun heq => h.1 (heq ▸ List.mem_map_of_mem (f := Entry.pad) he)
      rw [List.find?_cons, hne]
      exact ih h.2 he

section
variable {x : Snapshot} {o : Nat} {p : PadId} {n : Nat}

/-- A pad's new grant is the list's result, or 0 for a pad that is not on it (R73). -/
theorem newGrant_of_list (h : (p, n) ∈ sweepGrants x o ∨ (n = 0 ∧ ∀ m : Nat, (p, m) ∉ sweepGrants x o)) :
    newGrant (sweepGrants x o) p = n := by
  rcases h with hm | ⟨rfl, hno⟩
  · have hnodup : ((sweepGrants x o).map Prod.fst).Nodup := by
      rw [sweepGrants_pads]
      exact orderList_nodup x o
    rw [newGrant, lookup_of_mem hnodup hm]
    rfl
  · have hnone : (sweepGrants x o).lookup p = none := by
      rw [List.lookup_eq_none_iff]
      rintro ⟨q, m⟩ hq
      rw [bne_iff_ne]
      rintro rfl
      exact hno m hq
    rw [newGrant, hnone]
    rfl

/-- A pad's need and urgency are those of its entry (R66, R75). -/
theorem writeNeed_of_entry {e : Entry} (he : e ∈ orderList x o) (hp : e.pad = p) (q : Pad) :
    q.writeNeed (orderList x o) p = { q with need := e.need, urgency := e.urgency } := by
  have hfind : ((orderList x o).find? fun e => e.pad == p) = some e := hp ▸ find?_of_mem (orderList_nodup x o) he
  rw [Pad.writeNeed, hfind]

theorem writeNeed_of_none (h : ∀ e : Entry, e ∈ orderList x o → e.pad ≠ p) (q : Pad) :
    q.writeNeed (orderList x o) p = { q with need := 0, urgency := 0 } := by
  have hfind : ((orderList x o).find? fun e => e.pad == p) = none :=
    List.find?_eq_none.mpr fun e he => by simpa using h e he
  rw [Pad.writeNeed, hfind]

end

/-! ## The figures of an issued pad -/

section
variable {q : Pad} {n : Nat}

theorem Pad.issued_of_not_stayed (h : q.stayed = false) : q.issued n = q := if_neg (by simp [h])

/-- A pad of the issue set holds its new grant, and a fall is sent (R74 to R76). -/
theorem Pad.issued_of_stayed (h : q.stayed = true) : q.issued n =
    { q with
      state := if 0 < n then .charging else .waiting
      grant := n, sent := min n q.sent, decPending := q.decPending || decide (n < q.sent)
      prior := if n < q.sent then (if q.decPending then max q.prior q.sent else q.sent) else q.prior } := by
  have hserved : (if 0 < n then SessionState.charging else SessionState.waiting).served = true := by
    split <;> rfl
  rw [Pad.issued, if_pos h]
  by_cases hlt : n < q.sent
  · rw [if_pos hlt, Pad.lower_eq, Pad.issue, Pad.setState, hserved]
    simp [h, hlt]
  · rw [if_neg hlt, Pad.issue, Pad.setState, hserved]
    simp [h, hlt, Nat.min_eq_right (Nat.not_lt.mp hlt)]

theorem Pad.issued_rest (q : Pad) (n : Nat) : q.issued n =
    { q with
      state := (q.issued n).state, grant := (q.issued n).grant, sent := (q.issued n).sent
      prior := (q.issued n).prior, decPending := (q.issued n).decPending } := by
  by_cases h : q.stayed = true
  · rw [Pad.issued_of_stayed h]
  · rw [Pad.issued_of_not_stayed (Bool.eq_false_iff.mpr h)]

end

/-! ## The pads and lines as the sweep completes -/

section
variable (x : Snapshot) (s : State) (p : PadId)

/-- Pad `p` with its grant issued, before the increase release (R74, R75). -/
def State.issuedPad : Pad :=
  ((s.pads[p.val]).issued (newGrant (sweepGrants x s.alloc.rotation) p)).writeNeed (orderList x s.alloc.rotation) p

theorem issuePads_pending : (issuePads x s).anyPending = false ↔ ∀ q : PadId, (s.issuedPad x q).decPending = false := by
  simp [State.anyPending, allPads, issuePads_get, State.issuedPad]

theorem issued_pad : (issued x s).pads[p.val] =
    { s.issuedPad x p with
      sent := if (∀ q : PadId, (s.issuedPad x q).decPending = false) ∧ s.alloc.fastShed = .none
        then max (s.issuedPad x p).sent (s.issuedPad x p).grant else (s.issuedPad x p).sent } := by
  have hshed : (issuePads x s).alloc.fastShed = s.alloc.fastShed := by simp [issuePads]
  have hpad := increaseRelease_pad (s := issuePads x s) p
  simp only [issuePads_pending, hshed, issuePads_get] at hpad
  exact hpad

/-- A pad whose sent setpoint falls at the issue goes out from its line's urgent list (R76, R139). -/
theorem issued_urgent (hstay : (s.pads[p.val]).stayed = true)
    (hlt : newGrant (sweepGrants x s.alloc.rotation) p < (s.pads[p.val]).sent) :
    p ∈ ((issued x s).lines[((s.padRec p).line).val]).urgent := by
  simp only [issued_lines, issuePads, State.mapPads_lines, decreaseMany_line]
  by_cases hmem : p ∈ (s.lines[((s.padRec p).line).val]).urgent
  · exact List.mem_append_left _ hmem
  · exact List.mem_append_right _ (mem_joiningMany.mpr ⟨⟨_, if_pos ⟨hstay, hlt⟩, hlt⟩, rfl, hmem⟩)

end

end Sys2Proof.Machine

/-! PROOFS. The steps at a sweep's end: the held scope change, the PENDING commit and the fast-shed check (R86). -/

namespace Sys2Proof.Machine

/-! ## The held scope change (R86, R176, R177) -/

section
variable {s : State} {y : Scope} {p : PadId}

theorem applyHeld_none (h : s.mode.held = none) : applyHeld s = s := by
  rw [applyHeld, h]

theorem applyHeld_some (h : s.mode.held = some y) :
    applyHeld s = applyScope y (s.withMode { s.mode with held := none }) := by
  rw [applyHeld, h]

theorem applyHeld_mode (s : State) : (applyHeld s).mode =
    { s.mode with scope := s.mode.held.getD s.mode.scope, held := none } := by
  cases h : s.mode.held with
  | none => rw [applyHeld_none h, Option.getD_none, ← h]
  | some y =>
    rw [applyHeld_some h]
    simp [applyScope_eq]

theorem applyHeld_fall (s : State) (p : PadId) :
    ({ s.pads[p.val] with inScope := ((applyHeld s).pads[p.val]).inScope } : Pad).Fall (applyHeld s).pads[p.val] := by
  cases h : s.mode.held with
  | none =>
    rw [applyHeld_none h]
    exact .refl _
  | some y =>
    have hfall := applyScope_pad (s := s.withMode { s.mode with held := none }) (x := y) p
    have hmark : ((applyHeld s).pads[p.val]).inScope = y.holds p := by
      rw [applyHeld_some h, hfall.rest]
    rw [hmark, applyHeld_some h]
    exact hfall

theorem applyHeld_mark (h : s.mode.held = some y) (p : PadId) : ((applyHeld s).pads[p.val]).inScope = y.holds p := by
  rw [applyHeld_some h, (applyScope_pad (s := s.withMode { s.mode with held := none }) (x := y) p).rest]

/-- A pad that does not lose its mark keeps its figures. -/
theorem applyHeld_stays (h : (s.pads[p.val]).inScope = false ∨ ((applyHeld s).pads[p.val]).inScope = true) :
    (applyHeld s).pads[p.val] = { s.pads[p.val] with inScope := ((applyHeld s).pads[p.val]).inScope } := by
  cases hheld : s.mode.held with
  | none => rw [applyHeld_none hheld]
  | some y =>
    rw [applyHeld_mark hheld] at h ⊢
    rw [applyHeld_some hheld]
    exact applyScope_other (s := s.withMode { s.mode with held := none }) p (h.imp_right .inl)

/-- A pad that loses its mark is lowered to 0 by the decrease path, or has no grant (R177). -/
theorem applyHeld_lost (hin : (s.pads[p.val]).inScope = true) (hout : ((applyHeld s).pads[p.val]).inScope = false) :
    (applyHeld s).pads[p.val] =
      if 0 < (s.pads[p.val]).grant then ({ s.pads[p.val] with inScope := false } : Pad).lower 0
      else { s.pads[p.val] with inScope := false } := by
  cases hheld : s.mode.held with
  | none =>
    rw [applyHeld_none hheld] at hout
    exact nomatch hout.symm.trans hin
  | some y =>
    rw [applyHeld_mark hheld] at hout
    rw [applyHeld_some hheld]
    split
    next hpos => exact applyScope_lost (s := s.withMode { s.mode with held := none }) p hin hout hpos
    next hzero =>
      have hother := applyScope_other (s := s.withMode { s.mode with held := none }) (x := y) p
        (.inr (.inr (Nat.eq_zero_of_not_pos hzero)))
      rw [hother, hout]
      rfl

theorem applyHeld_urgent (hin : (s.pads[p.val]).inScope = true) (hout : ((applyHeld s).pads[p.val]).inScope = false)
    (hpos : 0 < (s.pads[p.val]).grant) (hsent : 0 < (s.pads[p.val]).sent) :
    p ∈ ((applyHeld s).lines[((s.padRec p).line).val]).urgent := by
  cases hheld : s.mode.held with
  | none =>
    rw [applyHeld_none hheld] at hout
    exact nomatch hout.symm.trans hin
  | some y =>
    rw [applyHeld_mark hheld] at hout
    rw [applyHeld_some hheld]
    exact applyScope_urgent (s := s.withMode { s.mode with held := none }) p hin hout hpos hsent

theorem applyHeld_grows (s : State) (l : LineId) :
    (s.lines[l.val]).urgent <+: ((applyHeld s).lines[l.val]).urgent := by
  cases h : s.mode.held with
  | none =>
    rw [applyHeld_none h]
  | some y =>
    rw [applyHeld_some h, applyScope_eq, decreaseMany_line]
    exact List.prefix_append _ _

end

/-! ## The PENDING commit (R17, R86) -/

section
variable {s : State}

theorem activate_at_end (h : s.mode.engine = .running) : activate false s =
    haltIfStopped s.tables.active s.tables.shadow s.activatedChecked := by
  have hengine : s.activatedChecked.mode.engine = .running := activatedChecked_engine.trans h
  rw [activate_checked]
  refine activateMarks_of_not_discovering _ ?_
  unfold haltIfStopped
  split
  · rw [(haltEffects_engine _).1]
    nofun
  · rw [hengine]
    nofun

theorem activatePending_other (h : s.tables.commit ≠ .pending) : activatePending s = s := if_neg h

theorem activatePending_taken (h : s.tables.commit = .pending) : activatePending s = activate false s := if_pos h

theorem haltIfStopped_alloc (old new : Bank) (s : State) :
    (haltIfStopped old new s).alloc.rounds = s.alloc.rounds ∧ (haltIfStopped old new s).alloc.kept = s.alloc.kept
    ∧ (s.alloc.sweep = none → (haltIfStopped old new s).alloc.sweep = none) := by
  unfold haltIfStopped
  split
  · rw [(haltEffects_engine s).2.2]
    exact ⟨rfl, rfl, fun _ => rfl⟩
  · exact ⟨rfl, rfl, id⟩

theorem haltIfStopped_mode (old new : Bank) (s : State) : (haltIfStopped old new s).mode.scope = s.mode.scope
    ∧ (haltIfStopped old new s).mode.held = s.mode.held := by
  unfold haltIfStopped
  split
  · rw [(haltEffects_engine s).1]
    exact ⟨rfl, rfl⟩
  · exact ⟨rfl, rfl⟩

/-- What the activation of a PENDING commit leaves at a sweep's end. -/
structure EndedAs (s t : State) : Prop where
  rounds : t.alloc.rounds = s.alloc.rounds
  kept : t.alloc.kept = s.alloc.kept
  sweep : s.alloc.sweep = none → t.alloc.sweep = none
  scope : t.mode.scope = s.mode.scope
  held : t.mode.held = s.mode.held
  running : t.time.running = s.time.running
  captures : t.notices.captures = s.notices.captures
  rx : t.fleet.rx = s.fleet.rx
  mark : ∀ p : PadId, (t.pads[p.val]).inScope = (s.pads[p.val]).inScope
  need : ∀ p : PadId, (t.pads[p.val]).need = (s.pads[p.val]).need ∧ (t.pads[p.val]).urgency = (s.pads[p.val]).urgency
  powerless : ∀ p : PadId, (s.pads[p.val]).grant = 0 → (t.pads[p.val]).grant = 0
    ∧ ((s.pads[p.val]).sent = 0 → (t.pads[p.val]).sent = 0)

theorem EndedAs.refl (s : State) : EndedAs s s :=
  ⟨rfl, rfl, id, rfl, rfl, rfl, rfl, rfl, fun _ => rfl, fun _ => ⟨rfl, rfl⟩, fun _ h => ⟨h, id⟩⟩

theorem EndedAs.trans {t u : State} (h : EndedAs s t) (h' : EndedAs t u) : EndedAs s u where
  rounds := h'.rounds.trans h.rounds
  kept := h'.kept.trans h.kept
  sweep := h'.sweep ∘ h.sweep
  scope := h'.scope.trans h.scope
  held := h'.held.trans h.held
  running := h'.running.trans h.running
  captures := h'.captures.trans h.captures
  rx := h'.rx.trans h.rx
  mark p := (h'.mark p).trans (h.mark p)
  need p := ⟨(h'.need p).1.trans (h.need p).1, (h'.need p).2.trans (h.need p).2⟩
  powerless p hp := ⟨(h'.powerless p (h.powerless p hp).1).1, fun hsent =>
    (h'.powerless p (h.powerless p hp).1).2 ((h.powerless p hp).2 hsent)⟩

theorem Pad.activated_stands (x : PadClass) (b : Bool) (q : Pad) : (q.activated x b).inScope = q.inScope
    ∧ (q.activated x b).need = q.need ∧ (q.activated x b).urgency = q.urgency := by
  cases x with
  | kept => cases b <;> exact ⟨rfl, rfl, rfl⟩
  | _ => exact ⟨rfl, rfl, rfl⟩

theorem fastShedCheck_endedAs (s : State) : EndedAs s (fastShedCheck s) := by
  have h := calm_fastShedCheck s
  have hpad (p : PadId) := (h.others p nofun).rest
  simp only [Fin.getElem_fin] at hpad
  refine
    { rounds := by rw [h.alloc]
      kept := by rw [h.alloc]
      sweep := fun hs => by rw [h.alloc]; exact hs
      scope := by rw [h.mode]
      held := by rw [h.mode]
      running := by rw [h.time]
      captures := by rw [fastShedCheck_notices]
      rx := by rw [fastShedCheck_fleet]
      mark := fun p => (congrArg Pad.inScope (hpad p)).trans rfl
      need := fun p => ⟨(congrArg Pad.need (hpad p)).trans rfl, (congrArg Pad.urgency (hpad p)).trans rfl⟩
      powerless := fun p hp => by rw [fastShedCheck_spares p hp]; exact ⟨hp, id⟩ }

theorem activatedPad_powerless {p : PadId} (hgrant : (s.pads[p.val]).grant = 0) : (s.activatedPad p).grant = 0
    ∧ ((s.pads[p.val]).sent = 0 → (s.activatedPad p).sent = 0) := by
  refine ⟨Nat.le_zero.mp ((Pad.activated_grant_le _ _ _).trans hgrant.le), fun hsent => ?_⟩
  unfold State.activatedPad
  cases classOf s.tables.active s.tables.shadow p with
  | absent | enabled => exact hsent
  | disabled | moved => rfl
  | kept =>
    rw [Pad.activated_kept]
    exact hsent

theorem activateBanks_endedAs (s : State) : EndedAs s (activateBanks s) := by
  have hpad (p : PadId) := activateBanks_pad (s := s) p
  have hstands (p : PadId) : (s.activatedPad p).inScope = (s.pads[p.val]).inScope
      ∧ (s.activatedPad p).need = (s.pads[p.val]).need ∧ (s.activatedPad p).urgency = (s.pads[p.val]).urgency :=
    Pad.activated_stands _ _ _
  refine
    { rounds := by rw [activateBanks_alloc]
      kept := by rw [activateBanks_alloc]
      sweep := fun hs => by rw [activateBanks_alloc]; exact hs
      scope := by rw [activateBanks_mode]
      held := by rw [activateBanks_mode]
      running := by rw [activateBanks_time]
      captures := activateBanks_captures s
      rx := by rw [(noticed_activateBanks s).fleet]
      mark := fun p => by rw [hpad, ← (hstands p).1]
      need := fun p => by rw [hpad, ← (hstands p).2.1, ← (hstands p).2.2]; exact ⟨rfl, rfl⟩
      powerless := fun p hp => ?_ }
  obtain ⟨hgrant, hsent⟩ := activatedPad_powerless hp
  rw [hpad]
  refine ⟨hgrant, fun hs => ?_⟩
  dsimp only
  rw [hgrant, hsent hs, Nat.max_self, ite_self]

theorem haltIfStopped_endedAs (old new : Bank) (s : State) : EndedAs s (haltIfStopped old new s) := by
  obtain ⟨hrounds, hkept, hsweep⟩ := haltIfStopped_alloc old new s
  obtain ⟨hscope, hheld⟩ := haltIfStopped_mode old new s
  have hpad (p : PadId) : (haltIfStopped old new s).pads[p.val] = s.pads[p.val]
      ∨ (haltIfStopped old new s).pads[p.val] = (s.pads[p.val]).halt := by
    unfold haltIfStopped
    split
    · exact .inr (by simp [haltEffects])
    · exact .inl rfl
  refine
    { rounds := hrounds
      kept := hkept
      sweep := hsweep
      scope := hscope
      held := hheld
      running := haltIfStopped_running s old new
      captures := by rw [haltIfStopped_notices]
      rx := by rw [haltIfStopped_fleet]
      mark := fun p => ?_
      need := fun p => ?_
      powerless := fun p hp => ?_ }
  all_goals rcases hpad p with h | h <;> rw [h]
  · rw [Pad.halt_eq]
  · exact ⟨rfl, rfl⟩
  · rw [Pad.halt_eq]
    exact ⟨rfl, rfl⟩
  · exact ⟨hp, id⟩
  · rw [Pad.halt_eq]
    exact ⟨rfl, fun _ => rfl⟩

theorem activate_endedAs (h : s.mode.engine = .running) : EndedAs s (activate false s) := by
  rw [activate_at_end h]
  exact ((activateBanks_endedAs s).trans (fastShedCheck_endedAs _)).trans (haltIfStopped_endedAs _ _ _)

theorem activatePending_endedAs (h : s.mode.engine = .running) : EndedAs s (activatePending s) := by
  by_cases hc : s.tables.commit = .pending
  · rw [activatePending_taken hc]
    exact activate_endedAs h
  · rw [activatePending_other hc]
    exact .refl s

end

end Sys2Proof.Machine

/-! PROOFS. ISSUE_STAGE: the issue of the grants and the end of the sweep (R58, R73 to R75, R79, R86). -/

namespace Sys2Proof.Machine

section
variable {s : State} {x : Snapshot}

theorem issueStage_steps (h : s.alloc.sweep = some x) :
    issueStage s = fastShedCheck (activatePending (applyHeld (issued x s))) := issueStage_eq h

theorem issueStage_plain (h : s.alloc.sweep = some x) (hc : s.tables.commit ≠ .pending) :
    issueStage s = fastShedCheck (applyHeld (issued x s)) := by
  rw [issueStage_steps h, activatePending_other]
  rwa [applyHeld_tables, issued_tables]

/-- What the issue and the held scope change leave, up to the PENDING commit. -/
theorem issueStage_endedAs (h : s.alloc.sweep = some x) (hengine : s.mode.engine = .running) :
    EndedAs (applyHeld (issued x s)) (issueStage s) := by
  have hrunning : (applyHeld (issued x s)).mode.engine = .running := by
    rw [applyHeld_engine, issued_mode, hengine]
  rw [issueStage_steps h]
  exact (activatePending_endedAs hrunning).trans (fastShedCheck_endedAs _)

/-! ## The pads at the issue -/

theorem issuedPad_rest (p : PadId) : s.issuedPad x p =
    { s.pads[p.val] with
      state := (s.issuedPad x p).state, grant := (s.issuedPad x p).grant, sent := (s.issuedPad x p).sent
      prior := (s.issuedPad x p).prior, decPending := (s.issuedPad x p).decPending
      need := (s.issuedPad x p).need, urgency := (s.issuedPad x p).urgency } := by
  unfold State.issuedPad
  rw [Pad.writeNeed_eq]
  generalize newGrant (sweepGrants x s.alloc.rotation) p = n
  have hrest := Pad.issued_rest s.pads[p.val] n
  generalize (s.pads[p.val]).issued n = q at *
  generalize (q.writeNeed (orderList x s.alloc.rotation) p).need = a
  generalize (q.writeNeed (orderList x s.alloc.rotation) p).urgency = b
  exact congrArg (fun r : Pad => { r with need := a, urgency := b }) hrest

/-- The figures of a pad of the issue set with its grant issued (R74 to R76). -/
theorem issuedPad_stayed {p : PadId} {n : Nat} (hn : newGrant (sweepGrants x s.alloc.rotation) p = n)
    (h : (s.pads[p.val]).stayed = true) : (s.issuedPad x p).grant = n
    ∧ (s.issuedPad x p).state = (if 0 < n then .charging else .waiting)
    ∧ (s.issuedPad x p).sent = min n (s.pads[p.val]).sent
    ∧ (s.issuedPad x p).decPending = ((s.pads[p.val]).decPending || decide (n < (s.pads[p.val]).sent))
    ∧ (s.issuedPad x p).prior = if n < (s.pads[p.val]).sent then
        (if (s.pads[p.val]).decPending then max (s.pads[p.val]).prior (s.pads[p.val]).sent else (s.pads[p.val]).sent)
      else (s.pads[p.val]).prior := by
  unfold State.issuedPad
  rw [Pad.writeNeed_eq, hn, Pad.issued_of_stayed h]
  exact ⟨rfl, rfl, rfl, rfl, rfl⟩

theorem issuedPad_idle {p : PadId} (h : (s.pads[p.val]).stayed = false) :
    (s.issuedPad x p).grant = (s.pads[p.val]).grant ∧ (s.issuedPad x p).state = (s.pads[p.val]).state
    ∧ (s.issuedPad x p).decPending = (s.pads[p.val]).decPending
    ∧ (s.issuedPad x p).prior = (s.pads[p.val]).prior := by
  unfold State.issuedPad
  rw [Pad.writeNeed_eq, Pad.issued_of_not_stayed h]
  exact ⟨rfl, rfl, rfl, rfl⟩

theorem issued_mark (p : PadId) : ((issued x s).pads[p.val]).inScope = (s.pads[p.val]).inScope := by
  rw [issued_pad]
  exact (congrArg Pad.inScope (issuedPad_rest (s := s) (x := x) p)).trans rfl

/-! ## The pads at the end, where no commit is PENDING and no pass runs -/

theorem fastShedCheck_needs (hr : s.alloc.fastShed ≠ .running) (h : (fastShedCheck s).alloc.fastShed = .none) :
    s.needsShed = false := by
  by_contra hn
  have hneeds : s.needsShed = true := by simpa using hn
  cases hs : s.alloc.sweep.isSome with
  | true =>
    rw [fastShedCheck_sweeping s hneeds hr hs] at h
    exact nomatch h
  | false =>
    rw [fastShedCheck_starts s hneeds hr hs, startPass_running] at h
    exact nomatch h

theorem issueStage_pad (h : s.alloc.sweep = some x) (hc : s.tables.commit ≠ .pending) (hr : s.alloc.fastShed ≠ .running)
    (hend : (issueStage s).alloc.fastShed = .none) (p : PadId) : (issueStage s).pads[p.val] =
      { (applyHeld (issued x s)).pads[p.val] with
        sent := if s.alloc.fastShed = .pending ∧ (applyHeld (issued x s)).anyPending = false then
            max ((applyHeld (issued x s)).pads[p.val]).sent ((applyHeld (issued x s)).pads[p.val]).grant
          else ((applyHeld (issued x s)).pads[p.val]).sent } := by
  have hshed : (applyHeld (issued x s)).alloc.fastShed = s.alloc.fastShed := by rw [applyHeld_alloc, issued_alloc]
  rw [issueStage_plain h hc] at hend ⊢
  have hpad := fastShedCheck_none_pad (by rw [hshed]; exact hr)
    (fastShedCheck_needs (by rw [hshed]; exact hr) hend) p
  rw [hshed] at hpad
  exact hpad

theorem issueStage_anyPending (h : s.alloc.sweep = some x) (hc : s.tables.commit ≠ .pending)
    (hr : s.alloc.fastShed ≠ .running) (hend : (issueStage s).alloc.fastShed = .none) :
    (issueStage s).anyPending = (applyHeld (issued x s)).anyPending := by
  have hpad (p : PadId) :
      ((issueStage s).pads[p.val]).decPending = ((applyHeld (issued x s)).pads[p.val]).decPending := by
    rw [issueStage_pad h hc hr hend]
  simp only [State.anyPending, Fin.getElem_fin, hpad]

theorem anyPending_eq_false : s.anyPending = false ↔ ∀ p : PadId, (s.pads[p.val]).decPending = false := by
  simp [State.anyPending, allPads]

/-- A pad that keeps its mark keeps what the issue gave it; a rise waits while any decrease is pending (R79). -/
theorem issueStage_kept (h : s.alloc.sweep = some x) (hc : s.tables.commit ≠ .pending)
    (hr : s.alloc.fastShed ≠ .running) (hend : (issueStage s).alloc.fastShed = .none) {p : PadId}
    (hmark : (s.pads[p.val]).inScope = false ∨ ((issueStage s).pads[p.val]).inScope = true) :
    ∃ n : Nat, (issueStage s).pads[p.val] =
        { s.issuedPad x p with inScope := ((issueStage s).pads[p.val]).inScope, sent := n }
      ∧ (n = (s.issuedPad x p).sent ∨ n = max (s.issuedPad x p).sent (s.issuedPad x p).grant)
      ∧ ((issueStage s).anyPending = false → n = max (s.issuedPad x p).sent (s.issuedPad x p).grant)
      ∧ (s.mode.held = none → (issueStage s).anyPending = true → n = (s.issuedPad x p).sent) := by
  have hany := issueStage_anyPending h hc hr hend
  have hpad := issueStage_pad h hc hr hend p
  have hin : ((issueStage s).pads[p.val]).inScope = ((applyHeld (issued x s)).pads[p.val]).inScope := by rw [hpad]
  have hstays := applyHeld_stays (s := issued x s) (p := p) (by rw [issued_mark, ← hin]; exact hmark)
  have hissued := issued_pad x s p
  have hclear : (applyHeld (issued x s)).anyPending = false → ∀ q : PadId, (s.issuedPad x q).decPending = false := by
    intro hfalse q
    by_contra hpending
    have hfall := (applyHeld_fall (issued x s) q).pending (by
      rw [issued_pad]
      simpa using hpending)
    exact nomatch ((anyPending_eq_false.mp hfalse) q).symm.trans hfall
  have hpending : s.mode.held = none → (applyHeld (issued x s)).anyPending = true →
      ¬ ∀ q : PadId, (s.issuedPad x q).decPending = false := by
    intro hheld htrue hall
    rw [applyHeld_none (by rwa [issued_mode])] at htrue
    have hfalse : (issued x s).anyPending = false := anyPending_eq_false.mpr fun q => by
      rw [issued_pad]
      exact hall q
    exact nomatch hfalse.symm.trans htrue
  rw [hany]
  rw [hstays, hissued] at hpad
  refine ⟨_, by rw [hin]; exact hpad, ?_⟩
  dsimp only
  cases hf : s.alloc.fastShed with
  | running => exact absurd hf hr
  | none =>
    have hno : ¬ (FastShed.none = .pending ∧ (applyHeld (issued x s)).anyPending = false) := fun h => nomatch h.1
    rw [if_neg hno]
    refine ⟨?_, fun hfalse => if_pos ⟨hclear hfalse, rfl⟩, fun hheld htrue => if_neg fun h => hpending hheld htrue h.1⟩
    split
    · exact .inr rfl
    · exact .inl rfl
  | pending =>
    have hno : ¬ ((∀ q : PadId, (s.issuedPad x q).decPending = false) ∧ FastShed.pending = .none) := fun h => nomatch h.2
    rw [if_neg hno]
    refine ⟨?_, fun hfalse => if_pos ⟨rfl, hfalse⟩, fun _ htrue => if_neg fun h => ?_⟩
    · split
      · exact .inr rfl
      · exact .inl rfl
    · exact nomatch h.2.symm.trans htrue

/-! ## A pad that loses its mark (R177) -/

theorem issued_sent_le (p : PadId) : (s.issuedPad x p).sent ≤ ((issued x s).pads[p.val]).sent := by
  rw [issued_pad]
  dsimp only
  split
  · exact Nat.le_max_left _ _
  · exact Nat.le_refl _

theorem applyHeld_lost_grant {u : State} {p : PadId} (hin : (u.pads[p.val]).inScope = true)
    (hout : ((applyHeld u).pads[p.val]).inScope = false) : ((applyHeld u).pads[p.val]).grant = 0 := by
  have hlost := applyHeld_lost hin hout
  split at hlost
  · rw [hlost, Pad.lower_eq]
  next hzero =>
    rw [hlost]
    exact Nat.eq_zero_of_not_pos hzero

/-- A pad of the issue set that loses its mark: nothing is sent, and the fall goes out (R76, R177). -/
structure LostAtIssue (s u : State) (p : PadId) : Prop where
  sent : (u.pads[p.val]).sent = 0
  state : (u.pads[p.val]).state = .waiting
  falls : 0 < (s.pads[p.val]).sent → (u.pads[p.val]).decPending = true
    ∧ (s.pads[p.val]).sent ≤ (u.pads[p.val]).prior ∧ p ∈ (u.lines[((s.padRec p).line).val]).urgent

/-- The figures of a pad of the issue set as the sweep completes (R74, R79). -/
theorem issued_figures {p : PadId} (hstay : (s.pads[p.val]).stayed = true) : ∃ n : Nat,
    n = newGrant (sweepGrants x s.alloc.rotation) p ∧ ((issued x s).pads[p.val]).grant = n
    ∧ ((issued x s).pads[p.val]).state = (if 0 < n then .charging else .waiting)
    ∧ min n (s.pads[p.val]).sent ≤ ((issued x s).pads[p.val]).sent ∧ ((issued x s).pads[p.val]).sent ≤ n
    ∧ (n < (s.pads[p.val]).sent → ((issued x s).pads[p.val]).decPending = true
      ∧ (s.pads[p.val]).sent ≤ ((issued x s).pads[p.val]).prior) := by
  obtain ⟨hgrant, hstate, hsent, hpending, hprior⟩ := issuedPad_stayed (x := x) rfl hstay
  have hle := issued_sent_le (s := s) (x := x) p
  refine ⟨_, rfl, ?_, ?_, hsent ▸ hle, ?_, fun hlt => ?_⟩ <;> rw [issued_pad]
  · exact hgrant
  · exact hstate
  · dsimp only
    rw [hsent, hgrant]
    split <;> omega
  · refine ⟨by rw [hpending, decide_eq_true hlt, Bool.or_true], ?_⟩
    rw [hprior, if_pos hlt]
    split <;> omega

theorem lostAtIssue {p : PadId} (hstay : (s.pads[p.val]).stayed = true) (hin : (s.pads[p.val]).inScope = true)
    (hout : ((applyHeld (issued x s)).pads[p.val]).inScope = false) : LostAtIssue s (applyHeld (issued x s)) p := by
  obtain ⟨n, hn, hgrant, hstate, hge, hle, hfalls⟩ := issued_figures (x := x) hstay
  have hmark : ((issued x s).pads[p.val]).inScope = true := (issued_mark p).trans hin
  have hlost := applyHeld_lost hmark hout
  have hurgent := applyHeld_urgent (s := issued x s) hmark hout
  have hgrows := applyHeld_grows (issued x s) (s.padRec p).line
  have hfell := issued_urgent x s p hstay
  have hrec : (issued x s).padRec p = s.padRec p := by rw [State.padRec, issued_tables]; rfl
  simp only [hrec, hgrant] at hurgent
  rw [← hn] at hfell
  rw [hgrant] at hlost
  by_cases hpos : 0 < n
  · have hserved : ((issued x s).pads[p.val]).state.served = true := by rw [hstate, if_pos hpos]; rfl
    rw [if_pos hpos, Pad.lower_eq] at hlost
    refine ⟨by rw [hlost]; exact Nat.zero_min _, by rw [hlost]; exact if_pos ⟨rfl, hserved⟩, fun hsent => ?_⟩
    have hup : 0 < ((issued x s).pads[p.val]).sent := by omega
    refine ⟨by rw [hlost]; simp [hup], ?_, hurgent hpos hup⟩
    rw [hlost]
    dsimp only
    rw [if_pos hup]
    by_cases hlt : n < (s.pads[p.val]).sent
    · obtain ⟨hdec, hprior⟩ := hfalls hlt
      rw [if_pos hdec]
      omega
    · split <;> omega
  · rw [if_neg hpos] at hlost
    refine ⟨by rw [hlost]; dsimp only; omega, by rw [hlost]; exact hstate.trans (if_neg hpos), fun hsent => ?_⟩
    have hlt : n < (s.pads[p.val]).sent := by omega
    obtain ⟨hdec, hprior⟩ := hfalls hlt
    exact ⟨by rw [hlost]; exact hdec, by rw [hlost]; exact hprior, hgrows.subset (hfell hlt)⟩

/-! ## The state as the held scope change has been applied -/

theorem heldApplied_rest (p : PadId) : (applyHeld (issued x s)).pads[p.val] =
    { s.issuedPad x p with
      inScope := ((applyHeld (issued x s)).pads[p.val]).inScope, state := ((applyHeld (issued x s)).pads[p.val]).state
      grant := ((applyHeld (issued x s)).pads[p.val]).grant, sent := ((applyHeld (issued x s)).pads[p.val]).sent
      prior := ((applyHeld (issued x s)).pads[p.val]).prior
      decPending := ((applyHeld (issued x s)).pads[p.val]).decPending } := by
  have hrest := (applyHeld_fall (issued x s) p).rest
  rw [issued_pad] at hrest
  exact hrest

theorem heldApplied_need (p : PadId) : ((applyHeld (issued x s)).pads[p.val]).need = (s.issuedPad x p).need
    ∧ ((applyHeld (issued x s)).pads[p.val]).urgency = (s.issuedPad x p).urgency := by
  have h := heldApplied_rest (s := s) (x := x) p
  exact ⟨(congrArg Pad.need h).trans rfl, (congrArg Pad.urgency h).trans rfl⟩

theorem issued_notices : (issued x s).notices = s.notices ∧ (issued x s).fleet = s.fleet := by
  simp [issued, completeSweep, issuePads]

theorem issuedPad_need (p : PadId) :
    (∀ e : Entry, e ∈ orderList x s.alloc.rotation → e.pad = p →
      (s.issuedPad x p).need = e.need ∧ (s.issuedPad x p).urgency = e.urgency)
    ∧ ((∀ e : Entry, e ∈ orderList x s.alloc.rotation → e.pad ≠ p) →
      (s.issuedPad x p).need = 0 ∧ (s.issuedPad x p).urgency = 0) := by
  refine ⟨fun e he hp => ?_, fun hno => ?_⟩ <;> unfold State.issuedPad
  · rw [writeNeed_of_entry he hp]
    exact ⟨rfl, rfl⟩
  · rw [writeNeed_of_none hno]
    exact ⟨rfl, rfl⟩

/-! ## What the issue leaves, with and without a PENDING commit -/

theorem issueStage_frame (h : s.alloc.sweep = some x) (hengine : s.mode.engine = .running) :
    (issueStage s).alloc.sweep = none ∧ (issueStage s).mode.held = none
    ∧ (issueStage s).mode.scope = s.mode.held.getD s.mode.scope
    ∧ (issueStage s).alloc.rounds = s.alloc.rounds + 1
    ∧ (issueStage s).alloc.kept = (orderList x s.alloc.rotation).map Entry.pad
    ∧ (issueStage s).time.running = s.time.running ∧ (issueStage s).fleet.rx = s.fleet.rx
    ∧ (issueStage s).notices.captures = s.notices.captures := by
  have hend := issueStage_endedAs h hengine
  have halloc := (applyHeld_alloc (issued x s)).trans (issued_alloc x s)
  have hmode := applyHeld_mode (issued x s)
  rw [issued_mode] at hmode
  obtain ⟨hnotices, hfleet⟩ := issued_notices (s := s) (x := x)
  refine ⟨hend.sweep (by rw [halloc]), ?_, ?_, ?_, ?_, ?_, ?_, ?_⟩
  · rw [hend.held, hmode]
  · rw [hend.scope, hmode]
  · rw [hend.rounds, halloc]
  · rw [hend.kept, halloc]
  · rw [hend.running, applyHeld_time, issued_time]
  · rw [hend.rx, applyHeld_fleet, hfleet]
  · rw [hend.captures, applyHeld_notices, hnotices]

/-- Without a PENDING commit (R58, R86). -/
theorem issueStage_uncommitted (h : s.alloc.sweep = some x) (hc : s.tables.commit ≠ .pending) :
    (issueStage s).alloc.rotation = nextRotation (siteView x.bank.site) s.alloc.rotation
    ∧ (issueStage s).tables = s.tables ∧ (issueStage s).time = s.time ∧ (issueStage s).groups = s.groups
    ∧ (issueStage s).mode = { s.mode with scope := s.mode.held.getD s.mode.scope, held := none } := by
  have hcheck := calm_fastShedCheck (applyHeld (issued x s))
  rw [issueStage_plain h hc, hcheck.alloc, hcheck.tables, hcheck.time, hcheck.mode, fastShedCheck_groups,
    applyHeld_alloc, issued_alloc, applyHeld_mode, issued_mode]
  simp

theorem issueStage_committed (h : s.alloc.sweep = some x) (hc : s.tables.commit = .pending) :
    (issueStage s).tables.active = s.tables.shadow ∧ (issueStage s).tables.commit = .idle
    ∧ noticeIn .commitDone (issueStage s).notices.pendingSet = true := by
  have htables : (applyHeld (issued x s)).tables = s.tables := by rw [applyHeld_tables, issued_tables]
  rw [issueStage_steps h, activatePending_taken (by rw [htables, hc]), fastShedCheck_tables, fastShedCheck_notices,
    activate_tables, htables]
  exact ⟨rfl, rfl, activate_done _ _⟩

theorem issueStage_mark (h : s.alloc.sweep = some x) (hengine : s.mode.engine = .running) (p : PadId) :
    ((issueStage s).pads[p.val]).inScope = ((applyHeld (issued x s)).pads[p.val]).inScope :=
  (issueStage_endedAs h hengine).mark p

theorem issueStage_unheld (h : s.alloc.sweep = some x) (hengine : s.mode.engine = .running) (hheld : s.mode.held = none)
    (p : PadId) : ((issueStage s).pads[p.val]).inScope = (s.pads[p.val]).inScope := by
  rw [issueStage_mark h hengine, applyHeld_none (by rwa [issued_mode]), issued_mark]

theorem issueStage_held (h : s.alloc.sweep = some x) (hengine : s.mode.engine = .running) {y : Scope}
    (hheld : s.mode.held = some y) (p : PadId) : ((issueStage s).pads[p.val]).inScope = y.holds p := by
  rw [issueStage_mark h hengine, applyHeld_mark (by rwa [issued_mode])]

/-- A pad that loses its mark at the sweep's end (R177). -/
theorem issueStage_lost (h : s.alloc.sweep = some x) (hengine : s.mode.engine = .running) {p : PadId}
    (hin : (s.pads[p.val]).inScope = true) (hout : ((issueStage s).pads[p.val]).inScope = false) :
    ((issueStage s).pads[p.val]).grant = 0
    ∧ ((s.pads[p.val]).stayed = true → ((issueStage s).pads[p.val]).sent = 0
      ∧ (s.tables.commit ≠ .pending → LostAtIssue s (issueStage s) p)) := by
  rw [issueStage_mark h hengine] at hout
  have hgrant := applyHeld_lost_grant ((issued_mark p).trans hin) hout
  obtain ⟨hzero, hsent⟩ := (issueStage_endedAs h hengine).powerless p hgrant
  refine ⟨hzero, fun hstay => ?_⟩
  have hlost := lostAtIssue hstay hin hout
  refine ⟨hsent hlost.sent, fun hc => ?_⟩
  have hpad : (issueStage s).pads[p.val] = (applyHeld (issued x s)).pads[p.val] := by
    rw [issueStage_plain h hc]
    exact fastShedCheck_spares p hgrant
  have hgrows := (calm_fastShedCheck (applyHeld (issued x s))).grows (s.padRec p).line
  refine ⟨hpad ▸ hlost.sent, hpad ▸ hlost.state, fun hpos => ?_⟩
  obtain ⟨hdec, hprior, hurgent⟩ := hlost.falls hpos
  refine ⟨hpad ▸ hdec, hpad ▸ hprior, ?_⟩
  rw [issueStage_plain h hc]
  exact hgrows.subset hurgent

theorem issueStage_need (h : s.alloc.sweep = some x) (hengine : s.mode.engine = .running) (p : PadId) :
    ((issueStage s).pads[p.val]).need = (s.issuedPad x p).need
    ∧ ((issueStage s).pads[p.val]).urgency = (s.issuedPad x p).urgency := by
  obtain ⟨hneed, hurgency⟩ := (issueStage_endedAs h hengine).need p
  obtain ⟨hneed', hurgency'⟩ := heldApplied_need (s := s) (x := x) p
  exact ⟨hneed.trans hneed', hurgency.trans hurgency'⟩

theorem issueStage_rest (h : s.alloc.sweep = some x) (hc : s.tables.commit ≠ .pending) (p : PadId) :
    (issueStage s).pads[p.val] =
      { s.pads[p.val] with
        inScope := ((issueStage s).pads[p.val]).inScope, grant := ((issueStage s).pads[p.val]).grant
        sent := ((issueStage s).pads[p.val]).sent, prior := ((issueStage s).pads[p.val]).prior
        decPending := ((issueStage s).pads[p.val]).decPending, state := ((issueStage s).pads[p.val]).state
        need := ((issueStage s).pads[p.val]).need, urgency := ((issueStage s).pads[p.val]).urgency } := by
  have hcheck := ((calm_fastShedCheck (applyHeld (issued x s))).others p nofun).rest
  have hheld := heldApplied_rest (s := s) (x := x) p
  have hissued := issuedPad_rest (s := s) (x := x) p
  rw [issueStage_plain h hc]
  simp only [Fin.getElem_fin] at hcheck
  generalize (fastShedCheck (applyHeld (issued x s))).pads[p.val] = t at *
  generalize (applyHeld (issued x s)).pads[p.val] = u at *
  generalize s.issuedPad x p = j at *
  rw [hcheck, hheld, hissued]

end

/-- Settles O26. -/
theorem issueStageIssuesTheGrants : Obligations.IssueStageIssuesTheGrants := by
  intro s x h hengine
  have hexec : exec .issueStage s = .next (driveOutputs (issueStage s)) := rfl
  obtain ⟨hsweep, hheld, hscope, hrounds, hkept, hrunning, hrx, hcaptures⟩ := issueStage_frame h hengine
  have hcommitted := issueStage_committed h
  have hplain := issueStage_uncommitted h
  have hunheld := issueStage_unheld h hengine
  have htaken := fun y => issueStage_held h hengine (y := y)
  have hlost := fun p => issueStage_lost h hengine (p := p)
  have hneed := issueStage_need h hengine
  have hentry := issuedPad_need (s := s) (x := x)
  have hrest := issueStage_rest h
  have hpads := fun hc hr hend p => issueStage_kept h hc hr hend (p := p)
  generalize issueStage s = t at *
  refine ⟨_, hexec, hsweep, hheld, hrounds, hkept, hrunning, hrx, hcaptures, hcommitted, hplain, fun hnone => ?_,
    fun y hy => ⟨?_, fun p => ⟨?_, fun hin hout => ?_⟩⟩,
    fun p => ⟨fun e he hp => ?_, fun hno => ?_, fun hc => hrest hc p⟩,
    fun p n hn => ⟨newGrant_of_list hn, fun hc hr hend hmark => ⟨fun hstay => ?_, fun hstay => ?_⟩⟩⟩
  · exact ⟨hscope.trans (by rw [hnone]; rfl), hunheld hnone⟩
  · exact hscope.trans (by rw [hy]; rfl)
  · have hmark : (t.pads[p.val]).inScope = true ↔ y.holds p = true := by rw [htaken y hy p]
    exact hmark.trans (Scope.holds_iff y p)
  · obtain ⟨hgrant, hstays⟩ := hlost p hin hout
    refine ⟨hgrant, fun hstay => ?_⟩
    obtain ⟨hsent, hplain⟩ := hstays hstay
    exact ⟨hsent, fun hc => ⟨(hplain hc).state, (hplain hc).falls⟩⟩
  · obtain ⟨hn, hu⟩ := (hentry p).1 e he hp
    exact ⟨(hneed p).1.trans hn, (hneed p).2.trans hu⟩
  · obtain ⟨hn, hu⟩ := (hentry p).2 hno
    exact ⟨(hneed p).1.trans hn, (hneed p).2.trans hu⟩
  · obtain ⟨m, hpad, hor, hclear, hwaits⟩ := hpads hc hr hend p hmark
    obtain ⟨hgrant, hstate, hsent, hdec, hprior⟩ := issuedPad_stayed (newGrant_of_list hn) hstay
    rw [hsent, hgrant] at hor hclear
    rw [hsent] at hwaits
    have hany : (driveOutputs t).anyPending = t.anyPending := rfl
    simp only [driveOutputs_pads, Fin.getElem_fin, hany]
    rw [hpad]
    dsimp only
    rw [hgrant, hstate, hdec, hprior]
    refine ⟨rfl, rfl, fun hlt => ⟨?_, ?_, if_pos hlt⟩, fun hle => ⟨?_, if_neg (Nat.not_lt.mpr hle), ?_, ?_, ?_⟩⟩
    · omega
    · rw [decide_eq_true hlt, Bool.or_true]
    · rw [decide_eq_false (Nat.not_lt.mpr hle), Bool.or_false]
    · intro hfalse
      have hm := hclear hfalse
      omega
    · omega
    · intro hnone htrue
      have hm := hwaits hnone htrue
      omega
  · obtain ⟨m, hpad, -, -, -⟩ := hpads hc hr hend p hmark
    obtain ⟨hgrant, hstate, hdec, hprior⟩ := issuedPad_idle (x := x) hstay
    simp only [driveOutputs_pads, Fin.getElem_fin]
    rw [hpad]
    exact ⟨hgrant, hstate, hdec, hprior⟩

end Sys2Proof.Machine
